-- ==== Sys2Proof/Word.lean ====
section
/-! DEFINITION. The words of the part: a 32-bit register word, a byte, and the sparse stores that hold registers,
tables and buffers by number. -/

namespace Sys2Proof

/-- A 32-bit register or table word. -/
abbrev Word := BitVec 32

/-- A byte of a buffer, a packet or the flash. -/
abbrev Byte := BitVec 8

/-- A store by number: pairs of a number and a value, numbers rising, no pair that holds what an unlisted number
reads as. The operations on it are in Machine/Ops.lean. -/
abbrev Sparse (β : Type) := List (Nat × β)

end Sys2Proof
end

