-- ==== Sys2Proof/Packet.lean ====
section
/-! DEFINITION. What travels: the requesters of register space, the modes, the transaction layer packets of PCIe as far as
the manual acts on them, the Cocoon header and the inner frames of a Cocoon unit, and the parcels of a Smiwaven link. -/

namespace Sys2Proof.Machine

/-- Who makes a register access (R482): Chitin, Colony, or the host of local domain `d` through its Control Function. -/
inductive Requester where
  | chitin
  | colony
  | cf (d : Fin 64)
  deriving DecidableEq, Repr

/-- The twelve modes of R21. -/
inductive Mode where
  | off | sentinel | standby | boot | transparent | partitioned | fabricMember | fabricRoot | degraded | fenced
  | maintenance | test
  deriving DecidableEq, Repr

/-- The kinds of transaction layer packet the manual tells apart. -/
inductive TlpKind where
  | memRead | memWrite | atomic | dmWr | cfgRead | cfgWrite | msg | cpl
  deriving DecidableEq, Repr

/-- Completion status: Successful Completion, Unsupported Request, Completer Abort, Request Retry Status. -/
inductive CplStatus where
  | sc | ur | ca | rrs
  deriving DecidableEq, Repr

/-- A transaction layer packet. `len` is the payload of a write or completion and the length asked for by a read, in
bytes, 0 for a zero-length request (R381); `hdrLen` counts prefixes, header and digest; `id` is the completer of a completion and the destination of an
ID-routed request or message; `addr` is the byte address, the register offset of a configuration request, the Lower
Address of a completion or the code of a message; `tag` of a message is its routing code (0 to the root, 2 by ID, 3 broadcast,
4 local); `atType` of a configuration request towards a device is its type, 0 or 1. -/
structure Tlp where
  kind : TlpKind
  addr : BitVec 64
  len : Nat
  data : List Byte
  rid : BitVec 16
  tag : Nat
  id : BitVec 16
  tc : Nat
  atType : Nat
  hdrLen : Nat
  ro : Bool
  ido : Bool
  ep : Bool
  status : CplStatus
  byteCount : Nat
  deriving DecidableEq, Repr

/-- Every field at rest: the base that a packet the part builds itself is an update of. -/
def Tlp.blank : Tlp where
  kind := .memWrite
  addr := 0
  len := 0
  data := []
  rid := 0
  tag := 0
  id := 0
  tc := 0
  atType := 0
  hdrLen := 16
  ro := false
  ido := false
  ep := false
  status := .sc
  byteCount := 0

/-- The Cocoon header of R297. -/
structure CocoonHdr where
  dst : Nat
  src : Nat
  domain : Nat
  cls : Nat
  kind : Nat
  fseq : Nat
  ilen : Nat
  hops : Nat
  mcf : Bool
  mcg : Nat
  ortx : Nat
  ts : Nat
  psel : Nat
  poison : Bool
  ide : Bool
  ro : Bool
  rsv : Nat
  deriving DecidableEq, Repr

/-- The inner frame of a Cocoon unit, by kind (R298, R277, R311, R318, R328). `raw` is an inner frame of a reserved kind
or of a layout no rule gives. -/
inductive Inner where
  | tlp (t : Tlp)
  | mctp (bytes : List Byte)
  | hive (type : Nat) (bytes : List Byte)
  | commitAck (failed : Bool) (cause : Nat)
  | synthCpl (rid : BitVec 16) (tag : Nat) (status : Nat) (lowerAddr : Nat) (byteCount : Nat)
  | probe (op : Nat) (index : Nat) (count : Nat)
  | time (now : Nat) (epoch : Nat) (chip : Nat)
  | raw (bytes : List Byte)
  deriving DecidableEq, Repr

/-- What a frame holds (R155): a local packet, or a Cocoon unit with its header. -/
inductive Body where
  | local (t : Tlp)
  | unit (h : CocoonHdr) (i : Inner)
  deriving DecidableEq, Repr

/-- A 66-bit block of a Smiwaven lane (R64): the sync header, its first bit in bit 1, and the payload, byte 0 in the most significant byte. -/
structure Block where
  hdr : BitVec 2
  pay : BitVec 64
  deriving DecidableEq, Repr

/-- What the eye monitor and the receiver find as a lane starts (R43, R51, R55, R57, R59). An eye is its height and width at the 1e-6 contour
in units of 1/65,536 of the ideal height and of one UI; a measurement lists the eyes of the lane, one for NRZ and three for PAM4. `presets`:
the measurement for each far-end preset that the part asks for, in the order it asks; `sweep`: the measurement at each CTLE code of the
window from the lowest (at 2.5 and 5 GT/s one, at the start code); `asked`: the presets the far end asks of this transmitter, in order; `inverted`: the receive pair is
inverted; `arrival`: when the lane's ALIGN block arrives, in ps; `peer`: the lane number in it. -/
structure LaneMeas where
  presets : List (List (Nat × Nat))
  sweep : List (List (Nat × Nat))
  asked : List Nat
  inverted : Bool
  arrival : Nat
  peer : Nat
  deriving DecidableEq, Repr

/-- The parcel header of R122. `rsv` is the value of the reserved bits [10:0]. -/
structure ParcelHdr where
  ptype : Nat
  vc : Nat
  cfirst : Bool
  clast : Bool
  cbytes : Nat
  epoch : Nat
  seq : Nat
  ack : Nat
  ackMap : Nat
  craVc : Nat
  craCum : Nat
  crbVc : Nat
  crbCum : Nat
  fo : Bool
  foc : Bool
  rsv : Nat
  deriving DecidableEq, Repr

/-- What a parcel carries once decrypted (R125): one cell of a Cocoon unit (the unit's header and inner frame travel with
its first cell, a RESUME probe of R316 as a unit of its own), a link control message, the tag of a group, or a NULL's counter and
tag. -/
inductive Payload where
  | cell (u : Option Body)
  | lctlBreak (stn : Nat) (link : Nat) (cause : Nat)
  | lctlTimeReq (exch : Nat) (t1 : Nat)
  | lctlTimeResp (exch : Nat) (t1 : Nat) (t2 : Nat) (t3 : Nat)
  | lctlFoRsv (cells : Nat)
  | lctlOther (code : Nat)
  | tag (t : BitVec 128)
  | null (ctr : Nat) (t : BitVec 128)
  deriving DecidableEq, Repr

/-- An election key (R329): epoch, priority, identifier, and the chip that has it. -/
structure RootKey where
  epoch : Nat
  prio : Nat
  id : Nat
  chip : Nat
  deriving DecidableEq, Repr

/-- State of a PCIe port's link training machine (R519, R518), as far as the manual tells its states apart. `training` is
Polling or Configuration. -/
inductive Ltssm where
  | detect | training | l0 | l0p | l1 | l11 | l12 | recovery | hotReset | disabled
  deriving DecidableEq, Repr

/-- A resource of this chip: a port, a function of a ROLE 3 port, or a pool range. -/
inductive Res where
  | port (t : Nat)
  | fn (t : Nat) (prid : BitVec 16)
  | range (t : Nat) (base : Nat) (log2 : Nat)
  deriving DecidableEq, Repr

/-- What Hive has found behind a port (R404): the function, its Vendor and Device ID or 0, whether it is a VF, and of a pool port the size of the largest
free range. -/
structure FreeItem where
  port : Nat
  prid : BitVec 16
  vendor : Nat
  device : Nat
  vf : Bool
  log2 : Nat
  deriving DecidableEq, Repr

end Sys2Proof.Machine
end

