-- ==== Sys2Proof/Syntax.lean ====
section
/-! DEFINITION. The commands of the part: one constructor for each row of the opcode table, with the operands its rule
names. Ports are local PCIe ports 8n + p, links are link codes 2n + l, domains are local domain indexes. -/

namespace Sys2Proof

open Sys2Proof.Machine

/-- A command: an access to a register, an event on a wire or a bus, or an operation of one of the part's own engines. -/
inductive Instr where
  /-- REGISTER_WRITE (R16). A write by Chitin, Colony or host software to a register that has no row of its own is
  checked for visibility and stored or posted towards the owning clock domain. -/
  | registerWrite (req : Requester) (addr : Nat) (lo : Word) (hi : Option Word)
  /-- POSTED_WRITE_EFFECT (R16). A posted write that crossed towards a non-CORE owning domain takes effect there
  within 16 owning-domain clocks. -/
  | postedWriteEffect (req : Requester) (addr : Nat)
  /-- CLEARING_READ (R9). A read of an RC field returns its value to the requester and clears it, or removes the head
  entry of a queue such as I3C.IBI. -/
  | clearingRead (req : Requester) (addr : Nat) (wide : Bool)
  /-- MODE_REQ_STANDBY (R518). A MODE_REQ with TARGET STANDBY is accepted only while the STANDBY acceptance condition
  holds and then starts STANDBY entry, or is rejected with REJ_CODE 0x5. -/
  | modeReqStandby (req : Requester) (key : BitVec 8)
  /-- MODE_REQ_SENTINEL (R29). A MODE_REQ with TARGET SENTINEL is held as an intent in TRANSPARENT or PARTITIONED, or
  acts under the STANDBY-to-SENTINEL transition in STANDBY. -/
  | modeReqSentinel (req : Requester) (key : BitVec 8)
  /-- MODE_REQ_BOOT (R22). A MODE_REQ with TARGET BOOT starts a warm device reset. -/
  | modeReqBoot (req : Requester) (key : BitVec 8)
  /-- MODE_REQ_FABRIC_MEMBER (R28). A MODE_REQ by Hive with TARGET FABRIC_MEMBER requests the fabric member role when
  legal under R22. -/
  | modeReqFabricMember (req : Requester) (key : BitVec 8)
  /-- MODE_REQ_FABRIC_ROOT (R28). A MODE_REQ by Hive with TARGET FABRIC_ROOT requests the fabric root role when legal
  under R22. -/
  | modeReqFabricRoot (req : Requester) (key : BitVec 8)
  /-- TRANSPARENT_ENTRY (R30). When the Chitin image is verified, the required units pass their checks and START is 0
  or fallback applies, the part leaves BOOT for TRANSPARENT. -/
  | transparentEntry
  /-- PARTITIONED_ENTRY (R22). When Colony is verified and started and Hive has attached the configured domains, the
  part leaves BOOT for PARTITIONED. -/
  | partitionedEntry
  /-- FABRIC_DISCOVERY (R22). Hive discovery over an active Smiwaven link finds another FS-256 and the root election
  completes, moving the part to FABRIC_MEMBER or FABRIC_ROOT. -/
  | fabricDiscovery (found : List RootKey) (later : Bool)
  /-- ROOT_HEARTBEAT (R329). Every 1 ms the root sends the standby root a HIVE heartbeat. -/
  | rootHeartbeat
  /-- HEARTBEAT_MISS (R330). After three missed root heartbeats the standby increments ROOT_EPOCH and becomes root. -/
  | heartbeatMiss
  /-- HANDOVER (R330). A write of ROOT_CTL.HANDOVER at the root passes the role to the standby with the epoch
  incremented. -/
  | handover (req : Requester)
  /-- DEGRADED_EXIT (R360). When every consumed kind of redundancy has been confirmed restored, the part returns to
  its recorded role. -/
  | degradedExit
  /-- STATION_CONFIG_WRITE (R37). A write to GLB.STN_CFGn is checked against R34 to R36, rejected whole or applied,
  with EN starting enable or disable and other changes held as pending. -/
  | stationConfigWrite (req : Requester) (n : Fin 16) (w : Word)
  /-- STATION_ENABLE (R38). A station enable pre-announces its load step to the regulator before the station power-up
  proceeds. -/
  | stationEnable (n : Fin 16)
  /-- STATION_POWER_UP (R38). After the regulator acknowledgement the station closes its power switches, locks its
  PLLs, receives its lane start table and begins receiver detection or Smiwaven lock. -/
  | stationPowerUp (n : Fin 16) (ok : Bool)
  /-- STATION_DISABLE (R39). EN written 0 stops admission at the station, contains what is queued for it, takes its
  links down and opens its power switches. -/
  | stationDisable (n : Fin 16)
  /-- PCIE_LINK_UP (R95). A PCIe port reaches DL_Active, after which the upstream port resends Assert_INTx for every
  wire at 1. -/
  | pcieLinkUp (t : Fin 128) (rate : Fin 7) (width : Fin 17) (flit : Bool) (reversed : Bool) (meas : List LaneMeas)
  /-- PCIE_RATE_CHANGE (R50). A PCIe rate change or retraining restarts each lane from the start entry of the new rate
  group and abandons any adaptation, margining or lock in progress. -/
  | pcieRateChange (t : Fin 128) (rate : Fin 7) (found : List LaneMeas)
  /-- BACKGROUND_ADAPT (R51). Every PERIOD eye-monitor windows a lane in L0 trials a neighbouring CTLE code and moves
  one code when the trial beats the current FOM by HYST. -/
  | backgroundAdapt (n : Fin 16) (lane : Fin 16) (eCur : List (Nat × Nat)) (eTry : List (Nat × Nat))
  /-- L0P_WIDTH_REDUCE (R70). An L0p width reduction takes place without precondition. -/
  | l0pWidthReduce (t : Fin 128) (width : Nat)
  /-- L0P_WIDTH_INCREASE (R70). An L0p width increase starts once Firefly has acknowledged the load-step pre-
  announcement for the returning lanes. -/
  | l0pWidthIncrease (t : Fin 128) (width : Nat)
  /-- MARGIN_GO (R71). A write of SERDES.MARGIN_CTL.GO starts a margining run on the selected lane, or rejects an
  invalid lane with ERR_CNT 0xFF. -/
  | marginGo (req : Requester) (n : Fin 16) (w : Word)
  /-- MARGIN_RUN_END (R71). A margining run ends after 2^20 UI or at ERR_LIMIT, setting DONE and LIMIT and resuming
  background adaptation. -/
  | marginRunEnd (n : Fin 16) (errors : Nat)
  /-- FORWARDED_CLOCK_LOSS (R62). A forwarded clock without edges for 32 ns or out of frequency is declared lost,
  counted and the link declared broken. -/
  | forwardedClockLoss (l : Fin 32)
  /-- BLOCK_LOCK_LOSS (R63). A lane with 16 of 64 invalid sync headers, or needing a phase correction beyond tracking,
  loses block lock and breaks its link. -/
  | blockLockLoss (l : Fin 32) (lane : Fin 8)
  /-- RX_CONTROL_BLOCK (R67). A received control block is handled as IDLE, ALIGN or TRAIN, a reserved type counting as
  IDLE in CTL_UNKNOWN. -/
  | rxControlBlock (l : Fin 32) (k : Fin 8) (b : Block)
  /-- ALIGN_GROUP (R68). When 16,384 blocks per lane have passed, the transmitter sends an ALIGN group at the next
  parcel boundary and multiple-of-8 position. -/
  | alignGroup (l : Fin 32)
  /-- CONFIG_REQUEST (R81). A configuration request from a host is answered from core logic, with RRS or UR, or
  forwarded below a virtual bridge. -/
  | configRequest (t : Fin 128) (tlp : Tlp) (sriov : Option Nat) (flr : Bool)
  /-- MSIX_ENABLE (R93). Setting MSI-X Enable treats each vector whose sources are active as a rise and removes the
  INTx contribution. -/
  | msixEnable (d : Fin 64)
  /-- INTX_DISABLE (R94). Setting Command.INTx Disable removes the Control Function's INTA contribution in the same
  clock. -/
  | intxDisable (d : Fin 64)
  /-- MSIX_VECTOR_RISE (R93). When the OR of sources mapped to a vector rises, the part sends the MSI-X message or
  sets the PBA bit when masked. -/
  | msixVectorRise (d : Fin 64) (v : Fin 2048)
  /-- MSIX_UNMASK (R93). When a set PBA bit's masking condition clears, the part sends the message and clears the PBA
  bit. -/
  | msixUnmask (d : Fin 64) (v : Fin 2048)
  /-- ASSERT_INTX (R96). An Assert_INTx message from a bound function sets its state bit and may raise a domain wire
  and send Assert_INTx upstream. -/
  | assertIntx (t : Fin 128) (rid : BitVec 16) (pin : Fin 4)
  /-- DEASSERT_INTX (R96). A Deassert_INTx message from a bound function clears its state bit and may drop a domain
  wire and send Deassert_INTx upstream. -/
  | deassertIntx (t : Fin 128) (rid : BitVec 16) (pin : Fin 4)
  /-- FLR_INITIATE (R100). A configuration write setting Initiate FLR completes, stops the domain's Drone channels,
  MSI-X and INTx contribution and aborts a pending mailbox command. -/
  | flrInitiate (d : Fin 64)
  /-- FLR_COMPLETE (R100). Within 1 ms the Control Function's configuration space and its CFN, CFMB and DRC pages
  return to reset values and RRS ends. -/
  | flrComplete (d : Fin 64)
  /-- BUS_MASTER_DISABLE (R102). Clearing Bus Master Enable of the Control Function moves every RUNNING Drone channel
  to ABORTED_BME. -/
  | busMasterDisable (d : Fin 64)
  /-- DOORBELL_WRITE (R88). A doorbell write sets a channel slot's producer index, entering STOPPED_ERR on ring
  overflow, or is discarded for an unassigned slot. -/
  | doorbellWrite (d : Fin 64) (slot : Fin 256) (prod : BitVec 16)
  /-- CHANNEL_RESET (R103). A write of DRC.CH_CTL.RESET with Bus Master Enable set returns a stopped or aborted
  channel to IDLE. -/
  | channelReset (d : Fin 64) (slot : Fin 256)
  /-- CHANNEL_EN_WRITE (R107). A write of DRC.CH_CTL.EN lets a channel fetch descriptors, or with 0 lets the current
  descriptor finish and idles the channel. -/
  | channelEnWrite (d : Fin 64) (slot : Fin 256) (en : Bool)
  /-- DESCRIPTOR_FETCH (R105). A channel whose producer index moved issues a ring read of up to eight descriptors. -/
  | descriptorFetch (d : Fin 64) (slot : Fin 256)
  /-- DESCRIPTOR_RUN (R107). A fetched descriptor is checked and run as COPY, FILL, COMPARE or NOP by issuing reads
  and writes under the domain's lookup. -/
  | descriptorRun (d : Fin 64) (slot : Fin 256)
  /-- DESCRIPTOR_COMPLETE (R107). When all reads of a descriptor have completed and all writes committed or failed,
  the channel writes the completion record and advances CONS. -/
  | descriptorComplete (d : Fin 64) (slot : Fin 256)
  /-- DRONE_BIND_WRITE (R104). A Guarded Write Port write of DRNd.CH_BIND binds or unbinds a physical channel to a
  domain slot and reports BIND_RES. -/
  | droneBindWrite (req : Requester) (drone : Fin 2) (c : Fin 256) (w : Word)
  /-- DOMAIN_RESET (R113). A domain reset stops admission, quarantines ORT entries, resets devices, frees ledger slots
  and returns the virtual switch to reset values. -/
  | domainReset (d : Fin 64)
  /-- DOMAIN_RESET_RELEASE (R113). At the qualified deassertion of the domain's PERST_N the held domain reset
  completes. -/
  | domainResetRelease (d : Fin 64)
  /-- SECONDARY_BUS_RESET_SET (R112). Setting Secondary Bus Reset in a virtual bridge or function 0 hot-resets PORT
  links and issues FLR to SHARED functions below it. -/
  | secondaryBusResetSet (d : Fin 64) (fn : Fin 256)
  /-- SECONDARY_BUS_RESET_CLEAR (R112). Clearing Secondary Bus Reset ends the bridge reset and lets PORT links train
  again. -/
  | secondaryBusResetClear (d : Fin 64) (fn : Fin 256)
  /-- POWER_CONTROLLER_OFF (R340). A write of Power Controller Control Off in a PORT bridge sets EXPECT_DOWN for its
  port. -/
  | powerControllerOff (d : Fin 64) (vb : Fin 128)
  /-- PERST_MAP_WRITE (R116). A write to GLB.PERST_MAPn assigns a PERST_N to a domain or is rejected with CONFLICT,
  and its EN is copied to FFY.PERST_ARM. -/
  | perstMapWrite (req : Requester) (k : Fin 16) (w : Word)
  /-- MB_GO (R117). Writing CFMB.MB_CTL.GO submits a mailbox command, moving the mailbox to PENDING or completing it
  at once with BAD_LEN, BAD_OPCODE or BUSY. -/
  | mbGo (d : Fin 64)
  /-- MB_ABORT (R118). Writing CFMB.MB_CTL.ABORT completes a pending command with ABORTED. -/
  | mbAbort (d : Fin 64)
  /-- MB_TIMEOUT (R118). A command that stays PENDING longer than MB_TMO completes with TIMEOUT. -/
  | mbTimeout (d : Fin 64)
  /-- NOP (R119). Mailbox opcode 0x0000 returns OK and the request data unchanged. -/
  | nop (d : Fin 64)
  /-- COLONY_RESPONSE (R421). Colony's write of MBX.RSP.GO completes the selected mailbox with its result when PENDING
  with a matching SEQ, or is discarded with STALE. -/
  | colonyResponse (w : Word)
  /-- RX_PARCEL (R130). A received parcel is checked, charged and held, its reverse ACK and credit fields are applied,
  and verified groups are released to the switch. -/
  | rxParcel (l : Fin 32) (hdr : BitVec 128) (body : List Byte) (crc : BitVec 64) (load : Payload) (tagOk : Bool)
  /-- NULL_PARCEL (R128). When 256 ns pass without a header, or ACK or credits change with nothing to send, the
  transmitter sends a NULL parcel. -/
  | nullParcel (l : Fin 32)
  /-- REPLAY_TIMEOUT (R132). When the replay timer reaches TMO the transmitter resends unacknowledged parcels, or
  breaks the link with cause REPLAY beyond LIMIT. -/
  | replayTimeout (l : Fin 32)
  /-- CREDIT_TIMEOUT (R139). A VC with pending traffic and no credit for CREDIT_TMO breaks the link with cause CREDIT.
  -/
  | creditTimeout (l : Fin 32)
  /-- LINK_BREAK (R150). A link declared broken sends TRAIN BREAK and LCTL BREAK, releases verified groups, clears
  credits and passes unacknowledged DATA parcels to its twin, or redispatches them without a twin. -/
  | linkBreak (l : Fin 32) (cause : Fin 8)
  /-- FORCE_BREAK (R149). A write of LINK_CTL.FORCE_BREAK declares the link broken with cause 6. -/
  | forceBreak (req : Requester) (l : Fin 32)
  /-- BROKEN_EXIT (R143). When all failover resends are acknowledged on the twin, or 100 µs pass, a BROKEN link
  returns to CLOCK_WAIT or DISABLED. -/
  | brokenExit (l : Fin 32)
  /-- LINK_ENABLE (R143). Writing LINK_CTL.EN to 1 starts training in CLOCK_WAIT, and writing 0 breaks and disables
  the link. -/
  | linkEnable (req : Requester) (l : Fin 32) (en : Bool)
  /-- FORWARDED_CLOCK_STABLE (R143). A stable forwarded clock in CLOCK_WAIT moves the link to LOCK. -/
  | forwardedClockStable (l : Fin 32)
  /-- LOCK_DONE (R60). Completion of phase centring, block lock and lane alignment on all lanes moves the link to
  IDENT. -/
  | lockDone (l : Fin 32) (meas : List LaneMeas)
  /-- TS1_IDENTIFIED (R145). Eight identical TS1 move the link to CONFIRM and record the peer epoch, or hold it in
  IDENT on a loopback chip number. -/
  | ts1Identified (l : Fin 32) (chip : Fin 128) (stn : Fin 16) (link : Fin 2) (epoch : Fin 16)
  /-- TS2_CONFIRMED (R143). Eight TS2 received and sixteen sent move the link to ACTIVE, carving its allotments and
  starting credit exchange. -/
  | ts2Confirmed (l : Fin 32)
  /-- TRAIN_TMO (R143). A non-ACTIVE state that lasts 10 ms without progress returns the link to CLOCK_WAIT and sets
  TRAIN_TMO. -/
  | trainTmo (l : Fin 32)
  /-- SLEEP_REQ (R146). With LINK_CTL.SLEEP_REQ set and the side drained, the link sends SLEEP_REQ groups. -/
  | sleepReq (l : Fin 32)
  /-- SLEEP_REQ_RECEIVE (R146). A received SLEEP_REQ is answered with SLEEP_ACK when this side is drained, or
  SLEEP_NAK otherwise or when the twin is not ACTIVE. -/
  | sleepReqReceive (l : Fin 32)
  /-- SLEEP_ACK (R146). After SLEEP_ACK both sides stop the stream and place lanes in electrical idle, entering SLEEP.
  -/
  | sleepAck (l : Fin 32)
  /-- SLEEP_NAK (R146). A received SLEEP_NAK refuses the sleep handshake and the link stays ACTIVE. -/
  | sleepNak (l : Fin 32)
  /-- WAKE (R147). A write of LINK_CTL.WAKE, or need of a sleeping link, sends the wake pattern and enters CLOCK_WAIT.
  -/
  | wake (l : Fin 32)
  /-- WAKE_RETRY (R147). When the link has not reached ACTIVE 10 ms after the wake pattern it is sent again, up to
  three times, then WAKE_FAIL is set. -/
  | wakeRetry (l : Fin 32)
  /-- TWIN_PAIR_FORM (R148). Two keyed ACTIVE links naming each other to the same peer form a pair, carve the failover
  reserve and announce it by LCTL FO_RSV. -/
  | twinPairForm (l : Fin 32)
  /-- TWIN_RESTORED (R153). A link that stays ACTIVE for 10 ms without a break counts as restored twin redundancy. -/
  | twinRestored (l : Fin 32)
  /-- TLP_RECEIVE (R239). A TLP arriving at a PCIe port is identified, claimed, checked, tracked and translated by the
  lookup engine and queued as cells, or refused under R99. -/
  | tlpReceive (t : Fin 128) (tlp : Tlp)
  /-- TLP_NULLIFIED (R176). A TLP nullified by its sender after partly crossing has its remaining cells sent with
  ABORT so that no byte is emitted. -/
  | tlpNullified (t : Fin 128)
  /-- COLONY_REQUEST (R401). A request Colony issues as local port 258 is checked against the target's ownership and
  refused unless permitted. -/
  | colonyRequest (target : BitVec 16) (tlp : Tlp)
  /-- TRACK_RESUME (R258). A request waiting at the Track stage for an ORT entry, quota or tag proceeds when one
  becomes available. -/
  | trackResume (k : Nat)
  /-- LEDGER_SLOT_RESUME (R275). A tracked write waiting for a ledger slot or account quota takes a slot when one
  frees. -/
  | ledgerSlotResume (k : Nat)
  /-- GATE_CLEAR (R281). A DEVICE request held by the gate is forwarded once the earlier DEVICE requests of its record
  have finished. -/
  | gateClear (k : Nat)
  /-- CREDIT_ADVERTISE (R199). A PCIe ingress port advertises flow-control credit once backing is granted and its
  lossless policer holds the cost. -/
  | creditAdvertise (t : Fin 128) (type : Fin 3) (h : Nat) (d : Nat)
  /-- BACKING_REQUEST (R202). A backing request against an account is granted from its minimum or the shared pool,
  pushing out droppable cells if needed, or refused. -/
  | backingRequest (t : Fin 128) (type : Fin 3) (a : Fin 64) (need : Nat)
  /-- DROPPABLE_ADMIT (R203). A locally generated droppable cell passes its policer and is admitted from the shared
  pool, pushes out a lower class or is dropped. -/
  | droppableAdmit (tgt : BitVec 16) (cls : Fin 8) (a : Fin 64) (n : Fin 16) (tlp : Tlp)
  /-- MATCH_PLANE (R170). Once per cell time each plane forms requests and runs three grant and accept iterations, and
  inputs choose the cells for their matched planes. -/
  | matchPlane
  /-- LANDING_ACK (R161). A target acknowledges a landing, releasing the buffer cell when good, or revealing a data
  error or RANK mismatch. -/
  | landingAck (plane : Fin 4) (result : Fin 4)
  /-- AGENT_CONSUME (R161). An agent consumes a cell it holds against its landing credit and releases it. -/
  | agentConsume (a : Fin 6)
  /-- AGE_DROP (R209). A droppable cell older than DROP_US is discarded with its frame or has its remaining cells sent
  with ABORT. -/
  | ageDrop (f : Nat)
  /-- STUCK_DECLARATION (R210). A lossless cell older than LL_US declares its target stuck, discarding and answering
  every queued frame for it and starting containment. -/
  | stuckDeclaration (f : Nat)
  /-- PLANE_WATCHDOG (R180). No match on a plane for CELLTIMES cell times with requests pending declares the plane
  lost. -/
  | planeWatchdog (p : Fin 4)
  /-- PLANE_LOST (R181). A lost plane stops matching, discards and redispatches cells after the first lost one, drops
  from the enabled list and is powered off. -/
  | planeLost (p : Fin 4) (cause : Fin 8) (xp : Fin 20)
  /-- BIST_GO (R185). A write of XBP.PLANE_CTL.BIST_GO powers the plane if needed and starts its built-in test. -/
  | bistGo (req : Requester) (p : Fin 4)
  /-- BIST_END (R185). The plane's built-in test ends, setting STATE OFF and BIST_PASS or BIST_FAIL. -/
  | bistEnd (p : Fin 4) (pass : Bool)
  /-- REJOIN (R185). A write of REJOIN for a tested plane announces the new enabled-plane list 16 cell times ahead, or
  is ignored with REJOIN_FAIL. -/
  | rejoin (req : Requester) (p : Fin 4)
  /-- PLANE_JOIN_APPLY (R185). At the announced cell time every XP applies the new plane list and the plane becomes
  ACTIVE. -/
  | planeJoinApply
  /-- RETIRE (R180). A write of XBP.PLANE_CTL.RETIRE declares the plane lost and opens its power switches. -/
  | retire (req : Requester) (p : Fin 4)
  /-- POOL_SIZE_WRITE (R196). A write to CPL_RSV, ESC_RSV, MGMT_RSV or ACCT_CFG.MIN is refused when S would fall below
  4,096, or resizes the pool. -/
  | poolSizeWrite (req : Requester) (addr : Nat) (w : Word)
  /-- UNIT_REQUEST (R10). A write of PWR.UNIT_REQ enables or disables buffer quarters, Drones, Antenna or Colony under
  the load-step rule, refusing a quarter disable with cells in use. -/
  | unitRequest (req : Requester) (w : Word)
  /-- AUDIT_ROUND (R213). The credit auditor evaluates every conservation identity and on a violation records it and
  starts containment or a chip-wide rebuild. -/
  | auditRound
  /-- SNAP (R215). A write of BUF.AUD_CTL.SNAP captures FREE, QUEUED, IN_FLIGHT and WITHHELD in one clock. -/
  | snap (req : Requester)
  /-- SCHEDULER_CHOOSE (R224). An egress target chooses its next frame or cell by deficit round robin, charging
  deficit and shaper tokens, and hands it to its transmit path. -/
  | schedulerChoose (xp : Fin 16) (sub : Fin 10) (fc : Fin 8)
  /-- SHAPER_REFILL (R226). Every 32 ns at the chip-wide refill instant each shaper and policer bucket gains RATE
  units, applies pending configuration and is capped. -/
  | shaperRefill
  /-- TBL_READ (R266). A TBL access with OP 0 reads an entry into ACC_DATA. -/
  | tblRead (req : Requester)
  /-- TBL_WRITE (R522). A TBL access with OP 1 checks the entry against structural rules and, through window 0, the
  Guarded Write Port, and writes it when OK. -/
  | tblWrite (req : Requester)
  /-- TBL_INVALIDATE (R266). A TBL access with OP 2 clears the entry's VALID bit without a grant check. -/
  | tblInvalidate (req : Requester)
  /-- TBL_OP_RESERVED (R266). A TBL access with OP 3 completes at once with BAD_FIELD and changes nothing. -/
  | tblOpReserved (req : Requester)
  /-- PORT_CTL_WRITE (R77). A Guarded Write Port write of Pp.PORT_CTL sets a port's role, domain and virtual bridge,
  or a direct write is discarded. -/
  | portCtlWrite (req : Requester) (t : Fin 128) (w : Word)
  /-- COMPLETION_RECEIVE (R261). A completion is matched to its ORT entry, restored and translated, forwarded towards
  its requester and closes the entry when final. -/
  | completionReceive (t : Fin 128) (tlp : Tlp)
  /-- ORT_DEADLINE (R263). An ORT entry reaching its deadline answers CA, or sends SYNTH_CPL completion timeout from a
  FAR entry, and is quarantined or freed. -/
  | ortDeadline (k : Nat)
  /-- QUARANTINE_EXPIRE (R263). An entry in QUARANTINE becomes FREE after LL_US + 20 µs, releasing its tag. -/
  | quarantineExpire (k : Nat)
  /-- WRITE_COMMIT (R271). A tracked write reaches its commit point at its target, and the chip returns a COMMIT_ACK
  or resolves the local ledger slot. -/
  | writeCommit (f : Nat)
  /-- COMMIT_ACK_RECEIVE (R278). A COMMIT_ACK is matched by index and generation to a used ledger slot and resolves
  it, or is discarded unmatched. -/
  | commitAckReceive (h : CocoonHdr) (failed : Bool) (cause : Fin 16)
  /-- LEDGER_DEADLINE (R276). A ledger slot still used at its CTMO deadline fails with cause NO_ACK. -/
  | ledgerDeadline (k : Nat)
  /-- FENCE_READ (R284). A read of the lower half of FENCE, FENCE_CL or FENCE_DOM passes the gate and is held until
  every slot in its scope at arrival has resolved. -/
  | fenceRead (t : Fin 128) (tlp : Tlp)
  /-- FENCE_COMPLETE (R286). When the fence's slots have resolved the part builds its value, returns the completion
  and clears the counts. -/
  | fenceComplete (k : Nat)
  /-- JOURNAL_LATCH (R292). A write of ORDV.JRNL_SEL latches the selected journal entry into JRNL_ENT in one clock. -/
  | journalLatch (d : Fin 64) (w : Word)
  /-- COCOON_UNIT_RECEIVE (R306). A Cocoon unit arriving at a chip is checked, forwarded in transit with HOPS
  decremented, replicated for multicast, or delivered to the resequencer. -/
  | cocoonUnitReceive (l : Fin 32)
  /-- RSQ_CELL (R313). The resequencer holds, releases in order, discards as duplicate or faults a cell of a lossless
  flow. -/
  | rsqCell (xp : Fin 20)
  /-- HOLE_TIMEOUT (R315). A hole existing for 20 µs discards incomplete frames, voids missing sequences, answers
  discarded frames and resumes release. -/
  | holeTimeout (src : BitVec 16) (dst : BitVec 16) (group : BitVec 12) (cls : Fin 8)
  /-- HOLD_CAP (R315). When cells held at a station reach 4,096 its oldest hole is timed out at once. -/
  | holdCap (xp : Fin 20)
  /-- PROBE_OPEN (R310). A received OPEN sets EXPECTED of a receive entry and makes it SYNCED, or is ignored in
  SYNCED. -/
  | probeOpen (h : CocoonHdr)
  /-- PROBE_VOID (R312). A received VOID marks its sequences voided so that late cells are discarded and release
  passes them. -/
  | probeVoid (h : CocoonHdr) (n : BitVec 16)
  /-- PROBE_RESUME (R316). A received RESUME attaches the following orphan cells to the frame in progress, or discards
  and voids them. -/
  | probeResume (l : Fin 32) (vc : Fin 8) (h : CocoonHdr) (ix : Fin 18)
  /-- SEND_FLOW_RETIRE (R310). A send flow entry idle for F with all cells acknowledged is retired. -/
  | sendFlowRetire (src : BitVec 16) (dst : BitVec 16) (group : BitVec 12) (cls : Fin 8)
  /-- RX_FLOW_STALE (R310). A receive flow entry idle for F/2 with no hole and no held cell becomes STALE. -/
  | rxFlowStale (src : BitVec 16) (dst : BitVec 16) (group : BitVec 12) (cls : Fin 8)
  /-- RX_FLOW_RETIRE (R310). A STALE receive flow entry idle for F is retired. -/
  | rxFlowRetire (src : BitVec 16) (dst : BitVec 16) (group : BitVec 12) (cls : Fin 8)
  /-- SYNTH_CPL_RECEIVE (R318). A SYNTH_CPL is matched to its ORIGIN entry and delivered to the requester as UR or CA.
  -/
  | synthCplReceive (h : CocoonHdr) (rid : BitVec 16) (tag : Fin 16384) (status : Fin 256)
  /-- COMBINE_RESOLVE (R322). When every local copy of a multicast write has an outcome and every branch has returned
  a COMMIT_ACK, the combine entry reports the combined outcome. -/
  | combineResolve (k : Fin 1024)
  /-- COMBINE_TMO (R323). A combine entry unresolved at the ledger deadline resolves FAILED with cause NO_ACK. -/
  | combineTmo (k : Fin 1024)
  /-- TIME_REQ (R326). Every PERIOD µs a child sends an LCTL TIME REQ on its parent link or its twin. -/
  | timeReq
  /-- TIME_REQ_RECEIVE (R326). A parent answers a received TIME REQ with a RESP carrying T1, T2 and T3. -/
  | timeReqReceive (l : Fin 32) (exch : BitVec 16) (t1 : BitVec 64)
  /-- TIME_RESP_RECEIVE (R327). A child computes the offset from a RESP and slews or steps its clock, updating LOCKED
  and STEP. -/
  | timeRespReceive (l : Fin 32) (exch : BitVec 16) (t1 : BitVec 64) (t2 : BitVec 64) (t3 : BitVec 64)
  /-- TIME_HOLDOVER (R327). When no parent has answered for four periods the chip holds over and sets HOLDOVER. -/
  | timeHoldover
  /-- TIME_UNIT_SEND (R328). Every 1 ms the root sends each chip a TIME unit with its time, epoch and number. -/
  | timeUnitSend
  /-- TIME_UNIT_RECEIVE (R328). A chip records the root number and epoch from a TIME unit in FAB.ROOT_STAT. -/
  | timeUnitReceive (now : BitVec 64) (epoch : BitVec 16) (chip : Fin 128)
  /-- PCIE_LINK_DOWN (R340). A PCIe port leaving DL_Active raises port containment with cause 1, 2 or 8, and for an
  upstream port also a domain reset. -/
  | pcieLinkDown (t : Fin 128)
  /-- PORT_CONTAINMENT (R341). Port containment discards and answers every frame for the port, closes its ORT entries,
  disables or retrains the link and reports. -/
  | portContainment (t : Fin 128) (cause : Fin 9)
  /-- CONTAINMENT_FORCE (R340). A write of Pp.CONT_CTL.FORCE contains the port with cause 6. -/
  | containmentForce (req : Requester) (t : Fin 128)
  /-- EXPECT_DOWN (R340). A write of Pp.CONT_CTL.EXPECT_DOWN marks the next link-down as a requested removal. -/
  | expectDown (req : Requester) (t : Fin 128)
  /-- CONTAINMENT_RELEASE (R343). A write of Pp.CONT_CTL.RELEASE ends a completed port containment with no DPC hold,
  or is ignored. -/
  | containmentRelease (req : Requester) (t : Fin 128)
  /-- CONTAINMENT_AUTO_RELEASE (R343). With AUTO_REL set, or for cause 8, port containment ends when the link regains
  DL_Active. -/
  | containmentAutoRelease (t : Fin 128)
  /-- DPC_TRIGGER (R342). A DPC trigger in a PORT bridge contains its physical port, and in a SHARED bridge cuts the
  bound functions off from the domain. -/
  | dpcTrigger (d : Fin 64) (vb : Fin 128) (sw : Bool)
  /-- DPC_CLEAR (R342). Clearing DPC Trigger Status lets a Disabled port train again, or issues FLR to the functions
  of a SHARED bridge. -/
  | dpcClear (d : Fin 64) (vb : Fin 128)
  /-- STATION_CONTAINMENT (R355). Station containment stops admission, contains all ports and links of the station,
  resets its state and retrains it, fencing it on a repeat. -/
  | stationContainment (n : Fin 16)
  /-- PATROL_SCRUB (R352). The patrol scrubber reads and corrects each codeword of a memory within its period. -/
  | patrolScrub (mem : Fin 6) (addr : Nat) (err : Fin 3) (what : Fin 13) (ix : Nat)
  /-- ROW_REPAIR (R353). A row with repeated corrected errors is copied to a spare row and accesses switch to it,
  entering DEGRADED when spares run out. -/
  | rowRepair (mem : Fin 6) (arr : Nat) (addr : Nat)
  /-- RECOVER_DOMAIN_RESET (R366). A GLB.RECOVER submission with ACTION 1 starts a domain reset of an attached domain,
  or is rejected. -/
  | recoverDomainReset (req : Requester) (key : BitVec 8) (d : Fin 64)
  /-- RECOVER_WARM_RESET (R366). A GLB.RECOVER submission with ACTION 2 starts a warm device reset. -/
  | recoverWarmReset (req : Requester) (key : BitVec 8)
  /-- RECOVER_POWER_CYCLE (R448). A GLB.RECOVER submission with ACTION 3 starts a power cycle. -/
  | recoverPowerCycle (req : Requester) (key : BitVec 8)
  /-- ERR_INJ (R334). Writing ERR_INJ sets ERR_STAT bits and reports them as if detected, without action. -/
  | errInj (req : Requester) (addr : Nat) (w : Word)
  /-- SOFT_RESET (R478). Writing PAGE_CTL.SOFT_RESET returns the page header state, and for GPIO, I3C and SPI the
  controller, to reset values. -/
  | softReset (req : Requester) (addr : Nat)
  /-- LOCK (R478). Chitin's write of PAGE_CTL.LOCK locks the page's block registers against Colony writes until a warm
  device reset. -/
  | lock (req : Requester) (addr : Nat)
  /-- IRQ_SET (R479). Writing IRQ_SET sets IRQ_STAT bits as if their events had occurred. -/
  | irqSet (req : Requester) (addr : Nat) (w : Word)
  /-- COUNTER_CLEAR (R455). Writing CNT_CTL.CLEAR zeros all eight counters and WRAP bits of the page in one clock. -/
  | counterClear (req : Requester) (addr : Nat)
  /-- HISTOGRAM_LATCH (R462). A write of HIST_SEL latches the 32 bins of the selected histogram and, with
  CLR_ON_LATCH, clears the live bins. -/
  | histogramLatch (req : Requester) (addr : Nat) (w : Word)
  /-- CAPTURE_ENABLE (R469). A write of ANT.CTL.EN starts capture in the configured mode, or is refused with CFG_REJ.
  -/
  | captureEnable (req : Requester) (en : Bool)
  /-- ANT_TRIGGER (R472). A rising edge on an ANT_TRIG_IN pin or a trigger frame starts or stops capture and pulses
  ANT_TRIG_OUT pins. -/
  | antTrigger (pin : Fin 16)
  /-- RECORD_LATCH (R468). A write of ANT.REC_SEL copies one on-chip ring slot into ANT.REC. -/
  | recordLatch (req : Requester) (w : Word)
  /-- CHITIN_BOOT (R386). The mask ROM verifies and starts the Chitin image, which selects the active generation,
  derives keys, loads settings and verifies the Jextum file. -/
  | chitinBoot (sigA : Bool) (sigB : Bool) (sigs : Fin 256)
  /-- COLONY_LOAD (R386). Chitin clears Colony SRAM, verifies and loads the Colony image, releases Colony and hands
  over the SPI controller. -/
  | colonyLoad (sigA : Bool) (sigB : Bool)
  /-- COLONY_UP (R386). Colony's first watchdog write sets COLONY_UP. -/
  | colonyUp
  /-- KICK (R414). A write of MBX.WD.KICK restarts Colony's 500 ms watchdog. -/
  | kick
  /-- PANIC (R414). A write of MBX.WD.PANIC declares a Colony crash. -/
  | panic
  /-- WATCHDOG_EXPIRE (R414). No KICK for 500 ms makes Chitin declare a Colony crash. -/
  | watchdogExpire
  /-- COLONY_CRASH (R415). A declared Colony crash holds Colony in reset, drops COLONY_UP, completes pending mailboxes
  with BUSY, aborts a window 0 access and starts a restart. -/
  | colonyCrash
  /-- COLONY_RESTART_FAIL (R415). A restart whose first watchdog write has not come 3 s after it began fails and the
  part enters DEGRADED. -/
  | colonyRestartFail
  /-- COLONY_RESTART_RETRY (R415). Chitin starts the next Colony restart attempt 60 s after a failed one is declared.
  -/
  | colonyRestartRetry
  /-- ENTER_MAINTENANCE (R418). Maintenance command 0x01 is staged and, when confirmed by presence, takes the part
  through a warm device reset into MAINTENANCE. -/
  | enterMaintenance
  /-- RECOVER (R418). Maintenance command 0x02 in a failed BOOT is staged and, when confirmed, takes the part into
  MAINTENANCE. -/
  | recover
  /-- WRITE_GEN (R392). Maintenance command 0x03 verifies a generation and programs it into the next blank OTP slot.
  -/
  | writeGen (words : List Word) (sigOk : Bool) (prog : Bool)
  /-- REVOKE_GEN (R418). Maintenance command 0x04 sets the REVOKE bit of a generation slot. -/
  | revokeGen (g : Fin 256) (prog : Bool)
  /-- SET_ROOT (R418). Maintenance command 0x05 programs a generation signed by a new root and then that root slot. -/
  | setRoot (r : Fin 256) (words : List Word) (sigOk : Bool) (prog : Bool)
  /-- BLOW_SEAL (R419). Maintenance command 0x06 programs the seal bits, ending the effect of MAINT_STRAP. -/
  | blowSeal (prog : Bool)
  /-- ADVANCE_SVN (R418). Maintenance command 0x07 raises an OTP SVN counter up to the running image's SVN. -/
  | advanceSvn (c : Fin 256) (v : Fin 256) (prog : Bool)
  /-- FORCE_RELEASE (R406). Maintenance command 0x08, confirmed by presence, resets and frees one resource. -/
  | forceRelease (r : Res)
  /-- FLASH_WRITE (R383). Maintenance command 0x09 writes the protected flash region below 0x0100_0000. -/
  | flashWrite (addr : Nat) (data : List Byte)
  /-- TEST_ENTER (R418). Maintenance command 0x10 with debug unlocked enters TEST with the selected stations and test.
  -/
  | testEnter (stns : BitVec 16) (test : Fin 256)
  /-- TEST_EXIT (R418). Maintenance command 0x11, or the end of the last requested test, returns to MAINTENANCE. -/
  | testExit (finished : Option (Fin 21))
  /-- EXIT (R418). Maintenance command 0x12 leaves MAINTENANCE or TEST through BOOT. -/
  | exit
  /-- STATUS (R418). Maintenance command 0x20 returns the mode, staging state and last result. -/
  | status
  /-- PRESENCE_PRESS (R416). A qualified PRESENCE_N press commits the staged command or does nothing when none is
  staged. -/
  | presencePress
  /-- STAGE_EXPIRE (R371). When T3 expires without confirmation the staged command is dropped and STAGE_EXPIRED set.
  -/
  | stageExpire
  /-- GET_MEASUREMENTS (R395). An SPDM GET_MEASUREMENTS request returns the measurement blocks signed by Chitin. -/
  | getMeasurements (who : Option (Fin 64)) (k : Fin 256)
  /-- KEY_EXCHANGE (R394). An SPDM KEY_EXCHANGE opens a secured session, or is refused Busy beyond 128 sessions. -/
  | keyExchange (who : Option (Fin 64))
  /-- GRANT_CREATE (R411). An owner's GRANT_CREATE is checked, signed and installed at the target chip and then the
  grantee's chip. -/
  | grantCreate (d : Fin 64) (kind : Fin 256) (perm : Fin 256) (log2 : Fin 256) (ats : Bool) (grantee : Fin 65536) (target : Fin 65536) (mcg : Fin 65536) (base : BitVec 64) (issued : Option (Fin 128 × Word × BitVec 768)) (farStatus : Fin 7) (farIndex : Fin 65536)
  /-- GRANT_REVOKE (R412). A grantor's GRANT_REVOKE removes the grant at the target chip and then invalidates windows
  that relied on it. -/
  | grantRevoke (d : Fin 64) (issuer : Fin 128) (serial : Word) (farStatus : Fin 7)
  /-- RESOURCE_RELEASE (R406). An owner's RESOURCE_RELEASE resets the resource and frees its ownership record. -/
  | resourceRelease (d : Fin 64) (r : Res)
  /-- GRANT_LIST (R405). GRANT_LIST returns the grant entries involving the requester. -/
  | grantList (d : Fin 64) (first : Fin 65536)
  /-- LINK_KEYING (R397). Two Chitins establish a session and derive per-direction keys for an unkeyed ACTIVE Smiwaven
  link, or break it when the peer fails the check. -/
  | linkKeying (l : Fin 32) (ok : Bool)
  /-- UNKEYED_TIMEOUT (R397). A link still unkeyed 100 ms after ACTIVE is broken with cause 6 and retrained. -/
  | unkeyedTimeout (l : Fin 32)
  /-- KEY_SWITCH (R398). A new key takes effect at the agreed switch sequence after the receiving Chitin acknowledges.
  -/
  | keySwitch (l : Fin 32)
  /-- REKEY (R398). After KEY_LIFE seconds or 2^31 groups Chitin rekeys a link direction. -/
  | rekey (l : Fin 32) (ahead : Nat)
  /-- GRANT_READ (R422). Chitin service 0x01 returns a grant entry. -/
  | grantRead (k : Fin 65536)
  /-- RANGE_ASSIGN (R422). Chitin service 0x02 binds a clean FREE pool range to a domain. -/
  | rangeAssign (d : Fin 64) (t : Fin 512) (base : BitVec 64) (log2 : Fin 256)
  /-- RANGE_RELEASE (R422). Chitin service 0x03 unbinds a pool range. -/
  | rangeRelease (t : Fin 512) (base : BitVec 64) (log2 : Fin 256)
  /-- IDE_STREAM (R396). Chitin service 0x04 keys a selective IDE stream with a device. -/
  | ideStream (sid : Fin 256) (t : Fin 128) (ok : Bool)
  /-- OWNER_READ (R422). Chitin service 0x05 returns an ownership record. -/
  | ownerRead (res : Res)
  /-- POOL_DECLARE (R422). Chitin service 0x06 declares a FREE port a pool port. -/
  | poolDeclare (t : Fin 512)
  /-- GET_DOMAIN (R404). Hive service 0x0001 returns the domain's identity and status. -/
  | getDomain (d : Fin 64)
  /-- GET_BRIDGES (R404). Hive service 0x0002 lists the domain's virtual bridges. -/
  | getBridges (d : Fin 64)
  /-- LIST_FREE (R404). Hive service 0x0003 lists free ports, functions or pool capacity. -/
  | listFree (d : Fin 64) (found : List FreeItem)
  /-- SLOT_POWER (R404). Hive service 0x0100 switches slot power through the I3C expander. -/
  | slotPower (d : Fin 64)
  /-- SLOT_INDICATOR (R404). Hive service 0x0101 sets a slot's attention and power indicators. -/
  | slotIndicator (d : Fin 64)
  /-- BIND (R404). Hive service 0x0200 binds a free function to a SHARED or EMPTY bridge of the domain. -/
  | bind (d : Fin 64) (w1 : Word) (bars : List Word)
  /-- UNBIND (R404). Hive service 0x0201 unbinds a function from the domain. -/
  | unbind (d : Fin 64)
  /-- ATTACH_PORT (R404). Hive service 0x0202 attaches a free port to an EMPTY hot-plug bridge, which becomes PORT. -/
  | attachPort (d : Fin 64)
  /-- DETACH_PORT (R404). Hive service 0x0203 detaches a port, and the bridge becomes EMPTY. -/
  | detachPort (d : Fin 64)
  /-- POOL_ALLOC (R404). Hive service 0x0300 allocates a zero-filled pool range and maps it by a window. -/
  | poolAlloc (d : Fin 64) (any : Fin 128) (base : BitVec 64) (maxreq : Fin 6) (atom : Fin 8)
  /-- POOL_RELEASE (R404). Hive service 0x0301 invalidates a pool window. -/
  | poolRelease (d : Fin 64)
  /-- DRONE_ASSIGN (R404). Hive service 0x0400 binds a Drone channel to a slot of the domain. -/
  | droneAssign (d : Fin 64) (c : Fin 512)
  /-- DRONE_RELEASE (R404). Hive service 0x0401 releases a Drone channel slot. -/
  | droneRelease (d : Fin 64)
  /-- COLLECTOR_SET (R404). Hive service 0x0500 configures Antenna with the requesting domain as collector. -/
  | collectorSet (d : Fin 64)
  /-- CAPTURE_FILTER (R404). Hive service 0x0501 sets an Antenna capture filter. -/
  | captureFilter (d : Fin 64)
  /-- PERST_N_ASSERT (R424). A qualified PERST_N assertion starts a domain reset, or a warm device reset under the
  TRANSPARENT role at deassertion. -/
  | perstNAssert (k : Fin 16)
  /-- PERST_N_DEASSERT (R26). A qualified PERST_N deassertion ends a domain reset, starts a warm device reset under
  TRANSPARENT, or wakes the part when armed. -/
  | perstNDeassert (k : Fin 16)
  /-- CHIP_RST_N_ASSERT (R446). A qualified CHIP_RST_N assertion holds the part in BOOT with logic in reset. -/
  | chipRstNAssert
  /-- CHIP_RST_N_DEASSERT (R446). A qualified CHIP_RST_N deassertion samples MAINT_STRAP and ends the reset hold, or
  wakes the part. -/
  | chipRstNDeassert (strap : Bool)
  /-- POR_N_ASSERT (R447). POR_N assertion or VDD_AON loss takes the part to OFF and releases every output. -/
  | porNAssert
  /-- POR_N_DEASSERT (R431). A qualified POR_N deassertion takes the part from OFF to SENTINEL, counting released
  resets as wake events. -/
  | porNDeassert (strap : Bool) (perst : BitVec 16) (chip : Bool)
  /-- ELECTRICAL_IDLE_EXIT (R424). A qualified electrical-idle exit on an enabled PCIe port is a wake event in
  SENTINEL or STANDBY. -/
  | electricalIdleExit (t : Fin 128)
  /-- SMIWAVEN_WAKE_PATTERN (R424). A wake pattern qualified on a clock lane under T1 is a Smiwaven wake event. -/
  | smiwavenWakePattern (l : Fin 32)
  /-- GPIO_WAKE (R424). A WAKE-owned GPIO low for 100 µs is a wake event. -/
  | gpioWake (pin : Fin 16)
  /-- WAKE_SEQUENCE (R432). From SENTINEL Firefly enables the rails, starts the PLLs, loads repair and releases logic
  into BOOT. -/
  | wakeSequence
  /-- WAKE_STEP_TIMEOUT (R433). A ready signal missing at the end of its bound removes the rails, retries once and
  then trips with cause WAKE_STEP. -/
  | wakeStepTimeout
  /-- STANDBY_ENTRY_COMPLETE (R428). After Chitin and Colony acknowledge, the part writes retention words, stops its
  PLLs and places SRAM in retention, entering STANDBY. -/
  | standbyEntryComplete
  /-- STANDBY_WAKE (R430). A wake from STANDBY restarts the PLLs, checks retention and resumes the previous mode, or
  goes to BOOT on a failed check. -/
  | standbyWake (retained : Bool)
  /-- IDLE_STANDBY_TIMER (R427). When the STANDBY acceptance condition has held for STBY_MS in TRANSPARENT, Firefly
  requests STANDBY. -/
  | idleStandbyTimer
  /-- IDLE_SENTINEL_TIMER (R427). When the part has stayed in STANDBY for SENT_S, Firefly requests SENTINEL. -/
  | idleSentinelTimer
  /-- THERMAL_SAMPLE (R425). Each T2 period Firefly samples all sensors and supply monitors, setting WARN and THROTTLE
  and qualifying trips. -/
  | thermalSample (temps : List Nat) (uv : Nat) (ov : Nat)
  /-- TRIP (R426). A qualified thermal or supply trip asserts FAULT_N, records the cause, removes the rails and enters
  SENTINEL. -/
  | trip
  /-- TRIP_WAKE_HOLD_END (R426). When the trip's hold ends, a held wake whose input still stands is acted on. -/
  | tripWakeHoldEnd (stand : Bool)
  /-- TRIP_CLEAR (R426). A write of FFY.TRIP_STAT.CLEAR releases FAULT_N once the trip cause has gone. -/
  | tripClear (req : Requester)
  /-- REFCLK_LOSS (R444). REFCLK loss or core PLL unlock makes Firefly trip. -/
  | refclkLoss (pll : Bool)
  /-- STATION_PLL_UNLOCK (R444). A station PLL losing lock contains the station's ports and breaks its links, leaving
  it disabled. -/
  | stationPllUnlock (n : Fin 16)
  /-- AVS_REQUEST (R436). Firefly writes a new target to an AVS channel under T0 and polls its status. -/
  | avsRequest (k : Fin 4)
  /-- AVS_ACK (R436). A valid status reporting VDone with the target acknowledges the request and lets the waiting
  load step start. -/
  | avsAck (k : Fin 4) (mv : Nat)
  /-- AVS_ATTEMPT_FAIL (R436). An AVS attempt that fails or exceeds 200 µs is repeated, and after the fourth the
  channel is declared SILENT. -/
  | avsAttemptFail (k : Fin 4) (why : Fin 5)
  /-- AVS_SILENT_PROBE (R438). Every 100 ms Firefly probes a SILENT channel and clears SILENT after three good reads
  and an acknowledged target. -/
  | avsSilentProbe (k : Fin 4) (good : Bool)
  /-- LOAD_STEP_HOLD_END (R439). At the end of HOLD_US after a load step Firefly sends VT without the offset. -/
  | loadStepHoldEnd
  /-- RAMP_LIMITER_UPDATE (R440). Every 1 µs the ramp limiter estimates core current and caps crossbar matches to hold
  the ramp and ceiling. -/
  | rampLimiterUpdate (want : Nat)
  /-- DROOP_DETECT (R441). A droop detector below its margin stretches the CORE, MGMT and SEC clocks within 2 cycles.
  -/
  | droopDetect (mv : Nat)
  /-- DROOP_RECOVER (R441). HOLD_CYC cycles after every detector is back above its margin the clock stretch ends. -/
  | droopRecover (cycles : Nat)
  /-- POWER_CYCLE_HOLD_END (R448). At the end of the 10 ms rail-off hold of a power cycle the wake sequence runs to
  BOOT. -/
  | powerCycleHoldEnd
  /-- FIREFLY_RESTART (R354). An uncorrectable error in Firefly SRAM restarts its controller while pins, timers and
  regulator state hold. -/
  | fireflyRestart
  /-- SMBUS_STATUS (R449). SMBus command 0xD0 returns mode, wake source, trip cause, temperature and status bits. -/
  | smbusStatus
  /-- TEMPS (R449). SMBus command 0xD1 returns the eight sensor values. -/
  | temps
  /-- CLEAR_FAULT (R449). SMBus command 0xD2 clears a trip's FAULT_N once the cause has gone. -/
  | clearFault (data : BitVec 8)
  /-- POWER_CYCLE (R448). SMBus command 0xD3 starts a power cycle when the rails are on. -/
  | powerCycle (data : BitVec 8)
  /-- GPIO_WRITE (R489). A write to GPIO.DIR, OUT or EDGE applies the bits of pins the GPIO feature owns and refuses
  others with PIN_BUSY. -/
  | gpioWrite (req : Requester) (reg : Fin 3) (w : Word)
  /-- GPIO_EDGE (R489). A selected edge on a GPIO-owned input sets its IRQ_STAT bit. -/
  | gpioEdge (pin : Fin 16) (high : Bool)
  /-- SLOT_EN_WRITE (R491). A write of I3C.SLOT_EN enables slot interrupts on SLOT_INT-owned pins and refuses other
  pins with PIN_BUSY. -/
  | slotEnWrite (req : Requester) (w : Word)
  /-- SLOT_INT (R491). A SLOT_INT-owned GPIO going low sets SLOT_STAT and the SLOT interrupt. -/
  | slotInt (pin : Fin 16)
  /-- I3C_COMMAND (R491). A write of I3C.C0_CMD.GO runs one I3C0 command, or refuses LEN 0 with BAD_ARG. -/
  | i3cCommand (req : Requester) (w : Word)
  /-- I3C_COMMAND_DONE (R491). An I3C0 command ends with OK, NACK, arbitration loss or a 10 ms timeout and sets
  C0_DONE. -/
  | i3cCommandDone (result : Fin 4) (data : List Byte)
  /-- IBI_RECEIVE (R491). An in-band interrupt from an expander enters the 16-entry queue or is lost with IBI.OVF. -/
  | ibiReceive (addr : Fin 128) (mdb : Byte)
  /-- MCTP_RECEIVE (R490). A received MCTP message is routed to Chitin by type or to Colony's receive buffer, or
  discarded with OVF. -/
  | mctpReceive (bus : Fin 2) (src : Byte) (bytes : List Byte) (eid : Option Byte)
  /-- MRX_POP (R490). Writing I3C.MRX_STAT.POP frees the receive buffer for the next message. -/
  | mrxPop (req : Requester)
  /-- MTX_GO (R490). Writing I3C.MTX_CTL.GO sends Colony's message as MCTP packets on the named bus. -/
  | mtxGo (req : Requester) (w : Word)
  /-- MTX_DONE (R490). The sending of an MCTP message completes and sets MTX_DONE. -/
  | mtxDone
  /-- SPI_READ (R493). SPI.CMD GO with OP READ reads up to 256 flash bytes into SPI.BUF, or is refused. -/
  | spiRead (req : Requester) (len : Fin 512)
  /-- SPI_PROGRAM (R493). SPI.CMD GO with OP PROGRAM programs a page from SPI.BUF, or is refused as DENIED, BAD_ARG or
  NOT_OWNER. -/
  | spiProgram (req : Requester) (len : Fin 512)
  /-- ERASE_4K (R493). SPI.CMD GO with OP ERASE_4K erases an aligned 4 KiB sector, or is refused. -/
  | erase4k (req : Requester)
  /-- ERASE_64K (R493). SPI.CMD GO with OP ERASE_64K erases an aligned 64 KiB block, or is refused. -/
  | erase64k (req : Requester)
  /-- SPI_DONE (R493). A flash operation completes with OK or FLASH_ERR and sets DONE. -/
  | spiDone (ok : Bool)
  /-- STANDBY_ENTRY_ACK_MISSING (R428). When Chitin or a running Colony has not acknowledged the STANDBY entry
  interrupt within 500 µs, the entry is rejected with REJ_CODE 5 and the part stays in its mode. -/
  | standbyEntryAckMissing
  /-- PCIE_L1_SUBSTATE_CHANGE (R518). A PCIe port enters or leaves L1, L1.1 or L1.2 under link power management, which
  makes or breaks the STANDBY acceptance condition and restarts the idle count. -/
  | pcieL1SubstateChange (t : Fin 128) (goal : Ltssm)
  /-- TIME_PPS_PULSE (R367). At each whole millisecond of fabric time, every GPIO owned by TIME_PPS outputs a pulse.
  -/
  | timePpsPulse
  /-- HIVE_WITHDRAWAL (R22). Hive withdraws the chip from its fabric, and the recorded role changes from FABRIC_MEMBER
  or FABRIC_ROOT to PARTITIONED within 10 ms. -/
  | hiveWithdrawal
  /-- LINK_IDE_ESTABLISH (R396). Chitin keys link IDE on a PCIe upstream or downstream port by IDE_KM over SPDM; after
  that, the port may carry traffic beyond configuration and DOE when IDE_REQ is 1. -/
  | linkIdeEstablish (t : Fin 128)
  deriving DecidableEq, Repr

end Sys2Proof
end

