-- ==== Sys2Proof/Machine/RegMap.lean ====
section
/-! DEFINITION. The register fields and the register words of every page, transcribed from the register tables of the
spec (01 to 16). A field is named PAGE.REGISTER.FIELD as the manual writes it; a 64-bit register is two words, and a
field that crosses bit 32 is a LO and a HI part. PORT stands for Pp, SMW for SMWA and SMWB, DRN for DRN0 and DRN1, DRC
for DRCk and HDR for the common page header (R476). -/

namespace Sys2Proof.Machine

/-- A field: byte offset of its 32-bit word in the page, lowest bit, width, and the strides of the register's first and
second index (R6, R7). -/
structure Fld where
  off : Nat
  lo : Nat
  w : Nat
  s1 : Nat
  s2 : Nat
  deriving DecidableEq, Repr

/-- The field of register `i` of an array. -/
def Fld.ix (f : Fld) (i : Nat) : Fld :=
  Fld.mk (f.off + f.s1 * i) f.lo f.w f.s1 f.s2

/-- The field of register `[i][j]` of a two-index array. -/
def Fld.ix2 (f : Fld) (i j : Nat) : Fld :=
  Fld.mk (f.off + f.s1 * i + f.s2 * j) f.lo f.w f.s1 f.s2

/-- One 32-bit register word, or an array of them, with the bits of each access type of R8 and its reset value. -/
structure RegDef where
  off : Nat
  n1 : Nat
  s1 : Nat
  n2 : Nat
  s2 : Nat
  rw : Nat
  w1c : Nat
  w1s : Nat
  rc : Nat
  wo : Nat
  reset : Nat
  deriving DecidableEq, Repr


/-! ### HDR fields -/
def HDR.PAGE_CTL.SOFT_RESET : Fld := ⟨0x008, 1, 1, 0, 0⟩
def HDR.PAGE_CTL.LOCK : Fld := ⟨0x008, 2, 1, 0, 0⟩
def HDR.PAGE_STAT.SETTLED : Fld := ⟨0x00C, 0, 1, 0, 0⟩
def HDR.PAGE_STAT.CLK_STOPPED : Fld := ⟨0x00C, 1, 1, 0, 0⟩
def HDR.PAGE_STAT.LOCKED : Fld := ⟨0x00C, 2, 1, 0, 0⟩
def HDR.PAGE_STAT.SRST_BUSY : Fld := ⟨0x00C, 3, 1, 0, 0⟩
def HDR.IRQ_STAT.BITS : Fld := ⟨0x010, 0, 32, 0, 0⟩
def HDR.IRQ_EN.BITS : Fld := ⟨0x014, 0, 32, 0, 0⟩
def HDR.IRQ_SET.BITS : Fld := ⟨0x018, 0, 32, 0, 0⟩
def HDR.ERR_STAT.BITS : Fld := ⟨0x020, 0, 32, 0, 0⟩
def HDR.ERR_MASK.BITS : Fld := ⟨0x024, 0, 32, 0, 0⟩
def HDR.ERR_SEV.BITS : Fld := ⟨0x028, 0, 32, 0, 0⟩
def HDR.ERR_INJ.BITS : Fld := ⟨0x02C, 0, 32, 0, 0⟩
def HDR.ERR_FIRST.BIT : Fld := ⟨0x030, 0, 5, 0, 0⟩
def HDR.ERR_FIRST.VALID : Fld := ⟨0x030, 5, 1, 0, 0⟩
def HDR.ERR_FIRST.INJ : Fld := ⟨0x030, 6, 1, 0, 0⟩
def HDR.ERR_FIRST.MULTI : Fld := ⟨0x030, 7, 1, 0, 0⟩
def HDR.ERR_FIRST.TIME : Fld := ⟨0x030, 8, 24, 0, 0⟩
def HDR.CNT_CTL.EN : Fld := ⟨0x040, 0, 8, 0, 0⟩
def HDR.CNT_CTL.FREEZE : Fld := ⟨0x040, 8, 1, 0, 0⟩
def HDR.CNT_CTL.CLEAR : Fld := ⟨0x040, 9, 1, 0, 0⟩
def HDR.CNT_CTL.DOM : Fld := ⟨0x040, 16, 12, 0, 0⟩
def HDR.CNT_CTL.DOM_EN : Fld := ⟨0x040, 28, 1, 0, 0⟩
def HDR.CNT.VALUE_LO : Fld := ⟨0x080, 0, 32, 8, 0⟩
def HDR.CNT.VALUE_HI : Fld := ⟨0x084, 0, 16, 8, 0⟩
def HDR.CNT.WRAP : Fld := ⟨0x084, 16, 1, 8, 0⟩
def HDR.CNT_CHAIN.CHAIN : Fld := ⟨0x0C0, 0, 7, 0, 0⟩

/-! ### GLB fields -/
def GLB.MODE_STAT.MODE : Fld := ⟨0x100, 0, 4, 0, 0⟩
def GLB.MODE_STAT.ROLE : Fld := ⟨0x100, 4, 4, 0, 0⟩
def GLB.MODE_STAT.PREV_MODE : Fld := ⟨0x100, 8, 4, 0, 0⟩
def GLB.MODE_STAT.IN_TRANSITION : Fld := ⟨0x100, 12, 1, 0, 0⟩
def GLB.MODE_STAT.COLONY_UP : Fld := ⟨0x100, 13, 1, 0, 0⟩
def GLB.MODE_STAT.STANDBY_ROOT : Fld := ⟨0x100, 14, 1, 0, 0⟩
def GLB.MODE_STAT.REQ_REJ : Fld := ⟨0x100, 15, 1, 0, 0⟩
def GLB.MODE_STAT.REJ_CODE : Fld := ⟨0x100, 16, 4, 0, 0⟩
def GLB.MODE_STAT.LAST_CAUSE : Fld := ⟨0x100, 20, 4, 0, 0⟩
def GLB.MODE_STAT.SENT_INTENT : Fld := ⟨0x100, 24, 1, 0, 0⟩
def GLB.MODE_REQ.TARGET : Fld := ⟨0x104, 0, 4, 0, 0⟩
def GLB.MODE_REQ.KEY : Fld := ⟨0x104, 8, 8, 0, 0⟩
def GLB.MODE_REQ.GO : Fld := ⟨0x104, 16, 1, 0, 0⟩
def GLB.XING_STAT.WR_DROP : Fld := ⟨0x108, 0, 16, 0, 0⟩
def GLB.XING_STAT.LAST_PAGE : Fld := ⟨0x108, 16, 14, 0, 0⟩
def GLB.PART_ID.VENDOR : Fld := ⟨0x110, 0, 16, 0, 0⟩
def GLB.PART_ID.PART : Fld := ⟨0x110, 16, 16, 0, 0⟩
def GLB.STEPPING.MINOR : Fld := ⟨0x114, 0, 4, 0, 0⟩
def GLB.STEPPING.MAJOR : Fld := ⟨0x114, 4, 4, 0, 0⟩
def GLB.STEPPING.PCI_REV : Fld := ⟨0x114, 8, 8, 0, 0⟩
def GLB.STEPPING.ID_MISMATCH : Fld := ⟨0x114, 16, 1, 0, 0⟩
def GLB.DEVICE_ID.ID_LO : Fld := ⟨0x118, 0, 32, 0, 0⟩
def GLB.DEVICE_ID.ID_HI : Fld := ⟨0x11C, 0, 32, 0, 0⟩
def GLB.JTAG_ID.IDCODE : Fld := ⟨0x120, 0, 32, 0, 0⟩
def GLB.STN_CFG.MODE : Fld := ⟨0x140, 0, 2, 4, 0⟩
def GLB.STN_CFG.EN : Fld := ⟨0x140, 2, 1, 4, 0⟩
def GLB.STN_CFG.PORT_W : Fld := ⟨0x140, 4, 24, 4, 0⟩
def GLB.STN_STAT.MODE_ACT : Fld := ⟨0x180, 0, 2, 4, 0⟩
def GLB.STN_STAT.POWERED : Fld := ⟨0x180, 2, 1, 4, 0⟩
def GLB.STN_STAT.CFG_REJ : Fld := ⟨0x180, 3, 1, 4, 0⟩
def GLB.STN_STAT.CFG_PEND : Fld := ⟨0x180, 4, 1, 4, 0⟩
def GLB.STN_STAT.JX_DEFAULT : Fld := ⟨0x180, 5, 1, 4, 0⟩
def GLB.STN_STAT.PORT_W_ACT : Fld := ⟨0x180, 8, 24, 4, 0⟩
def GLB.PERST_MAP.DOMAIN : Fld := ⟨0x1C0, 0, 6, 4, 0⟩
def GLB.PERST_MAP.EN : Fld := ⟨0x1C0, 6, 1, 4, 0⟩
def GLB.PERST_MAP.CONFLICT : Fld := ⟨0x1C0, 7, 1, 4, 0⟩
def GLB.PERST_MAP.LEVEL : Fld := ⟨0x1C0, 8, 1, 4, 0⟩
def GLB.ERR_SUM.STN : Fld := ⟨0x200, 0, 16, 0, 0⟩
def GLB.ERR_SUM.XBP : Fld := ⟨0x200, 16, 1, 0, 0⟩
def GLB.ERR_SUM.BUF : Fld := ⟨0x200, 17, 1, 0, 0⟩
def GLB.ERR_SUM.ORD : Fld := ⟨0x200, 18, 1, 0, 0⟩
def GLB.ERR_SUM.TBL : Fld := ⟨0x200, 19, 1, 0, 0⟩
def GLB.ERR_SUM.FAB : Fld := ⟨0x200, 20, 1, 0, 0⟩
def GLB.ERR_SUM.CCN : Fld := ⟨0x200, 21, 1, 0, 0⟩
def GLB.ERR_SUM.DRN : Fld := ⟨0x200, 22, 1, 0, 0⟩
def GLB.ERR_SUM.TEL : Fld := ⟨0x200, 23, 1, 0, 0⟩
def GLB.ERR_SUM.GLOBAL : Fld := ⟨0x200, 24, 1, 0, 0⟩
def GLB.ERR_SUM.URGENT : Fld := ⟨0x200, 25, 1, 0, 0⟩
def GLB.FENCE_STAT.OUT : Fld := ⟨0x204, 0, 16, 0, 0⟩
def GLB.FENCE_STAT.CAUSE : Fld := ⟨0x204, 16, 3, 0, 0⟩
def GLB.ECC_LAST.MEM : Fld := ⟨0x208, 0, 4, 0, 0⟩
def GLB.ECC_LAST.UE : Fld := ⟨0x208, 4, 1, 0, 0⟩
def GLB.ECC_LAST.REPAIRED : Fld := ⟨0x208, 5, 1, 0, 0⟩
def GLB.ECC_LAST.ADDR : Fld := ⟨0x208, 6, 24, 0, 0⟩
def GLB.REPAIR_STAT.RUNTIME : Fld := ⟨0x20C, 0, 16, 0, 0⟩
def GLB.REPAIR_STAT.EXHAUSTED : Fld := ⟨0x20C, 16, 1, 0, 0⟩
def GLB.RECOVER.ACTION : Fld := ⟨0x210, 0, 2, 0, 0⟩
def GLB.RECOVER.DOMAIN : Fld := ⟨0x210, 2, 6, 0, 0⟩
def GLB.RECOVER.KEY : Fld := ⟨0x210, 8, 8, 0, 0⟩
def GLB.RECOVER.GO : Fld := ⟨0x210, 16, 1, 0, 0⟩
def GLB.RECOVER.REJ : Fld := ⟨0x210, 17, 1, 0, 0⟩
def GLB.SFG_STAT.PLANES : Fld := ⟨0x214, 0, 1, 0, 0⟩
def GLB.SFG_STAT.PAIRS : Fld := ⟨0x214, 1, 1, 0, 0⟩
def GLB.SFG_STAT.SPARES : Fld := ⟨0x214, 2, 1, 0, 0⟩
def GLB.SFG_STAT.STANDBY : Fld := ⟨0x214, 3, 1, 0, 0⟩
def GLB.SFG_STAT.AVS : Fld := ⟨0x214, 4, 1, 0, 0⟩
def GLB.SFG_STAT.COLONY : Fld := ⟨0x214, 5, 1, 0, 0⟩
def GLB.SFG_STAT.READY : Fld := ⟨0x214, 6, 1, 0, 0⟩
def GLB.IRQ_SUM.SUM : Fld := ⟨0x218, 0, 25, 0, 0⟩
def GLB.ACC_VIOL.REQ : Fld := ⟨0x220, 0, 2, 0, 0⟩
def GLB.ACC_VIOL.WRITE : Fld := ⟨0x220, 2, 1, 0, 0⟩
def GLB.ACC_VIOL.CAUSE : Fld := ⟨0x220, 3, 4, 0, 0⟩
def GLB.ACC_VIOL.NEW : Fld := ⟨0x220, 7, 1, 0, 0⟩
def GLB.ACC_VIOL.CNT : Fld := ⟨0x220, 16, 16, 0, 0⟩
def GLB.ACC_VIOL_ADDR.ADDR : Fld := ⟨0x224, 0, 26, 0, 0⟩

/-! ### PWR fields -/
def PWR.AVS_CFG.VSTEP_MV : Fld := ⟨0x100, 0, 6, 0, 0⟩
def PWR.AVS_CFG.HOLD_US : Fld := ⟨0x100, 8, 12, 0, 0⟩
def PWR.AVS_CFG.FORCE_SAFE : Fld := ⟨0x100, 20, 1, 0, 0⟩
def PWR.VFUSE.MV : Fld := ⟨0x104, 0, 10, 0, 0⟩
def PWR.AVS_STAT.TARGET_MV : Fld := ⟨0x110, 0, 11, 4, 0⟩
def PWR.AVS_STAT.ACK_MV : Fld := ⟨0x110, 11, 11, 4, 0⟩
def PWR.AVS_STAT.STATE : Fld := ⟨0x110, 22, 2, 4, 0⟩
def PWR.AVS_STAT.ATTEMPT : Fld := ⟨0x110, 24, 2, 4, 0⟩
def PWR.AVS_STAT.LAST_FAIL : Fld := ⟨0x110, 26, 3, 4, 0⟩
def PWR.RAMP_CFG.RAMP_A : Fld := ⟨0x120, 0, 4, 0, 0⟩
def PWR.RAMP_CFG.THROT_PCT : Fld := ⟨0x120, 4, 7, 0, 0⟩
def PWR.LOAD_STAT.EST_A : Fld := ⟨0x124, 0, 9, 0, 0⟩
def PWR.LOAD_STAT.CEIL_A : Fld := ⟨0x124, 9, 9, 0, 0⟩
def PWR.LOAD_STAT.LIMITING : Fld := ⟨0x124, 18, 1, 0, 0⟩
def PWR.LOAD_STAT.PENDING : Fld := ⟨0x124, 19, 1, 0, 0⟩
def PWR.LOAD_STAT.THROTTLED : Fld := ⟨0x124, 20, 1, 0, 0⟩
def PWR.LOAD_STAT.HOLD : Fld := ⟨0x124, 21, 1, 0, 0⟩
def PWR.UNIT_REQ.QTR : Fld := ⟨0x130, 0, 4, 0, 0⟩
def PWR.UNIT_REQ.DRN : Fld := ⟨0x130, 4, 2, 0, 0⟩
def PWR.UNIT_REQ.ANT : Fld := ⟨0x130, 6, 1, 0, 0⟩
def PWR.UNIT_REQ.COLONY : Fld := ⟨0x130, 7, 1, 0, 0⟩
def PWR.UNIT_STAT.STN : Fld := ⟨0x134, 0, 16, 0, 0⟩
def PWR.UNIT_STAT.PLANE : Fld := ⟨0x134, 16, 4, 0, 0⟩
def PWR.UNIT_STAT.QTR : Fld := ⟨0x134, 20, 4, 0, 0⟩
def PWR.UNIT_STAT.COLONY : Fld := ⟨0x134, 24, 1, 0, 0⟩
def PWR.UNIT_STAT.DRN : Fld := ⟨0x134, 25, 2, 0, 0⟩
def PWR.UNIT_STAT.ANT : Fld := ⟨0x134, 27, 1, 0, 0⟩
def PWR.RAIL_STAT.PG : Fld := ⟨0x138, 0, 4, 0, 0⟩
def PWR.RAIL_STAT.UV : Fld := ⟨0x138, 4, 4, 0, 0⟩
def PWR.RAIL_STAT.OV : Fld := ⟨0x138, 8, 4, 0, 0⟩

/-! ### CLK fields -/
def CLK.PLL_STAT.REF_OK : Fld := ⟨0x100, 0, 1, 0, 0⟩
def CLK.PLL_STAT.CORE_LOCK : Fld := ⟨0x100, 1, 1, 0, 0⟩
def CLK.PLL_STAT.MGMT_LOCK : Fld := ⟨0x100, 2, 1, 0, 0⟩
def CLK.PLL_STAT.SEC_LOCK : Fld := ⟨0x100, 3, 1, 0, 0⟩
def CLK.PLL_STAT.TIME_LOCK : Fld := ⟨0x100, 4, 1, 0, 0⟩
def CLK.PLL_STAT.STN_LOCK : Fld := ⟨0x100, 16, 16, 0, 0⟩
def CLK.DROOP_CFG.SHALLOW_MV : Fld := ⟨0x108, 0, 6, 0, 0⟩
def CLK.DROOP_CFG.DEEP_MV : Fld := ⟨0x108, 8, 6, 0, 0⟩
def CLK.DROOP_CFG.HOLD_CYC : Fld := ⟨0x108, 16, 8, 0, 0⟩
def CLK.L1SS_ADV.PORT : Fld := ⟨0x120, 0, 32, 4, 0⟩

/-! ### FFY fields -/
def FFY.WAKE_EN.IDLE_EXIT : Fld := ⟨0x100, 0, 1, 0, 0⟩
def FFY.WAKE_EN.SMW : Fld := ⟨0x100, 1, 1, 0, 0⟩
def FFY.WAKE_EN.GPIO : Fld := ⟨0x100, 2, 1, 0, 0⟩
def FFY.WAKE_LAST.SRC : Fld := ⟨0x104, 0, 4, 0, 0⟩
def FFY.WAKE_LAST.INDEX : Fld := ⟨0x104, 4, 9, 0, 0⟩
def FFY.WAKE_LAST.RET_FAIL : Fld := ⟨0x104, 13, 1, 0, 0⟩
def FFY.IDLE_CTL.STBY_MS : Fld := ⟨0x108, 0, 16, 0, 0⟩
def FFY.IDLE_CTL.SENT_S : Fld := ⟨0x108, 16, 16, 0, 0⟩
def FFY.TEMP_CFG.WARN_C : Fld := ⟨0x10C, 0, 8, 0, 0⟩
def FFY.TEMP_CFG.THROT_C : Fld := ⟨0x10C, 8, 8, 0, 0⟩
def FFY.TEMP_CFG.TRIP_C : Fld := ⟨0x10C, 16, 8, 0, 0⟩
def FFY.TEMP_CFG.HYST_C : Fld := ⟨0x10C, 24, 4, 0, 0⟩
def FFY.TEMP.VALUE : Fld := ⟨0x120, 0, 11, 4, 0⟩
def FFY.TEMP.VALID : Fld := ⟨0x120, 11, 1, 4, 0⟩
def FFY.TRIP_STAT.CAUSE : Fld := ⟨0x140, 0, 4, 0, 0⟩
def FFY.TRIP_STAT.SENSOR : Fld := ⟨0x140, 4, 3, 0, 0⟩
def FFY.TRIP_STAT.RAIL : Fld := ⟨0x140, 7, 2, 0, 0⟩
def FFY.TRIP_STAT.FAULT : Fld := ⟨0x140, 9, 1, 0, 0⟩
def FFY.TRIP_STAT.CLEAR : Fld := ⟨0x140, 10, 1, 0, 0⟩
def FFY.SMB_CFG.ADDR : Fld := ⟨0x144, 0, 7, 0, 0⟩
def FFY.PMB_ADDR.ADDR : Fld := ⟨0x148, 0, 32, 0, 0⟩
def FFY.PERST_ARM.ARM : Fld := ⟨0x14C, 0, 16, 0, 0⟩

/-! ### OTPV fields -/
def OTPV.ACTIVE.GEN : Fld := ⟨0x100, 0, 3, 0, 0⟩
def OTPV.ACTIVE.GEN_VALID : Fld := ⟨0x100, 3, 1, 0, 0⟩
def OTPV.ACTIVE.VALID_MASK : Fld := ⟨0x100, 4, 8, 0, 0⟩
def OTPV.ACTIVE.BLANK_MASK : Fld := ⟨0x100, 12, 8, 0, 0⟩
def OTPV.ACTIVE.REVOKED : Fld := ⟨0x100, 20, 8, 0, 0⟩
def OTPV.ACTIVE.ROOT : Fld := ⟨0x100, 28, 2, 0, 0⟩
def OTPV.ACTIVE.SEALED : Fld := ⟨0x100, 30, 1, 0, 0⟩
def OTPV.ACTIVE.DEBUG : Fld := ⟨0x100, 31, 1, 0, 0⟩
def OTPV.SVN.CHITIN_OTP : Fld := ⟨0x104, 0, 8, 0, 0⟩
def OTPV.SVN.COLONY_OTP : Fld := ⟨0x104, 8, 8, 0, 0⟩
def OTPV.SVN.CHITIN_RUN : Fld := ⟨0x104, 16, 8, 0, 0⟩
def OTPV.SVN.COLONY_RUN : Fld := ⟨0x104, 24, 8, 0, 0⟩
def OTPV.STAGE.STAGED : Fld := ⟨0x108, 0, 1, 0, 0⟩
def OTPV.STAGE.CMD : Fld := ⟨0x108, 8, 8, 0, 0⟩
def OTPV.STAGE.REMAIN_S : Fld := ⟨0x108, 16, 5, 0, 0⟩
def OTPV.STAGE.LAST_RESULT : Fld := ⟨0x108, 24, 8, 0, 0⟩
def OTPV.PRES.LEVEL : Fld := ⟨0x10C, 0, 1, 0, 0⟩
def OTPV.PRES.STRAP : Fld := ⟨0x10C, 1, 1, 0, 0⟩
def OTPV.PRES.STRAP_EFF : Fld := ⟨0x10C, 2, 1, 0, 0⟩
def OTPV.PRES.PRESS_CNT : Fld := ⟨0x10C, 8, 8, 0, 0⟩
def OTPV.GEN.WORD : Fld := ⟨0x400, 0, 32, 4, 0⟩

/-! ### GPIO fields -/
def GPIO.OWNER.OWNER_LO : Fld := ⟨0x100, 0, 32, 0, 0⟩
def GPIO.OWNER.OWNER_HI : Fld := ⟨0x104, 0, 32, 0, 0⟩
def GPIO.DIR.DIR : Fld := ⟨0x108, 0, 16, 0, 0⟩
def GPIO.OUT.OUT : Fld := ⟨0x10C, 0, 16, 0, 0⟩
def GPIO.IN.IN : Fld := ⟨0x110, 0, 16, 0, 0⟩
def GPIO.EDGE.EDGE : Fld := ⟨0x114, 0, 32, 0, 0⟩
def GPIO.BUSY.PIN : Fld := ⟨0x118, 0, 4, 0, 0⟩
def GPIO.BUSY.REQ : Fld := ⟨0x118, 4, 2, 0, 0⟩
def GPIO.BUSY.PIN_BUSY : Fld := ⟨0x118, 6, 1, 0, 0⟩
def GPIO.BUSY.CNT : Fld := ⟨0x118, 16, 16, 0, 0⟩

/-! ### I3C fields -/
def I3C.CTL.C0_EN : Fld := ⟨0x100, 0, 1, 0, 0⟩
def I3C.CTL.T1_EN : Fld := ⟨0x100, 1, 1, 0, 0⟩
def I3C.CTL.SMB_EN : Fld := ⟨0x100, 2, 1, 0, 0⟩
def I3C.CTL.SMB_ADDR : Fld := ⟨0x100, 8, 7, 0, 0⟩
def I3C.CTL.T1_SADDR : Fld := ⟨0x100, 16, 7, 0, 0⟩
def I3C.EP.EID : Fld := ⟨0x104, 0, 8, 0, 0⟩
def I3C.EP.EID_VALID : Fld := ⟨0x104, 8, 1, 0, 0⟩
def I3C.C0_CMD.ADDR : Fld := ⟨0x110, 0, 7, 0, 0⟩
def I3C.C0_CMD.RNW : Fld := ⟨0x110, 7, 1, 0, 0⟩
def I3C.C0_CMD.LEN : Fld := ⟨0x110, 8, 9, 0, 0⟩
def I3C.C0_CMD.CCC : Fld := ⟨0x110, 17, 8, 0, 0⟩
def I3C.C0_CMD.IS_CCC : Fld := ⟨0x110, 25, 1, 0, 0⟩
def I3C.C0_CMD.GO : Fld := ⟨0x110, 31, 1, 0, 0⟩
def I3C.C0_STAT.BUSY : Fld := ⟨0x114, 0, 1, 0, 0⟩
def I3C.C0_STAT.RESULT : Fld := ⟨0x114, 1, 3, 0, 0⟩
def I3C.C0_STAT.RX_LEN : Fld := ⟨0x114, 4, 9, 0, 0⟩
def I3C.IBI.ADDR : Fld := ⟨0x118, 0, 7, 0, 0⟩
def I3C.IBI.VALID : Fld := ⟨0x118, 7, 1, 0, 0⟩
def I3C.IBI.MDB : Fld := ⟨0x118, 8, 8, 0, 0⟩
def I3C.IBI.OVF : Fld := ⟨0x118, 16, 1, 0, 0⟩
def I3C.SLOT_EN.EN : Fld := ⟨0x11C, 0, 16, 0, 0⟩
def I3C.MRX_STAT.AVAIL : Fld := ⟨0x120, 0, 1, 0, 0⟩
def I3C.MRX_STAT.LEN : Fld := ⟨0x120, 1, 11, 0, 0⟩
def I3C.MRX_STAT.BUS : Fld := ⟨0x120, 12, 1, 0, 0⟩
def I3C.MRX_STAT.SRC_EID : Fld := ⟨0x120, 13, 8, 0, 0⟩
def I3C.MRX_STAT.OVF : Fld := ⟨0x120, 21, 1, 0, 0⟩
def I3C.MRX_STAT.POP : Fld := ⟨0x120, 22, 1, 0, 0⟩
def I3C.MTX_CTL.LEN : Fld := ⟨0x124, 0, 11, 0, 0⟩
def I3C.MTX_CTL.BUS : Fld := ⟨0x124, 11, 1, 0, 0⟩
def I3C.MTX_CTL.DST_EID : Fld := ⟨0x124, 12, 8, 0, 0⟩
def I3C.MTX_CTL.GO : Fld := ⟨0x124, 20, 1, 0, 0⟩
def I3C.MTX_CTL.BUSY : Fld := ⟨0x124, 21, 1, 0, 0⟩
def I3C.SLOT_STAT.LOW : Fld := ⟨0x128, 0, 16, 0, 0⟩
def I3C.C0_BUF.DATA : Fld := ⟨0x400, 0, 32, 4, 0⟩
def I3C.MRX_BUF.DATA : Fld := ⟨0x800, 0, 32, 4, 0⟩
def I3C.MTX_BUF.DATA : Fld := ⟨0xC00, 0, 32, 4, 0⟩

/-! ### SPI fields -/
def SPI.CTL.DIV : Fld := ⟨0x100, 0, 8, 0, 0⟩
def SPI.CTL.QUAD : Fld := ⟨0x100, 8, 1, 0, 0⟩
def SPI.OWNER.COLONY : Fld := ⟨0x104, 0, 1, 0, 0⟩
def SPI.CMD.OP : Fld := ⟨0x108, 0, 2, 0, 0⟩
def SPI.CMD.LEN : Fld := ⟨0x108, 2, 9, 0, 0⟩
def SPI.CMD.GO : Fld := ⟨0x108, 31, 1, 0, 0⟩
def SPI.ADDR.ADDR : Fld := ⟨0x10C, 0, 26, 0, 0⟩
def SPI.STAT.BUSY : Fld := ⟨0x110, 0, 1, 0, 0⟩
def SPI.STAT.RESULT : Fld := ⟨0x110, 1, 3, 0, 0⟩
def SPI.STAT.DENY_CNT : Fld := ⟨0x110, 16, 16, 0, 0⟩
def SPI.BUF.DATA : Fld := ⟨0x400, 0, 32, 4, 0⟩

/-! ### MBX fields -/
def MBX.PEND.DOM_LO : Fld := ⟨0x100, 0, 32, 0, 0⟩
def MBX.PEND.DOM_HI : Fld := ⟨0x104, 0, 32, 0, 0⟩
def MBX.SEL.DOMAIN : Fld := ⟨0x108, 0, 6, 0, 0⟩
def MBX.REQ.OPCODE : Fld := ⟨0x10C, 0, 16, 0, 0⟩
def MBX.REQ.LEN : Fld := ⟨0x10C, 16, 12, 0, 0⟩
def MBX.REQ.SEQ : Fld := ⟨0x10C, 28, 4, 0, 0⟩
def MBX.RSP.RESULT : Fld := ⟨0x110, 0, 4, 0, 0⟩
def MBX.RSP.RSP_LEN : Fld := ⟨0x110, 4, 12, 0, 0⟩
def MBX.RSP.SEQ : Fld := ⟨0x110, 16, 4, 0, 0⟩
def MBX.RSP.GO : Fld := ⟨0x110, 20, 1, 0, 0⟩
def MBX.RSP.STALE : Fld := ⟨0x110, 21, 1, 0, 0⟩
def MBX.WD.KICK : Fld := ⟨0x118, 0, 1, 0, 0⟩
def MBX.WD.PANIC : Fld := ⟨0x118, 1, 1, 0, 0⟩
def MBX.CC_CMD.OP : Fld := ⟨0x120, 0, 8, 0, 0⟩
def MBX.CC_CMD.LEN : Fld := ⟨0x120, 8, 11, 0, 0⟩
def MBX.CC_CTL.GO : Fld := ⟨0x124, 0, 1, 0, 0⟩
def MBX.CC_STAT.BUSY : Fld := ⟨0x128, 0, 1, 0, 0⟩
def MBX.CC_STAT.RESULT : Fld := ⟨0x128, 1, 4, 0, 0⟩
def MBX.CC_STAT.RSP_LEN : Fld := ⟨0x128, 5, 11, 0, 0⟩
def MBX.CC_DATA.DATA : Fld := ⟨0x400, 0, 32, 4, 0⟩
def MBX.MB_DATA.DATA : Fld := ⟨0x800, 0, 32, 4, 0⟩

/-! ### PORT fields -/
def PORT.PORT_CTL.ROLE : Fld := ⟨0x100, 0, 2, 0, 0⟩
def PORT.PORT_CTL.DOMAIN : Fld := ⟨0x100, 8, 6, 0, 0⟩
def PORT.PORT_CTL.VB : Fld := ⟨0x100, 16, 7, 0, 0⟩
def PORT.PORT_STAT.LINK_UP : Fld := ⟨0x104, 0, 1, 0, 0⟩
def PORT.PORT_STAT.DL_UP : Fld := ⟨0x104, 1, 1, 0, 0⟩
def PORT.PORT_STAT.FLIT : Fld := ⟨0x104, 2, 1, 0, 0⟩
def PORT.PORT_STAT.RATE : Fld := ⟨0x104, 4, 3, 0, 0⟩
def PORT.PORT_STAT.WIDTH : Fld := ⟨0x104, 8, 5, 0, 0⟩
def PORT.PORT_STAT.IN_RESET : Fld := ⟨0x104, 16, 1, 0, 0⟩
def PORT.CONT_CTL.FORCE : Fld := ⟨0x110, 0, 1, 0, 0⟩
def PORT.CONT_CTL.RELEASE : Fld := ⟨0x110, 1, 1, 0, 0⟩
def PORT.CONT_CTL.AUTO_REL : Fld := ⟨0x110, 2, 1, 0, 0⟩
def PORT.CONT_CTL.EXPECT_DOWN : Fld := ⟨0x110, 3, 1, 0, 0⟩
def PORT.CONT_STAT.ACTIVE : Fld := ⟨0x114, 0, 1, 0, 0⟩
def PORT.CONT_STAT.DONE : Fld := ⟨0x114, 1, 1, 0, 0⟩
def PORT.CONT_STAT.CAUSE : Fld := ⟨0x114, 2, 4, 0, 0⟩
def PORT.CONT_STAT.HOST_HOLD : Fld := ⟨0x114, 6, 1, 0, 0⟩
def PORT.CONT_STAT.DISCARDED : Fld := ⟨0x114, 16, 16, 0, 0⟩

/-! ### SMW fields -/
def SMW.LINK_CTL.EN : Fld := ⟨0x100, 0, 1, 0, 0⟩
def SMW.LINK_CTL.FORCE_BREAK : Fld := ⟨0x100, 1, 1, 0, 0⟩
def SMW.LINK_CTL.SLEEP_REQ : Fld := ⟨0x100, 2, 1, 0, 0⟩
def SMW.LINK_CTL.WAKE : Fld := ⟨0x100, 3, 1, 0, 0⟩
def SMW.LINK_CTL.TWIN_EN : Fld := ⟨0x100, 4, 1, 0, 0⟩
def SMW.LINK_CTL.TWIN_STN : Fld := ⟨0x100, 5, 4, 0, 0⟩
def SMW.LINK_CTL.TWIN_LINK : Fld := ⟨0x100, 9, 1, 0, 0⟩
def SMW.LINK_CTL.WINDOW : Fld := ⟨0x100, 12, 10, 0, 0⟩
def SMW.LINK_STAT.STATE : Fld := ⟨0x104, 0, 3, 0, 0⟩
def SMW.LINK_STAT.TWIN_ACTIVE : Fld := ⟨0x104, 3, 1, 0, 0⟩
def SMW.LINK_STAT.FO_BUSY : Fld := ⟨0x104, 4, 1, 0, 0⟩
def SMW.LINK_STAT.EPOCH_TX : Fld := ⟨0x104, 5, 4, 0, 0⟩
def SMW.LINK_STAT.EPOCH_RX : Fld := ⟨0x104, 9, 4, 0, 0⟩
def SMW.LINK_STAT.BREAK_CAUSE : Fld := ⟨0x104, 13, 3, 0, 0⟩
def SMW.LINK_STAT.PEER_CHIP : Fld := ⟨0x104, 16, 7, 0, 0⟩
def SMW.LINK_STAT.PEER_STN : Fld := ⟨0x104, 23, 4, 0, 0⟩
def SMW.LINK_STAT.PEER_LINK : Fld := ⟨0x104, 27, 1, 0, 0⟩
def SMW.LINK_STAT.PEER_VALID : Fld := ⟨0x104, 28, 1, 0, 0⟩
def SMW.REPLAY_CTL.TMO : Fld := ⟨0x108, 0, 8, 0, 0⟩
def SMW.REPLAY_CTL.LIMIT : Fld := ⟨0x108, 8, 4, 0, 0⟩
def SMW.CREDIT_TMO.US : Fld := ⟨0x10C, 0, 14, 0, 0⟩
def SMW.SEQ_STAT.TX_NEXT : Fld := ⟨0x110, 0, 20, 0, 0⟩
def SMW.SEQ_STAT.UNACKED : Fld := ⟨0x110, 20, 10, 0, 0⟩
def SMW.ACK_STAT.RX_ACK : Fld := ⟨0x114, 0, 20, 0, 0⟩
def SMW.ACK_STAT.HELD : Fld := ⟨0x114, 20, 10, 0, 0⟩
def SMW.FO_STAT.RESENT : Fld := ⟨0x118, 0, 10, 0, 0⟩
def SMW.FO_STAT.TIME_NS : Fld := ⟨0x118, 12, 20, 0, 0⟩
def SMW.FO_RSV.CELLS : Fld := ⟨0x11C, 0, 10, 0, 0⟩
def SMW.VC_ALLOC.CELLS : Fld := ⟨0x140, 0, 15, 4, 0⟩
def SMW.VC_TXCRED.AVAIL : Fld := ⟨0x160, 0, 16, 4, 0⟩
def SMW.VC_RXCRED.HELD : Fld := ⟨0x180, 0, 16, 4, 0⟩
def SMW.VC_RXCRED.RET_PENDING : Fld := ⟨0x180, 16, 16, 4, 0⟩

/-! ### SERDES fields -/
def SERDES.ADAPT_CTL.BG_EN : Fld := ⟨0x100, 0, 1, 0, 0⟩
def SERDES.ADAPT_CTL.HYST : Fld := ⟨0x100, 4, 4, 0, 0⟩
def SERDES.ADAPT_CTL.PERIOD : Fld := ⟨0x100, 8, 8, 0, 0⟩
def SERDES.ADAPT_CTL.FREEZE : Fld := ⟨0x100, 16, 16, 0, 0⟩
def SERDES.EQ_CAND.PRESET_MASK : Fld := ⟨0x104, 0, 11, 0, 0⟩
def SERDES.CLK_STAT.CLKA_PRESENT : Fld := ⟨0x108, 0, 1, 0, 0⟩
def SERDES.CLK_STAT.CLKB_PRESENT : Fld := ⟨0x108, 1, 1, 0, 0⟩
def SERDES.CLK_STAT.CLKA_LOSS : Fld := ⟨0x108, 2, 1, 0, 0⟩
def SERDES.CLK_STAT.CLKB_LOSS : Fld := ⟨0x108, 3, 1, 0, 0⟩
def SERDES.CLK_STAT.LOSS_CNT : Fld := ⟨0x108, 4, 8, 0, 0⟩
def SERDES.MARGIN_CTL.LANE : Fld := ⟨0x110, 0, 5, 0, 0⟩
def SERDES.MARGIN_CTL.TYPE : Fld := ⟨0x110, 5, 1, 0, 0⟩
def SERDES.MARGIN_CTL.DIR : Fld := ⟨0x110, 6, 1, 0, 0⟩
def SERDES.MARGIN_CTL.STEP : Fld := ⟨0x110, 8, 6, 0, 0⟩
def SERDES.MARGIN_CTL.GO : Fld := ⟨0x110, 16, 1, 0, 0⟩
def SERDES.MARGIN_CTL.ERR_LIMIT : Fld := ⟨0x110, 18, 6, 0, 0⟩
def SERDES.MARGIN_STAT.BUSY : Fld := ⟨0x114, 0, 1, 0, 0⟩
def SERDES.MARGIN_STAT.DONE : Fld := ⟨0x114, 1, 1, 0, 0⟩
def SERDES.MARGIN_STAT.LIMIT : Fld := ⟨0x114, 2, 1, 0, 0⟩
def SERDES.MARGIN_STAT.ERR_CNT : Fld := ⟨0x114, 8, 8, 0, 0⟩
def SERDES.LANE_STAT.CTLE_CUR : Fld := ⟨0x200, 0, 6, 4, 0⟩
def SERDES.LANE_STAT.DFE_ON : Fld := ⟨0x200, 6, 1, 4, 0⟩
def SERDES.LANE_STAT.LOCKED : Fld := ⟨0x200, 7, 1, 4, 0⟩
def SERDES.LANE_STAT.FOM : Fld := ⟨0x200, 8, 8, 4, 0⟩
def SERDES.LANE_STAT.TX_PRESET_CUR : Fld := ⟨0x200, 16, 4, 4, 0⟩
def SERDES.LANE_STAT.POL_INV_RX : Fld := ⟨0x200, 20, 1, 4, 0⟩
def SERDES.LANE_STAT.WEAK : Fld := ⟨0x200, 21, 1, 4, 0⟩
def SERDES.LANE_STAT.GROUP : Fld := ⟨0x200, 24, 3, 4, 0⟩
def SERDES.LANE_START.TX_PRESET : Fld := ⟨0x400, 0, 4, 32, 4⟩
def SERDES.LANE_START.CTLE_CODE : Fld := ⟨0x400, 4, 6, 32, 4⟩
def SERDES.LANE_START.DFE_EN : Fld := ⟨0x400, 10, 1, 32, 4⟩
def SERDES.LANE_START.TX_POL_INV : Fld := ⟨0x400, 11, 1, 32, 4⟩
def SERDES.LANE_START.VALID : Fld := ⟨0x400, 12, 1, 32, 4⟩
def SERDES.LANE_START.FOM_MIN : Fld := ⟨0x400, 16, 8, 32, 4⟩

/-! ### SCH fields -/
def SCH.PORT_CFG.OVH : Fld := ⟨0x100, 0, 7, 4, 0⟩
def SCH.PORT_CFG.PTR : Fld := ⟨0x100, 8, 3, 4, 0⟩
def SCH.TC_MAP.MAP : Fld := ⟨0x140, 0, 24, 4, 0⟩
def SCH.Q_CFG.QUANTUM : Fld := ⟨0x200, 0, 14, 32, 4⟩
def SCH.Q_CFG.CLASS_LIM : Fld := ⟨0x200, 16, 12, 32, 4⟩
def SCH.SHP_CFG.RATE : Fld := ⟨0x400, 0, 20, 64, 8⟩
def SCH.SHP_CFG.BURST : Fld := ⟨0x404, 0, 19, 64, 8⟩
def SCH.Q_STAT.DEFICIT : Fld := ⟨0x700, 0, 21, 32, 4⟩
def SCH.Q_STAT.ELIG : Fld := ⟨0x700, 21, 1, 32, 4⟩
def SCH.Q_STAT.SHP_HOLD : Fld := ⟨0x700, 22, 1, 32, 4⟩
def SCH.Q_STAT.LIM_CLOSED : Fld := ⟨0x700, 23, 1, 32, 4⟩
def SCH.SHP_TOK.TOKENS : Fld := ⟨0x900, 0, 25, 32, 4⟩
def SCH.POL_WITHHOLD.ACCT_LO : Fld := ⟨0xA40, 0, 32, 0, 0⟩
def SCH.POL_WITHHOLD.ACCT_HI : Fld := ⟨0xA44, 0, 32, 0, 0⟩
def SCH.POL_LL.RATE : Fld := ⟨0xC00, 0, 20, 8, 0⟩
def SCH.POL_LL.BURST : Fld := ⟨0xC04, 0, 19, 8, 0⟩
def SCH.POL_DROP.RATE : Fld := ⟨0xE00, 0, 20, 8, 0⟩
def SCH.POL_DROP.BURST : Fld := ⟨0xE04, 0, 19, 8, 0⟩

/-! ### XBP fields -/
def XBP.PLANE_CTL.BIST_GO : Fld := ⟨0x100, 0, 1, 0, 0⟩
def XBP.PLANE_CTL.REJOIN : Fld := ⟨0x100, 1, 1, 0, 0⟩
def XBP.PLANE_CTL.RETIRE : Fld := ⟨0x100, 2, 1, 0, 0⟩
def XBP.PLANE_STAT.STATE : Fld := ⟨0x104, 0, 3, 0, 0⟩
def XBP.PLANE_STAT.BIST_PASS : Fld := ⟨0x104, 3, 1, 0, 0⟩
def XBP.PLANE_STAT.PLANES_EN : Fld := ⟨0x104, 4, 4, 0, 0⟩
def XBP.PLANE_STAT.E : Fld := ⟨0x104, 8, 3, 0, 0⟩
def XBP.PLANE_STAT.SUBST : Fld := ⟨0x104, 11, 1, 0, 0⟩
def XBP.PLANE_STAT.LOST_CAUSE : Fld := ⟨0x104, 12, 3, 0, 0⟩
def XBP.PLANE_STAT.DET_XP : Fld := ⟨0x104, 16, 5, 0, 0⟩
def XBP.MC_CTL.SHARE : Fld := ⟨0x108, 0, 5, 0, 0⟩
def XBP.WD_CTL.CELLTIMES : Fld := ⟨0x10C, 0, 16, 0, 0⟩
def XBP.CELL_TIME.N_LO : Fld := ⟨0x110, 0, 32, 0, 0⟩
def XBP.CELL_TIME.N_HI : Fld := ⟨0x114, 0, 32, 0, 0⟩
def XBP.LOST_AT.D : Fld := ⟨0x118, 0, 32, 0, 0⟩
def XBP.VOQ_SEL.XP : Fld := ⟨0x120, 0, 5, 0, 0⟩
def XBP.VOQ_SEL.VOQ : Fld := ⟨0x120, 5, 12, 0, 0⟩
def XBP.VOQ_STAT.CELLS : Fld := ⟨0x124, 0, 18, 0, 0⟩
def XBP.VOQ_STAT.FRAMES : Fld := ⟨0x124, 18, 12, 0, 0⟩
def XBP.VOQ_STAT.HEAD_ELIG : Fld := ⟨0x124, 30, 1, 0, 0⟩

/-! ### BUF fields -/
def BUF.CPL_RSV.CELLS : Fld := ⟨0x100, 0, 18, 0, 0⟩
def BUF.ESC_RSV.CELLS : Fld := ⟨0x104, 0, 18, 0, 0⟩
def BUF.MGMT_RSV.CELLS : Fld := ⟨0x108, 0, 18, 0, 0⟩
def BUF.DROP_MAX.CELLS : Fld := ⟨0x10C, 0, 18, 0, 0⟩
def BUF.CFG_STAT.SHARED : Fld := ⟨0x110, 0, 19, 0, 0⟩
def BUF.CFG_STAT.CFG_REJ : Fld := ⟨0x110, 19, 1, 0, 0⟩
def BUF.CFG_STAT.SHRINK_PEND : Fld := ⟨0x110, 20, 1, 0, 0⟩
def BUF.AGE_CTL.DROP_US : Fld := ⟨0x114, 0, 16, 0, 0⟩
def BUF.AGE_LL.LL_US : Fld := ⟨0x118, 0, 20, 0, 0⟩
def BUF.AUD_CTL.SNAP : Fld := ⟨0x120, 0, 1, 0, 0⟩
def BUF.AUD_STAT.SNAP_VALID : Fld := ⟨0x124, 0, 1, 0, 0⟩
def BUF.AUD_STAT.VIOL : Fld := ⟨0x124, 1, 1, 0, 0⟩
def BUF.AUD_STAT.IDENT : Fld := ⟨0x124, 2, 4, 0, 0⟩
def BUF.AUD_STAT.XP : Fld := ⟨0x124, 6, 5, 0, 0⟩
def BUF.STUCK_STAT.XP : Fld := ⟨0x140, 0, 5, 0, 0⟩
def BUF.STUCK_STAT.SUB : Fld := ⟨0x140, 5, 4, 0, 0⟩
def BUF.STUCK_STAT.CHIP : Fld := ⟨0x140, 9, 7, 0, 0⟩
def BUF.STUCK_STAT.FABRIC : Fld := ⟨0x140, 16, 1, 0, 0⟩
def BUF.STUCK_STAT.NEW : Fld := ⟨0x140, 17, 1, 0, 0⟩
def BUF.ACCT_CFG.MIN : Fld := ⟨0x400, 0, 18, 4, 0⟩
def BUF.ACCT_CFG.ALPHA : Fld := ⟨0x400, 18, 3, 4, 0⟩
def BUF.ACCT_OCC.OCC : Fld := ⟨0x500, 0, 19, 4, 0⟩
def BUF.ACCT_OCC.ABOVE_MIN : Fld := ⟨0x500, 19, 1, 4, 0⟩
def BUF.ACCT_OCC.WITHHOLD : Fld := ⟨0x500, 20, 1, 4, 0⟩

/-! ### FAB fields -/
def FAB.CHIP_ID.CHIP : Fld := ⟨0x100, 0, 7, 0, 0⟩
def FAB.FAB_CTL.HOP_INIT : Fld := ⟨0x104, 0, 5, 0, 0⟩
def FAB.CG_MAP.MAP : Fld := ⟨0x108, 0, 16, 0, 0⟩
def FAB.TIME_CTL.PARENT : Fld := ⟨0x110, 0, 5, 0, 0⟩
def FAB.TIME_CTL.PARENT_EN : Fld := ⟨0x110, 5, 1, 0, 0⟩
def FAB.TIME_CTL.PERIOD : Fld := ⟨0x110, 8, 8, 0, 0⟩
def FAB.TIME_NOW.NS_LO : Fld := ⟨0x118, 0, 32, 0, 0⟩
def FAB.TIME_NOW.NS_HI : Fld := ⟨0x11C, 0, 32, 0, 0⟩
def FAB.TIME_STAT.OFFSET : Fld := ⟨0x120, 0, 16, 0, 0⟩
def FAB.TIME_STAT.LOCKED : Fld := ⟨0x120, 16, 1, 0, 0⟩
def FAB.TIME_STAT.STEP : Fld := ⟨0x120, 17, 1, 0, 0⟩
def FAB.TIME_STAT.HOLDOVER : Fld := ⟨0x120, 18, 1, 0, 0⟩
def FAB.ROOT_CTL.PRIO : Fld := ⟨0x124, 0, 8, 0, 0⟩
def FAB.ROOT_CTL.HANDOVER : Fld := ⟨0x124, 8, 1, 0, 0⟩
def FAB.ROOT_STAT.ROOT_CHIP : Fld := ⟨0x128, 0, 7, 0, 0⟩
def FAB.ROOT_STAT.STANDBY_CHIP : Fld := ⟨0x128, 7, 7, 0, 0⟩
def FAB.ROOT_STAT.ROOT_VALID : Fld := ⟨0x128, 14, 1, 0, 0⟩
def FAB.ROOT_STAT.STANDBY_VALID : Fld := ⟨0x128, 15, 1, 0, 0⟩
def FAB.ROOT_STAT.ROOT_EPOCH : Fld := ⟨0x128, 16, 16, 0, 0⟩
def FAB.PSEL.PSEL : Fld := ⟨0x400, 0, 3, 4, 0⟩

/-! ### CCN fields -/
def CCN.FLOW_CTL.IDLE : Fld := ⟨0x100, 0, 16, 0, 0⟩
def CCN.FLOW_STAT.TX_USED : Fld := ⟨0x104, 0, 16, 0, 0⟩
def CCN.FLOW_STAT.RX_USED : Fld := ⟨0x104, 16, 16, 0, 0⟩
def CCN.HOLE_LAST.SRC : Fld := ⟨0x110, 0, 16, 0, 0⟩
def CCN.HOLE_LAST.DST : Fld := ⟨0x110, 16, 16, 0, 0⟩
def CCN.HOLE_LAST.CLASS : Fld := ⟨0x114, 0, 3, 0, 0⟩
def CCN.HOLE_LAST.FSEQ : Fld := ⟨0x114, 3, 24, 0, 0⟩
def CCN.RSQ_STAT.HELD : Fld := ⟨0x200, 0, 13, 4, 0⟩
def CCN.RSQ_STAT.HOLE : Fld := ⟨0x200, 13, 1, 4, 0⟩

/-! ### ORD fields -/
def ORD.CTMO.MS : Fld := ⟨0x100, 0, 10, 0, 0⟩
def ORD.LEDGER_STAT.USED : Fld := ⟨0x104, 0, 13, 0, 0⟩
def ORD.LEDGER_STAT.FULL : Fld := ⟨0x104, 13, 1, 0, 0⟩
def ORD.LQ.QUOTA : Fld := ⟨0x400, 0, 13, 4, 0⟩
def ORD.LQ.USED : Fld := ⟨0x400, 16, 13, 4, 0⟩

/-! ### TBL fields -/
def TBL.ACC_CTL.INDEX : Fld := ⟨0x100, 0, 17, 128, 0⟩
def TBL.ACC_CTL.TABLE : Fld := ⟨0x100, 17, 4, 128, 0⟩
def TBL.ACC_CTL.OP : Fld := ⟨0x100, 21, 2, 128, 0⟩
def TBL.ACC_CTL.GO : Fld := ⟨0x100, 31, 1, 128, 0⟩
def TBL.ACC_STAT.BUSY : Fld := ⟨0x104, 0, 1, 128, 0⟩
def TBL.ACC_STAT.RESULT : Fld := ⟨0x104, 1, 4, 128, 0⟩
def TBL.ACC_DATA.DATA : Fld := ⟨0x140, 0, 32, 128, 4⟩
def TBL.ORT_CTL.FAR_DL_MS : Fld := ⟨0x200, 0, 10, 0, 0⟩
def TBL.ORT_CTL.FAR_MAX : Fld := ⟨0x200, 12, 18, 0, 0⟩
def TBL.ORT_STAT.OPEN : Fld := ⟨0x208, 0, 18, 0, 0⟩
def TBL.ORT_STAT.FAR_LO : Fld := ⟨0x208, 18, 14, 0, 0⟩
def TBL.ORT_STAT.FAR_HI : Fld := ⟨0x20C, 0, 4, 0, 0⟩
def TBL.ORT_STAT.QUAR : Fld := ⟨0x20C, 4, 18, 0, 0⟩
def TBL.WTT_STAT.VALID_CNT : Fld := ⟨0x210, 0, 17, 0, 0⟩
def TBL.WTT_MAPPED.UNITS : Fld := ⟨0x214, 0, 26, 0, 0⟩
def TBL.ORT_DL.DL_MS : Fld := ⟨0x400, 0, 10, 4, 0⟩
def TBL.ORT_DL.QUOTA : Fld := ⟨0x400, 12, 18, 4, 0⟩
def TBL.PORT_TGT.PRID : Fld := ⟨0x600, 0, 16, 4, 0⟩
def TBL.PORT_TGT.TAGW : Fld := ⟨0x600, 16, 2, 4, 0⟩
def TBL.PORT_TGT.MPS : Fld := ⟨0x600, 18, 3, 4, 0⟩

/-! ### DRN fields -/
def DRN.BIND_RES.RESULT : Fld := ⟨0x100, 0, 4, 0, 0⟩
def DRN.BIND_RES.CH : Fld := ⟨0x100, 4, 8, 0, 0⟩
def DRN.BIND_RES.NEW : Fld := ⟨0x100, 12, 1, 0, 0⟩
def DRN.CH_BIND.VALID : Fld := ⟨0x400, 0, 1, 4, 0⟩
def DRN.CH_BIND.DOMAIN : Fld := ⟨0x400, 1, 6, 4, 0⟩
def DRN.CH_BIND.SLOT : Fld := ⟨0x400, 7, 8, 4, 0⟩
def DRN.CH_BIND.CLASS : Fld := ⟨0x400, 15, 3, 4, 0⟩
def DRN.CH_BIND.ESC : Fld := ⟨0x400, 18, 1, 4, 0⟩

/-! ### TEL fields -/
def TEL.HIST_CTL.EN : Fld := ⟨0x100, 0, 1, 0, 0⟩
def TEL.HIST_CTL.CLR_ON_LATCH : Fld := ⟨0x100, 1, 1, 0, 0⟩
def TEL.HIST_SEL.PORT : Fld := ⟨0x104, 0, 7, 0, 0⟩
def TEL.HIST_SEL.CLASS : Fld := ⟨0x104, 7, 3, 0, 0⟩
def TEL.HIST_SEL.KIND : Fld := ⟨0x104, 10, 1, 0, 0⟩
def TEL.HIST_BIN.COUNT_LO : Fld := ⟨0x200, 0, 32, 8, 0⟩
def TEL.HIST_BIN.COUNT_HI : Fld := ⟨0x204, 0, 16, 8, 0⟩
def TEL.HIST_BIN.SAT : Fld := ⟨0x204, 16, 1, 8, 0⟩

/-! ### ANT fields -/
def ANT.CTL.EN : Fld := ⟨0x100, 0, 1, 0, 0⟩
def ANT.CTL.MODE : Fld := ⟨0x100, 1, 1, 0, 0⟩
def ANT.CTL.FULL_POL : Fld := ⟨0x100, 2, 1, 0, 0⟩
def ANT.CTL.TRIG_MODE : Fld := ⟨0x100, 3, 2, 0, 0⟩
def ANT.CTL.TEL_CLASS : Fld := ⟨0x100, 5, 3, 0, 0⟩
def ANT.CTL.MIRROR_CLASS : Fld := ⟨0x100, 8, 3, 0, 0⟩
def ANT.CTL.COLL_DOM : Fld := ⟨0x100, 12, 12, 0, 0⟩
def ANT.STAT.RUNNING : Fld := ⟨0x104, 0, 1, 0, 0⟩
def ANT.STAT.TRIGGERED : Fld := ⟨0x104, 1, 1, 0, 0⟩
def ANT.STAT.FULL : Fld := ⟨0x104, 2, 1, 0, 0⟩
def ANT.STAT.CFG_REJ : Fld := ⟨0x104, 3, 1, 0, 0⟩
def ANT.STAT.LOST : Fld := ⟨0x104, 16, 16, 0, 0⟩
def ANT.POST.RECORDS : Fld := ⟨0x108, 0, 16, 0, 0⟩
def ANT.FILT.EN : Fld := ⟨0x140, 0, 1, 8, 0⟩
def ANT.FILT.POINT : Fld := ⟨0x140, 1, 1, 8, 0⟩
def ANT.FILT.ACTION : Fld := ⟨0x140, 2, 2, 8, 0⟩
def ANT.FILT.TRIG : Fld := ⟨0x140, 4, 1, 8, 0⟩
def ANT.FILT.PORT : Fld := ⟨0x140, 5, 9, 8, 0⟩
def ANT.FILT.PORT_EN : Fld := ⟨0x140, 14, 1, 8, 0⟩
def ANT.FILT.DOM : Fld := ⟨0x140, 16, 12, 8, 0⟩
def ANT.FILT.DOM_EN : Fld := ⟨0x140, 28, 1, 8, 0⟩
def ANT.FILT.CLASS_MASK : Fld := ⟨0x144, 0, 8, 8, 0⟩
def ANT.FILT.KIND_MASK : Fld := ⟨0x144, 8, 4, 8, 0⟩
def ANT.FILT.SAMPLE_LOG2 : Fld := ⟨0x144, 12, 5, 8, 0⟩
def ANT.MIRROR.PORT : Fld := ⟨0x160, 0, 16, 0, 0⟩
def ANT.RING_BASE.BASE_LO : Fld := ⟨0x170, 12, 20, 0, 0⟩
def ANT.RING_BASE.BASE_HI : Fld := ⟨0x174, 0, 32, 0, 0⟩
def ANT.RING_CFG.SIZE_LOG2 : Fld := ⟨0x178, 0, 5, 0, 0⟩
def ANT.WR.SEQ : Fld := ⟨0x180, 0, 32, 0, 0⟩
def ANT.RD.SEQ : Fld := ⟨0x184, 0, 32, 0, 0⟩
def ANT.REC_SEL.SLOT : Fld := ⟨0x190, 0, 14, 0, 0⟩
def ANT.REC.WORD : Fld := ⟨0x200, 0, 32, 4, 0⟩

/-! ### CFN fields -/
def CFN.DOM_ID.FABRIC_ID : Fld := ⟨0x100, 0, 12, 0, 0⟩
def CFN.DOM_ID.LOCAL_IDX : Fld := ⟨0x100, 12, 6, 0, 0⟩
def CFN.DOM_ID.CHIP : Fld := ⟨0x100, 18, 7, 0, 0⟩
def CFN.INTX_STAT.CF_WIRE : Fld := ⟨0x104, 0, 1, 0, 0⟩
def CFN.INTX_STAT.CF_CONTRIB : Fld := ⟨0x104, 1, 1, 0, 0⟩
def CFN.INTX_STAT.UP_WIRE : Fld := ⟨0x104, 2, 4, 0, 0⟩
def CFN.LATE_CPL.COUNT : Fld := ⟨0x108, 0, 32, 0, 0⟩
def CFN.VEC_MAP.VEC : Fld := ⟨0x400, 0, 11, 4, 0⟩

/-! ### CFMB fields -/
def CFMB.MB_CMD.OPCODE : Fld := ⟨0x100, 0, 16, 0, 0⟩
def CFMB.MB_CMD.LEN : Fld := ⟨0x100, 16, 12, 0, 0⟩
def CFMB.MB_CTL.GO : Fld := ⟨0x104, 0, 1, 0, 0⟩
def CFMB.MB_CTL.ABORT : Fld := ⟨0x104, 1, 1, 0, 0⟩
def CFMB.MB_STAT.STATE : Fld := ⟨0x108, 0, 2, 0, 0⟩
def CFMB.MB_STAT.RESULT : Fld := ⟨0x108, 4, 4, 0, 0⟩
def CFMB.MB_STAT.RSP_LEN : Fld := ⟨0x108, 16, 12, 0, 0⟩
def CFMB.MB_STAT.SEQ : Fld := ⟨0x108, 28, 4, 0, 0⟩
def CFMB.MB_TMO.MS : Fld := ⟨0x10C, 0, 10, 0, 0⟩
def CFMB.MB_DATA.DATA : Fld := ⟨0x800, 0, 32, 4, 0⟩

/-! ### ORDV fields -/
def ORDV.FENCE.FAIL_CNT : Fld := ⟨0x100, 0, 16, 0, 0⟩
def ORDV.FENCE.FIRST_SEQ : Fld := ⟨0x100, 16, 16, 0, 0⟩
def ORDV.FENCE.OVF : Fld := ⟨0x104, 0, 1, 0, 0⟩
def ORDV.FENCE.UNKNOWN : Fld := ⟨0x104, 1, 1, 0, 0⟩
def ORDV.FENCE.SHARED : Fld := ⟨0x104, 2, 1, 0, 0⟩
def ORDV.FENCE_CL.FAIL_CNT : Fld := ⟨0x108, 0, 16, 8, 0⟩
def ORDV.FENCE_CL.FIRST_SEQ : Fld := ⟨0x108, 16, 16, 8, 0⟩
def ORDV.FENCE_CL.OVF : Fld := ⟨0x10C, 0, 1, 8, 0⟩
def ORDV.FENCE_CL.UNKNOWN : Fld := ⟨0x10C, 1, 1, 8, 0⟩
def ORDV.FENCE_CL.SHARED : Fld := ⟨0x10C, 2, 1, 8, 0⟩
def ORDV.FENCE_DOM.FAIL_CNT : Fld := ⟨0x128, 0, 16, 0, 0⟩
def ORDV.FENCE_DOM.FIRST_SEQ : Fld := ⟨0x128, 16, 16, 0, 0⟩
def ORDV.FENCE_DOM.OVF : Fld := ⟨0x12C, 0, 1, 0, 0⟩
def ORDV.FENCE_DOM.UNKNOWN : Fld := ⟨0x12C, 1, 1, 0, 0⟩
def ORDV.FENCE_DOM.SHARED : Fld := ⟨0x12C, 2, 1, 0, 0⟩
def ORDV.JRNL_PTR.WR_SEQ : Fld := ⟨0x140, 0, 16, 0, 0⟩
def ORDV.JRNL_PTR.RD_SEQ : Fld := ⟨0x140, 16, 16, 0, 0⟩
def ORDV.JRNL_STAT.OVF : Fld := ⟨0x144, 0, 1, 0, 0⟩
def ORDV.JRNL_STAT.UNREAD : Fld := ⟨0x144, 1, 9, 0, 0⟩
def ORDV.JRNL_SEL.SEQ : Fld := ⟨0x148, 0, 16, 0, 0⟩
def ORDV.JRNL_ENT.WORD : Fld := ⟨0x150, 0, 32, 4, 0⟩
def ORDV.LEDGER.OPEN : Fld := ⟨0x160, 0, 13, 0, 0⟩
def ORDV.LEDGER.WAIT : Fld := ⟨0x160, 13, 1, 0, 0⟩
def ORDV.LEDGER.HELD : Fld := ⟨0x160, 14, 1, 0, 0⟩
def ORDV.RQ_RID.RID : Fld := ⟨0x200, 0, 16, 4, 0⟩
def ORDV.RQ_RID.VALID : Fld := ⟨0x200, 16, 1, 4, 0⟩
def ORDV.RQ_RID.SHARED : Fld := ⟨0x200, 17, 1, 4, 0⟩

/-! ### TELV1 fields -/
def TELV1.COLL_WR.SEQ : Fld := ⟨0x100, 0, 32, 0, 0⟩
def TELV1.COLL_RD.SEQ : Fld := ⟨0x104, 0, 32, 0, 0⟩

/-! ### TELV2 fields -/
def TELV2.HIST_SEL.CLASS : Fld := ⟨0x100, 0, 3, 0, 0⟩
def TELV2.HIST_CTL.CLR_ON_LATCH : Fld := ⟨0x104, 1, 1, 0, 0⟩
def TELV2.HIST_BIN.COUNT_LO : Fld := ⟨0x200, 0, 32, 8, 0⟩
def TELV2.HIST_BIN.COUNT_HI : Fld := ⟨0x204, 0, 16, 8, 0⟩
def TELV2.HIST_BIN.SAT : Fld := ⟨0x204, 16, 1, 8, 0⟩

/-! ### TELV3 fields -/
def TELV3.HIST_SEL.CLASS : Fld := ⟨0x100, 0, 3, 0, 0⟩
def TELV3.HIST_BIN.COUNT_LO : Fld := ⟨0x200, 0, 32, 8, 0⟩
def TELV3.HIST_BIN.COUNT_HI : Fld := ⟨0x204, 0, 16, 8, 0⟩
def TELV3.HIST_BIN.SAT : Fld := ⟨0x204, 16, 1, 8, 0⟩

/-! ### DRC fields -/
def DRC.CH_CTL.EN : Fld := ⟨0x100, 0, 1, 0, 0⟩
def DRC.CH_CTL.RESET : Fld := ⟨0x100, 1, 1, 0, 0⟩
def DRC.CH_STAT.STATE : Fld := ⟨0x104, 0, 3, 0, 0⟩
def DRC.CH_STAT.RD_OUT : Fld := ⟨0x104, 16, 16, 0, 0⟩
def DRC.CH_CFG.RING_LOG2 : Fld := ⟨0x108, 0, 5, 0, 0⟩
def DRC.CH_CFG.MAX_RD : Fld := ⟨0x108, 5, 3, 0, 0⟩
def DRC.CH_CFG.MAX_WR : Fld := ⟨0x108, 8, 3, 0, 0⟩
def DRC.CH_CFG.RD_MAX : Fld := ⟨0x108, 11, 6, 0, 0⟩
def DRC.RING_BASE.BASE_LO : Fld := ⟨0x110, 6, 26, 0, 0⟩
def DRC.RING_BASE.BASE_HI : Fld := ⟨0x114, 0, 32, 0, 0⟩
def DRC.PROD.INDEX : Fld := ⟨0x118, 0, 16, 0, 0⟩
def DRC.CONS.INDEX : Fld := ⟨0x11C, 0, 16, 0, 0⟩
def DRC.ERR_DESC.INDEX : Fld := ⟨0x120, 0, 16, 0, 0⟩
def DRC.ERR_DESC.CAUSE : Fld := ⟨0x120, 16, 4, 0, 0⟩

/-! ### The words -/

/-- The registers of the HDR page, word by word, in the masks of R8. -/
def regsHDR : List RegDef := [
  ⟨0x000, 2, 4, 1, 4096, 0x00000000, 0x00000000, 0x00000000, 0x00000000, 0x00000000, 0x00000000⟩,  -- PAGE_ID, PAGE_CAP
  ⟨0x008, 1, 4096, 1, 4096, 0x00000000, 0x00000000, 0x00000000, 0x00000000, 0x00000006, 0x00000000⟩,  -- PAGE_CTL
  ⟨0x00C, 1, 4096, 1, 4096, 0x00000000, 0x00000000, 0x00000000, 0x00000000, 0x00000000, 0x00000001⟩,  -- PAGE_STAT
  ⟨0x010, 1, 4096, 1, 4096, 0x00000000, 0xFFFFFFFF, 0x00000000, 0x00000000, 0x00000000, 0x00000000⟩,  -- IRQ_STAT
  ⟨0x014, 1, 4096, 1, 4096, 0xFFFFFFFF, 0x00000000, 0x00000000, 0x00000000, 0x00000000, 0x00000000⟩,  -- IRQ_EN
  ⟨0x018, 1, 4096, 1, 4096, 0x00000000, 0x00000000, 0x00000000, 0x00000000, 0xFFFFFFFF, 0x00000000⟩,  -- IRQ_SET
  ⟨0x020, 1, 4096, 1, 4096, 0x00000000, 0xFFFFFFFF, 0x00000000, 0x00000000, 0x00000000, 0x00000000⟩,  -- ERR_STAT
  ⟨0x024, 1, 4096, 1, 4096, 0xFFFFFFFF, 0x00000000, 0x00000000, 0x00000000, 0x00000000, 0x00000000⟩,  -- ERR_MASK
  ⟨0x028, 1, 4096, 1, 4096, 0xFFFFFFFF, 0x00000000, 0x00000000, 0x00000000, 0x00000000, 0x00000000⟩,  -- ERR_SEV
  ⟨0x02C, 1, 4096, 1, 4096, 0x00000000, 0x00000000, 0x00000000, 0x00000000, 0xFFFFFFFF, 0x00000000⟩,  -- ERR_INJ
  ⟨0x030, 1, 4096, 1, 4096, 0x00000000, 0x00000000, 0x00000000, 0x00000000, 0x00000000, 0x00000000⟩,  -- ERR_FIRST
  ⟨0x040, 1, 4096, 1, 4096, 0x1FFF01FF, 0x00000000, 0x00000000, 0x00000000, 0x00000200, 0x000000FF⟩,  -- CNT_CTL
  ⟨0x080, 8, 8, 1, 4096, 0xFFFFFFFF, 0x00000000, 0x00000000, 0x00000000, 0x00000000, 0x00000000⟩,  -- CNT
  ⟨0x084, 8, 8, 1, 4096, 0x0000FFFF, 0x00010000, 0x00000000, 0x00000000, 0x00000000, 0x00000000⟩,  -- CNT
  ⟨0x0C0, 1, 4096, 1, 4096, 0x0000007F, 0x00000000, 0x00000000, 0x00000000, 0x00000000, 0x00000000⟩  -- CNT_CHAIN
  ]

/-- The registers of the GLB page, word by word, in the masks of R8. -/
def regsGLB : List RegDef := [
  ⟨0x100, 1, 4096, 1, 4096, 0x00000000, 0x00008000, 0x00000000, 0x00000000, 0x00000000, 0x00000003⟩,  -- MODE_STAT
  ⟨0x104, 1, 4096, 1, 4096, 0x0000000F, 0x00000000, 0x00000000, 0x00000000, 0x0001FF00, 0x00000000⟩,  -- MODE_REQ
  ⟨0x108, 1, 4096, 1, 4096, 0x00000000, 0x00000000, 0x00000000, 0x0000FFFF, 0x00000000, 0x00000000⟩,  -- XING_STAT
  ⟨0x110, 1, 4096, 1, 4096, 0x00000000, 0x00000000, 0x00000000, 0x00000000, 0x00000000, 0xF2561F6D⟩,  -- PART_ID
  ⟨0x114, 1, 4096, 1, 4096, 0x00000000, 0x00000000, 0x00000000, 0x00000000, 0x00000000, 0x000010B0⟩,  -- STEPPING
  ⟨0x118, 1, 4096, 1, 4096, 0x00000000, 0x00000000, 0x00000000, 0x00000000, 0x00000000, 0x00000000⟩,  -- DEVICE_ID
  ⟨0x11C, 1, 4096, 1, 4096, 0x00000000, 0x00000000, 0x00000000, 0x00000000, 0x00000000, 0x00000000⟩,  -- DEVICE_ID
  ⟨0x120, 1, 4096, 1, 4096, 0x00000000, 0x00000000, 0x00000000, 0x00000000, 0x00000000, 0x1F2569A7⟩,  -- JTAG_ID
  ⟨0x140, 16, 4, 1, 4096, 0x0FFFFFF7, 0x00000000, 0x00000000, 0x00000000, 0x00000000, 0x00000000⟩,  -- STN_CFG
  ⟨0x180, 16, 4, 1, 4096, 0x00000000, 0x00000008, 0x00000000, 0x00000000, 0x00000000, 0x00000000⟩,  -- STN_STAT
  ⟨0x1C0, 16, 4, 1, 4096, 0x0000007F, 0x00000080, 0x00000000, 0x00000000, 0x00000000, 0x00000000⟩,  -- PERST_MAP
  ⟨0x200, 1, 4096, 1, 4096, 0x00000000, 0x00000000, 0x00000000, 0x00000000, 0x00000000, 0x00000000⟩,  -- ERR_SUM
  ⟨0x204, 1, 4096, 1, 4096, 0x00000000, 0x00000000, 0x00000000, 0x00000000, 0x00000000, 0x00000000⟩,  -- FENCE_STAT
  ⟨0x208, 1, 4096, 1, 4096, 0x00000000, 0x00000000, 0x00000000, 0x00000000, 0x00000000, 0x00000000⟩,  -- ECC_LAST
  ⟨0x20C, 1, 4096, 1, 4096, 0x00000000, 0x00000000, 0x00000000, 0x00000000, 0x00000000, 0x00000000⟩,  -- REPAIR_STAT
  ⟨0x210, 1, 4096, 1, 4096, 0x000000FF, 0x00020000, 0x00000000, 0x00000000, 0x0001FF00, 0x00000000⟩,  -- RECOVER
  ⟨0x214, 1, 4096, 1, 4096, 0x00000000, 0x00000000, 0x00000000, 0x00000000, 0x00000000, 0x00000000⟩,  -- SFG_STAT
  ⟨0x218, 1, 4096, 1, 4096, 0x00000000, 0x00000000, 0x00000000, 0x00000000, 0x00000000, 0x00000000⟩,  -- IRQ_SUM
  ⟨0x220, 1, 4096, 1, 4096, 0x00000000, 0x00000080, 0x00000000, 0xFFFF0000, 0x00000000, 0x00000000⟩,  -- ACC_VIOL
  ⟨0x224, 1, 4096, 1, 4096, 0x00000000, 0x00000000, 0x00000000, 0x00000000, 0x00000000, 0x00000000⟩  -- ACC_VIOL_ADDR
  ]

/-- The registers of the PWR page, word by word, in the masks of R8. -/
def regsPWR : List RegDef := [
  ⟨0x100, 1, 4096, 1, 4096, 0x001FFF3F, 0x00000000, 0x00000000, 0x00000000, 0x00000000, 0x0000C819⟩,  -- AVS_CFG
  ⟨0x104, 1, 4096, 1, 4096, 0x00000000, 0x00000000, 0x00000000, 0x00000000, 0x00000000, 0x00000000⟩,  -- VFUSE
  ⟨0x110, 4, 4, 1, 4096, 0x00000000, 0x00000000, 0x00000000, 0x00000000, 0x00000000, 0x00000000⟩,  -- AVS_STAT
  ⟨0x120, 1, 4096, 1, 4096, 0x000007FF, 0x00000000, 0x00000000, 0x00000000, 0x00000000, 0x0000032A⟩,  -- RAMP_CFG
  ⟨0x124, 1, 4096, 1, 4096, 0x00000000, 0x00000000, 0x00000000, 0x00000000, 0x00000000, 0x00025800⟩,  -- LOAD_STAT
  ⟨0x130, 1, 4096, 1, 4096, 0x000000FF, 0x00000000, 0x00000000, 0x00000000, 0x00000000, 0x00000000⟩,  -- UNIT_REQ
  ⟨0x134, 1, 4096, 1, 4096, 0x00000000, 0x00000000, 0x00000000, 0x00000000, 0x00000000, 0x00000000⟩,  -- UNIT_STAT
  ⟨0x138, 1, 4096, 1, 4096, 0x00000000, 0x00000FF0, 0x00000000, 0x00000000, 0x00000000, 0x00000000⟩  -- RAIL_STAT
  ]

/-- The registers of the CLK page, word by word, in the masks of R8. -/
def regsCLK : List RegDef := [
  ⟨0x100, 1, 4096, 1, 4096, 0x00000000, 0x00000000, 0x00000000, 0x00000000, 0x00000000, 0x00000000⟩,  -- PLL_STAT
  ⟨0x108, 1, 4096, 1, 4096, 0x00FF3F3F, 0x00000000, 0x00000000, 0x00000000, 0x00000000, 0x00203C1E⟩,  -- DROOP_CFG
  ⟨0x120, 4, 4, 1, 4096, 0xFFFFFFFF, 0x00000000, 0x00000000, 0x00000000, 0x00000000, 0x00000000⟩  -- L1SS_ADV
  ]

/-- The registers of the FFY page, word by word, in the masks of R8. -/
def regsFFY : List RegDef := [
  ⟨0x100, 1, 4096, 1, 4096, 0x00000007, 0x00000000, 0x00000000, 0x00000000, 0x00000000, 0x00000007⟩,  -- WAKE_EN
  ⟨0x104, 1, 4096, 1, 4096, 0x00000000, 0x00000000, 0x00000000, 0x00000000, 0x00000000, 0x00000000⟩,  -- WAKE_LAST
  ⟨0x108, 1, 4096, 1, 4096, 0xFFFFFFFF, 0x00000000, 0x00000000, 0x00000000, 0x00000000, 0x00000000⟩,  -- IDLE_CTL
  ⟨0x10C, 1, 4096, 1, 4096, 0x0FFFFFFF, 0x00000000, 0x00000000, 0x00000000, 0x00000000, 0x056E665F⟩,  -- TEMP_CFG
  ⟨0x120, 8, 4, 1, 4096, 0x00000000, 0x00000000, 0x00000000, 0x00000000, 0x00000000, 0x00000000⟩,  -- TEMP
  ⟨0x140, 1, 4096, 1, 4096, 0x00000000, 0x00000000, 0x00000000, 0x00000000, 0x00000400, 0x00000000⟩,  -- TRIP_STAT
  ⟨0x144, 1, 4096, 1, 4096, 0x0000007F, 0x00000000, 0x00000000, 0x00000000, 0x00000000, 0x0000005C⟩,  -- SMB_CFG
  ⟨0x148, 1, 4096, 1, 4096, 0xFFFFFFFF, 0x00000000, 0x00000000, 0x00000000, 0x00000000, 0x43424140⟩,  -- PMB_ADDR
  ⟨0x14C, 1, 4096, 1, 4096, 0x00000000, 0x00000000, 0x00000000, 0x00000000, 0x00000000, 0x00000001⟩  -- PERST_ARM
  ]

/-- The registers of the OTPV page, word by word, in the masks of R8. -/
def regsOTPV : List RegDef := [
  ⟨0x100, 1, 4096, 1, 4096, 0x00000000, 0x00000000, 0x00000000, 0x00000000, 0x00000000, 0x00000000⟩,  -- ACTIVE
  ⟨0x104, 1, 4096, 1, 4096, 0x00000000, 0x00000000, 0x00000000, 0x00000000, 0x00000000, 0x00000000⟩,  -- SVN
  ⟨0x108, 1, 4096, 1, 4096, 0x00000000, 0x00000000, 0x00000000, 0x00000000, 0x00000000, 0x00000000⟩,  -- STAGE
  ⟨0x10C, 1, 4096, 1, 4096, 0x00000000, 0x00000000, 0x00000000, 0x00000000, 0x00000000, 0x00000000⟩,  -- PRES
  ⟨0x400, 64, 4, 1, 4096, 0x00000000, 0x00000000, 0x00000000, 0x00000000, 0x00000000, 0x00000000⟩  -- GEN
  ]

/-- The registers of the GPIO page, word by word, in the masks of R8. -/
def regsGPIO : List RegDef := [
  ⟨0x100, 1, 4096, 1, 4096, 0x00000000, 0x00000000, 0x00000000, 0x00000000, 0x00000000, 0x00000000⟩,  -- OWNER
  ⟨0x104, 1, 4096, 1, 4096, 0x00000000, 0x00000000, 0x00000000, 0x00000000, 0x00000000, 0x00000000⟩,  -- OWNER
  ⟨0x108, 1, 4096, 1, 4096, 0x0000FFFF, 0x00000000, 0x00000000, 0x00000000, 0x00000000, 0x00000000⟩,  -- DIR
  ⟨0x10C, 1, 4096, 1, 4096, 0x0000FFFF, 0x00000000, 0x00000000, 0x00000000, 0x00000000, 0x00000000⟩,  -- OUT
  ⟨0x110, 1, 4096, 1, 4096, 0x00000000, 0x00000000, 0x00000000, 0x00000000, 0x00000000, 0x00000000⟩,  -- IN
  ⟨0x114, 1, 4096, 1, 4096, 0xFFFFFFFF, 0x00000000, 0x00000000, 0x00000000, 0x00000000, 0x00000000⟩,  -- EDGE
  ⟨0x118, 1, 4096, 1, 4096, 0x00000000, 0x00000040, 0x00000000, 0xFFFF0000, 0x00000000, 0x00000000⟩  -- BUSY
  ]

/-- The registers of the I3C page, word by word, in the masks of R8. -/
def regsI3C : List RegDef := [
  ⟨0x100, 1, 4096, 1, 4096, 0x007F7F07, 0x00000000, 0x00000000, 0x00000000, 0x00000000, 0x005D5D00⟩,  -- CTL
  ⟨0x104, 1, 4096, 1, 4096, 0x00000000, 0x00000000, 0x00000000, 0x00000000, 0x00000000, 0x00000000⟩,  -- EP
  ⟨0x110, 1, 4096, 1, 4096, 0x03FFFFFF, 0x00000000, 0x00000000, 0x00000000, 0x80000000, 0x00000000⟩,  -- C0_CMD
  ⟨0x114, 1, 4096, 1, 4096, 0x00000000, 0x00000000, 0x00000000, 0x00000000, 0x00000000, 0x00000000⟩,  -- C0_STAT
  ⟨0x118, 1, 4096, 1, 4096, 0x00000000, 0x00010000, 0x00000000, 0x0000FFFF, 0x00000000, 0x00000000⟩,  -- IBI
  ⟨0x11C, 1, 4096, 1, 4096, 0x0000FFFF, 0x00000000, 0x00000000, 0x00000000, 0x00000000, 0x00000000⟩,  -- SLOT_EN
  ⟨0x120, 1, 4096, 1, 4096, 0x00000000, 0x00200000, 0x00000000, 0x00000000, 0x00400000, 0x00000000⟩,  -- MRX_STAT
  ⟨0x124, 1, 4096, 1, 4096, 0x000FFFFF, 0x00000000, 0x00000000, 0x00000000, 0x00100000, 0x00000000⟩,  -- MTX_CTL
  ⟨0x128, 1, 4096, 1, 4096, 0x00000000, 0x00000000, 0x00000000, 0x00000000, 0x00000000, 0x00000000⟩,  -- SLOT_STAT
  ⟨0x400, 64, 4, 1, 4096, 0xFFFFFFFF, 0x00000000, 0x00000000, 0x00000000, 0x00000000, 0x00000000⟩,  -- C0_BUF
  ⟨0x800, 256, 4, 1, 4096, 0x00000000, 0x00000000, 0x00000000, 0x00000000, 0x00000000, 0x00000000⟩,  -- MRX_BUF
  ⟨0xC00, 256, 4, 1, 4096, 0xFFFFFFFF, 0x00000000, 0x00000000, 0x00000000, 0x00000000, 0x00000000⟩  -- MTX_BUF
  ]

/-- The registers of the SPI page, word by word, in the masks of R8. -/
def regsSPI : List RegDef := [
  ⟨0x100, 1, 4096, 1, 4096, 0x000001FF, 0x00000000, 0x00000000, 0x00000000, 0x00000000, 0x00000027⟩,  -- CTL
  ⟨0x104, 1, 4096, 1, 4096, 0x00000000, 0x00000000, 0x00000000, 0x00000000, 0x00000000, 0x00000000⟩,  -- OWNER
  ⟨0x108, 1, 4096, 1, 4096, 0x000007FF, 0x00000000, 0x00000000, 0x00000000, 0x80000000, 0x00000000⟩,  -- CMD
  ⟨0x10C, 1, 4096, 1, 4096, 0x03FFFFFF, 0x00000000, 0x00000000, 0x00000000, 0x00000000, 0x00000000⟩,  -- ADDR
  ⟨0x110, 1, 4096, 1, 4096, 0x00000000, 0x00000000, 0x00000000, 0xFFFF0000, 0x00000000, 0x00000000⟩,  -- STAT
  ⟨0x400, 64, 4, 1, 4096, 0xFFFFFFFF, 0x00000000, 0x00000000, 0x00000000, 0x00000000, 0x00000000⟩  -- BUF
  ]

/-- The registers of the MBX page, word by word, in the masks of R8. -/
def regsMBX : List RegDef := [
  ⟨0x100, 1, 4096, 1, 4096, 0x00000000, 0x00000000, 0x00000000, 0x00000000, 0x00000000, 0x00000000⟩,  -- PEND
  ⟨0x104, 1, 4096, 1, 4096, 0x00000000, 0x00000000, 0x00000000, 0x00000000, 0x00000000, 0x00000000⟩,  -- PEND
  ⟨0x108, 1, 4096, 1, 4096, 0x0000003F, 0x00000000, 0x00000000, 0x00000000, 0x00000000, 0x00000000⟩,  -- SEL
  ⟨0x10C, 1, 4096, 1, 4096, 0x00000000, 0x00000000, 0x00000000, 0x00000000, 0x00000000, 0x00000000⟩,  -- REQ
  ⟨0x110, 1, 4096, 1, 4096, 0x000FFFFF, 0x00200000, 0x00000000, 0x00000000, 0x00100000, 0x00000000⟩,  -- RSP
  ⟨0x118, 1, 4096, 1, 4096, 0x00000000, 0x00000000, 0x00000000, 0x00000000, 0x00000003, 0x00000000⟩,  -- WD
  ⟨0x120, 1, 4096, 1, 4096, 0x0007FFFF, 0x00000000, 0x00000000, 0x00000000, 0x00000000, 0x00000000⟩,  -- CC_CMD
  ⟨0x124, 1, 4096, 1, 4096, 0x00000000, 0x00000000, 0x00000000, 0x00000000, 0x00000001, 0x00000000⟩,  -- CC_CTL
  ⟨0x128, 1, 4096, 1, 4096, 0x00000000, 0x00000000, 0x00000000, 0x00000000, 0x00000000, 0x00000000⟩,  -- CC_STAT
  ⟨0x400, 256, 4, 1, 4096, 0xFFFFFFFF, 0x00000000, 0x00000000, 0x00000000, 0x00000000, 0x00000000⟩,  -- CC_DATA
  ⟨0x800, 512, 4, 1, 4096, 0xFFFFFFFF, 0x00000000, 0x00000000, 0x00000000, 0x00000000, 0x00000000⟩  -- MB_DATA
  ]

/-- The registers of the PORT page, word by word, in the masks of R8. -/
def regsPORT : List RegDef := [
  ⟨0x100, 1, 4096, 1, 4096, 0x00000000, 0x00000000, 0x00000000, 0x00000000, 0x00000000, 0x00000000⟩,  -- PORT_CTL
  ⟨0x104, 1, 4096, 1, 4096, 0x00000000, 0x00000000, 0x00000000, 0x00000000, 0x00000000, 0x00000000⟩,  -- PORT_STAT
  ⟨0x110, 1, 4096, 1, 4096, 0x00000004, 0x00000000, 0x00000008, 0x00000000, 0x00000003, 0x00000004⟩,  -- CONT_CTL
  ⟨0x114, 1, 4096, 1, 4096, 0x00000000, 0x00000000, 0x00000000, 0xFFFF0000, 0x00000000, 0x00000000⟩  -- CONT_STAT
  ]

/-- The registers of the SMW page, word by word, in the masks of R8. -/
def regsSMW : List RegDef := [
  ⟨0x100, 1, 4096, 1, 4096, 0x003FF3F5, 0x00000000, 0x00000000, 0x00000000, 0x0000000A, 0x00380000⟩,  -- LINK_CTL
  ⟨0x104, 1, 4096, 1, 4096, 0x00000000, 0x00000000, 0x00000000, 0x00000000, 0x00000000, 0x00000000⟩,  -- LINK_STAT
  ⟨0x108, 1, 4096, 1, 4096, 0x00000FFF, 0x00000000, 0x00000000, 0x00000000, 0x00000000, 0x0000040A⟩,  -- REPLAY_CTL
  ⟨0x10C, 1, 4096, 1, 4096, 0x00003FFF, 0x00000000, 0x00000000, 0x00000000, 0x00000000, 0x00000032⟩,  -- CREDIT_TMO
  ⟨0x110, 1, 4096, 1, 4096, 0x00000000, 0x00000000, 0x00000000, 0x00000000, 0x00000000, 0x00000000⟩,  -- SEQ_STAT
  ⟨0x114, 1, 4096, 1, 4096, 0x00000000, 0x00000000, 0x00000000, 0x00000000, 0x00000000, 0x000FFFFF⟩,  -- ACK_STAT
  ⟨0x118, 1, 4096, 1, 4096, 0x00000000, 0x00000000, 0x00000000, 0x00000000, 0x00000000, 0x00000000⟩,  -- FO_STAT
  ⟨0x11C, 1, 4096, 1, 4096, 0x000003FF, 0x00000000, 0x00000000, 0x00000000, 0x00000000, 0x00000380⟩,  -- FO_RSV
  ⟨0x140, 8, 4, 1, 4096, 0x00007FFF, 0x00000000, 0x00000000, 0x00000000, 0x00000000, 0x00000040⟩,  -- VC_ALLOC
  ⟨0x160, 8, 4, 1, 4096, 0x00000000, 0x00000000, 0x00000000, 0x00000000, 0x00000000, 0x00000000⟩,  -- VC_TXCRED
  ⟨0x180, 8, 4, 1, 4096, 0x00000000, 0x00000000, 0x00000000, 0x00000000, 0x00000000, 0x00000000⟩  -- VC_RXCRED
  ]

/-- The registers of the SERDES page, word by word, in the masks of R8. -/
def regsSERDES : List RegDef := [
  ⟨0x100, 1, 4096, 1, 4096, 0xFFFFFFF1, 0x00000000, 0x00000000, 0x00000000, 0x00000000, 0x00001041⟩,  -- ADAPT_CTL
  ⟨0x104, 1, 4096, 1, 4096, 0x000007FF, 0x00000000, 0x00000000, 0x00000000, 0x00000000, 0x000007FF⟩,  -- EQ_CAND
  ⟨0x108, 1, 4096, 1, 4096, 0x00000000, 0x0000000C, 0x00000000, 0x00000FF0, 0x00000000, 0x00000000⟩,  -- CLK_STAT
  ⟨0x110, 1, 4096, 1, 4096, 0x00FC3F7F, 0x00000000, 0x00000000, 0x00000000, 0x00010000, 0x00FC0000⟩,  -- MARGIN_CTL
  ⟨0x114, 1, 4096, 1, 4096, 0x00000000, 0x00000006, 0x00000000, 0x00000000, 0x00000000, 0x00000000⟩,  -- MARGIN_STAT
  ⟨0x200, 18, 4, 1, 4096, 0x00000000, 0x00000000, 0x00000000, 0x00000000, 0x00000000, 0x00000000⟩,  -- LANE_STAT
  ⟨0x400, 18, 32, 8, 4, 0x00000000, 0x00000000, 0x00000000, 0x00000000, 0x00000000, 0x00000000⟩  -- LANE_START
  ]

/-- The registers of the SCH page, word by word, in the masks of R8. -/
def regsSCH : List RegDef := [
  ⟨0x100, 10, 4, 1, 4096, 0x0000007F, 0x00000000, 0x00000000, 0x00000000, 0x00000000, 0x00000014⟩,  -- PORT_CFG
  ⟨0x140, 8, 4, 1, 4096, 0x00FFFFFF, 0x00000000, 0x00000000, 0x00000000, 0x00000000, 0x00FAC688⟩,  -- TC_MAP
  ⟨0x200, 10, 32, 8, 4, 0x0FFF3FFF, 0x00000000, 0x00000000, 0x00000000, 0x00000000, 0x08000046⟩,  -- Q_CFG
  ⟨0x400, 10, 64, 8, 8, 0x000FFFFF, 0x00000000, 0x00000000, 0x00000000, 0x00000000, 0x00000000⟩,  -- SHP_CFG
  ⟨0x404, 10, 64, 8, 8, 0x0007FFFF, 0x00000000, 0x00000000, 0x00000000, 0x00000000, 0x00000100⟩,  -- SHP_CFG
  ⟨0x700, 10, 32, 8, 4, 0x00000000, 0x00000000, 0x00000000, 0x00000000, 0x00000000, 0x00000000⟩,  -- Q_STAT
  ⟨0x900, 10, 32, 8, 4, 0x00000000, 0x00000000, 0x00000000, 0x00000000, 0x00000000, 0x00000000⟩,  -- SHP_TOK
  ⟨0xA40, 1, 4096, 1, 4096, 0x00000000, 0x00000000, 0x00000000, 0x00000000, 0x00000000, 0x00000000⟩,  -- POL_WITHHOLD
  ⟨0xA44, 1, 4096, 1, 4096, 0x00000000, 0x00000000, 0x00000000, 0x00000000, 0x00000000, 0x00000000⟩,  -- POL_WITHHOLD
  ⟨0xC00, 64, 8, 1, 4096, 0x000FFFFF, 0x00000000, 0x00000000, 0x00000000, 0x00000000, 0x00000000⟩,  -- POL_LL
  ⟨0xC04, 64, 8, 1, 4096, 0x0007FFFF, 0x00000000, 0x00000000, 0x00000000, 0x00000000, 0x00000100⟩,  -- POL_LL
  ⟨0xE00, 64, 8, 1, 4096, 0x000FFFFF, 0x00000000, 0x00000000, 0x00000000, 0x00000000, 0x00000000⟩,  -- POL_DROP
  ⟨0xE04, 64, 8, 1, 4096, 0x0007FFFF, 0x00000000, 0x00000000, 0x00000000, 0x00000000, 0x00000100⟩  -- POL_DROP
  ]

/-- The registers of the XBP page, word by word, in the masks of R8. -/
def regsXBP : List RegDef := [
  ⟨0x100, 1, 4096, 1, 4096, 0x00000000, 0x00000000, 0x00000000, 0x00000000, 0x00000007, 0x00000000⟩,  -- PLANE_CTL
  ⟨0x104, 1, 4096, 1, 4096, 0x00000000, 0x00000000, 0x00000000, 0x00000000, 0x00000000, 0x00000000⟩,  -- PLANE_STAT
  ⟨0x108, 1, 4096, 1, 4096, 0x0000001F, 0x00000000, 0x00000000, 0x00000000, 0x00000000, 0x00000008⟩,  -- MC_CTL
  ⟨0x10C, 1, 4096, 1, 4096, 0x0000FFFF, 0x00000000, 0x00000000, 0x00000000, 0x00000000, 0x00000400⟩,  -- WD_CTL
  ⟨0x110, 1, 4096, 1, 4096, 0x00000000, 0x00000000, 0x00000000, 0x00000000, 0x00000000, 0x00000000⟩,  -- CELL_TIME
  ⟨0x114, 1, 4096, 1, 4096, 0x00000000, 0x00000000, 0x00000000, 0x00000000, 0x00000000, 0x00000000⟩,  -- CELL_TIME
  ⟨0x118, 1, 4096, 1, 4096, 0x00000000, 0x00000000, 0x00000000, 0x00000000, 0x00000000, 0x00000000⟩,  -- LOST_AT
  ⟨0x120, 1, 4096, 1, 4096, 0x0001FFFF, 0x00000000, 0x00000000, 0x00000000, 0x00000000, 0x00000000⟩,  -- VOQ_SEL
  ⟨0x124, 1, 4096, 1, 4096, 0x00000000, 0x00000000, 0x00000000, 0x00000000, 0x00000000, 0x00000000⟩  -- VOQ_STAT
  ]

/-- The registers of the BUF page, word by word, in the masks of R8. -/
def regsBUF : List RegDef := [
  ⟨0x100, 1, 4096, 1, 4096, 0x0003FFFF, 0x00000000, 0x00000000, 0x00000000, 0x00000000, 0x00004000⟩,  -- CPL_RSV
  ⟨0x104, 1, 4096, 1, 4096, 0x0003FFFF, 0x00000000, 0x00000000, 0x00000000, 0x00000000, 0x00002000⟩,  -- ESC_RSV
  ⟨0x108, 1, 4096, 1, 4096, 0x0003FFFF, 0x00000000, 0x00000000, 0x00000000, 0x00000000, 0x00000400⟩,  -- MGMT_RSV
  ⟨0x10C, 1, 4096, 1, 4096, 0x0003FFFF, 0x00000000, 0x00000000, 0x00000000, 0x00000000, 0x00004000⟩,  -- DROP_MAX
  ⟨0x110, 1, 4096, 1, 4096, 0x00000000, 0x00080000, 0x00000000, 0x00000000, 0x00000000, 0x00000000⟩,  -- CFG_STAT
  ⟨0x114, 1, 4096, 1, 4096, 0x0000FFFF, 0x00000000, 0x00000000, 0x00000000, 0x00000000, 0x00000032⟩,  -- AGE_CTL
  ⟨0x118, 1, 4096, 1, 4096, 0x000FFFFF, 0x00000000, 0x00000000, 0x00000000, 0x00000000, 0x000007D0⟩,  -- AGE_LL
  ⟨0x120, 1, 4096, 1, 4096, 0x00000000, 0x00000000, 0x00000000, 0x00000000, 0x00000001, 0x00000000⟩,  -- AUD_CTL
  ⟨0x124, 1, 4096, 1, 4096, 0x00000000, 0x00000002, 0x00000000, 0x00000000, 0x00000000, 0x00000000⟩,  -- AUD_STAT
  ⟨0x140, 1, 4096, 1, 4096, 0x00000000, 0x00020000, 0x00000000, 0x00000000, 0x00000000, 0x00000000⟩,  -- STUCK_STAT
  ⟨0x400, 64, 4, 1, 4096, 0x001FFFFF, 0x00000000, 0x00000000, 0x00000000, 0x00000000, 0x00100200⟩,  -- ACCT_CFG
  ⟨0x500, 64, 4, 1, 4096, 0x00000000, 0x00000000, 0x00000000, 0x00000000, 0x00000000, 0x00000000⟩  -- ACCT_OCC
  ]

/-- The registers of the FAB page, word by word, in the masks of R8. -/
def regsFAB : List RegDef := [
  ⟨0x100, 1, 4096, 1, 4096, 0x00000000, 0x00000000, 0x00000000, 0x00000000, 0x00000000, 0x00000000⟩,  -- CHIP_ID
  ⟨0x104, 1, 4096, 1, 4096, 0x0000001F, 0x00000000, 0x00000000, 0x00000000, 0x00000000, 0x00000010⟩,  -- FAB_CTL
  ⟨0x108, 1, 4096, 1, 4096, 0x0000FFFF, 0x00000000, 0x00000000, 0x00000000, 0x00000000, 0x0000FA50⟩,  -- CG_MAP
  ⟨0x110, 1, 4096, 1, 4096, 0x0000FF3F, 0x00000000, 0x00000000, 0x00000000, 0x00000000, 0x00000A00⟩,  -- TIME_CTL
  ⟨0x118, 1, 4096, 1, 4096, 0x00000000, 0x00000000, 0x00000000, 0x00000000, 0x00000000, 0x00000000⟩,  -- TIME_NOW
  ⟨0x11C, 1, 4096, 1, 4096, 0x00000000, 0x00000000, 0x00000000, 0x00000000, 0x00000000, 0x00000000⟩,  -- TIME_NOW
  ⟨0x120, 1, 4096, 1, 4096, 0x00000000, 0x00020000, 0x00000000, 0x00000000, 0x00000000, 0x00000000⟩,  -- TIME_STAT
  ⟨0x124, 1, 4096, 1, 4096, 0x000000FF, 0x00000000, 0x00000000, 0x00000000, 0x00000100, 0x00000080⟩,  -- ROOT_CTL
  ⟨0x128, 1, 4096, 1, 4096, 0x00000000, 0x00000000, 0x00000000, 0x00000000, 0x00000000, 0x00000000⟩,  -- ROOT_STAT
  ⟨0x400, 64, 4, 1, 4096, 0x00000007, 0x00000000, 0x00000000, 0x00000000, 0x00000000, 0x00000000⟩  -- PSEL
  ]

/-- The registers of the CCN page, word by word, in the masks of R8. -/
def regsCCN : List RegDef := [
  ⟨0x100, 1, 4096, 1, 4096, 0x0000FFFF, 0x00000000, 0x00000000, 0x00000000, 0x00000000, 0x0000003C⟩,  -- FLOW_CTL
  ⟨0x104, 1, 4096, 1, 4096, 0x00000000, 0x00000000, 0x00000000, 0x00000000, 0x00000000, 0x00000000⟩,  -- FLOW_STAT
  ⟨0x110, 1, 4096, 1, 4096, 0x00000000, 0x00000000, 0x00000000, 0x00000000, 0x00000000, 0x00000000⟩,  -- HOLE_LAST
  ⟨0x114, 1, 4096, 1, 4096, 0x00000000, 0x00000000, 0x00000000, 0x00000000, 0x00000000, 0x00000000⟩,  -- HOLE_LAST
  ⟨0x200, 20, 4, 1, 4096, 0x00000000, 0x00000000, 0x00000000, 0x00000000, 0x00000000, 0x00000000⟩  -- RSQ_STAT
  ]

/-- The registers of the ORD page, word by word, in the masks of R8. -/
def regsORD : List RegDef := [
  ⟨0x100, 1, 4096, 1, 4096, 0x000003FF, 0x00000000, 0x00000000, 0x00000000, 0x00000000, 0x00000032⟩,  -- CTMO
  ⟨0x104, 1, 4096, 1, 4096, 0x00000000, 0x00000000, 0x00000000, 0x00000000, 0x00000000, 0x00000000⟩,  -- LEDGER_STAT
  ⟨0x400, 64, 4, 1, 4096, 0x00001FFF, 0x00000000, 0x00000000, 0x00000000, 0x00000000, 0x00000100⟩  -- LQ
  ]

/-- The registers of the TBL page, word by word, in the masks of R8. -/
def regsTBL : List RegDef := [
  ⟨0x100, 2, 128, 1, 4096, 0x007FFFFF, 0x00000000, 0x00000000, 0x00000000, 0x80000000, 0x00000000⟩,  -- ACC_CTL
  ⟨0x104, 2, 128, 1, 4096, 0x00000000, 0x00000000, 0x00000000, 0x00000000, 0x00000000, 0x00000000⟩,  -- ACC_STAT
  ⟨0x140, 2, 128, 16, 4, 0xFFFFFFFF, 0x00000000, 0x00000000, 0x00000000, 0x00000000, 0x00000000⟩,  -- ACC_DATA
  ⟨0x200, 1, 4096, 1, 4096, 0x3FFFF3FF, 0x00000000, 0x00000000, 0x00000000, 0x00000000, 0x0800001E⟩,  -- ORT_CTL
  ⟨0x208, 1, 4096, 1, 4096, 0x00000000, 0x00000000, 0x00000000, 0x00000000, 0x00000000, 0x00000000⟩,  -- ORT_STAT
  ⟨0x20C, 1, 4096, 1, 4096, 0x00000000, 0x00000000, 0x00000000, 0x00000000, 0x00000000, 0x00000000⟩,  -- ORT_STAT
  ⟨0x210, 1, 4096, 1, 4096, 0x00000000, 0x00000000, 0x00000000, 0x00000000, 0x00000000, 0x00000000⟩,  -- WTT_STAT
  ⟨0x214, 1, 4096, 1, 4096, 0x00000000, 0x00000000, 0x00000000, 0x00000000, 0x00000000, 0x00000000⟩,  -- WTT_MAPPED
  ⟨0x400, 64, 4, 1, 4096, 0x3FFFF3FF, 0x00000000, 0x00000000, 0x00000000, 0x00000000, 0x00800028⟩,  -- ORT_DL
  ⟨0x600, 128, 4, 1, 4096, 0x001FFFFF, 0x00000000, 0x00000000, 0x00000000, 0x00000000, 0x00000000⟩  -- PORT_TGT
  ]

/-- The registers of the DRN page, word by word, in the masks of R8. -/
def regsDRN : List RegDef := [
  ⟨0x100, 1, 4096, 1, 4096, 0x00000000, 0x00001000, 0x00000000, 0x00000000, 0x00000000, 0x00000000⟩,  -- BIND_RES
  ⟨0x400, 256, 4, 1, 4096, 0x00000000, 0x00000000, 0x00000000, 0x00000000, 0x00000000, 0x00000000⟩  -- CH_BIND
  ]

/-- The registers of the TEL page, word by word, in the masks of R8. -/
def regsTEL : List RegDef := [
  ⟨0x100, 1, 4096, 1, 4096, 0x00000003, 0x00000000, 0x00000000, 0x00000000, 0x00000000, 0x00000001⟩,  -- HIST_CTL
  ⟨0x104, 1, 4096, 1, 4096, 0x000007FF, 0x00000000, 0x00000000, 0x00000000, 0x00000000, 0x00000000⟩,  -- HIST_SEL
  ⟨0x200, 32, 8, 1, 4096, 0x00000000, 0x00000000, 0x00000000, 0x00000000, 0x00000000, 0x00000000⟩,  -- HIST_BIN
  ⟨0x204, 32, 8, 1, 4096, 0x00000000, 0x00000000, 0x00000000, 0x00000000, 0x00000000, 0x00000000⟩  -- HIST_BIN
  ]

/-- The registers of the ANT page, word by word, in the masks of R8. -/
def regsANT : List RegDef := [
  ⟨0x100, 1, 4096, 1, 4096, 0x00FFF7FF, 0x00000000, 0x00000000, 0x00000000, 0x00000000, 0x00000000⟩,  -- CTL
  ⟨0x104, 1, 4096, 1, 4096, 0x00000000, 0x00000008, 0x00000000, 0xFFFF0000, 0x00000000, 0x00000000⟩,  -- STAT
  ⟨0x108, 1, 4096, 1, 4096, 0x0000FFFF, 0x00000000, 0x00000000, 0x00000000, 0x00000000, 0x00000400⟩,  -- POST
  ⟨0x140, 4, 8, 1, 4096, 0x1FFF7FFF, 0x00000000, 0x00000000, 0x00000000, 0x00000000, 0x00000000⟩,  -- FILT
  ⟨0x144, 4, 8, 1, 4096, 0x0001FFFF, 0x00000000, 0x00000000, 0x00000000, 0x00000000, 0x00000FFF⟩,  -- FILT
  ⟨0x160, 1, 4096, 1, 4096, 0x0000FFFF, 0x00000000, 0x00000000, 0x00000000, 0x00000000, 0x00000000⟩,  -- MIRROR
  ⟨0x170, 1, 4096, 1, 4096, 0xFFFFF000, 0x00000000, 0x00000000, 0x00000000, 0x00000000, 0x00000000⟩,  -- RING_BASE
  ⟨0x174, 1, 4096, 1, 4096, 0xFFFFFFFF, 0x00000000, 0x00000000, 0x00000000, 0x00000000, 0x00000000⟩,  -- RING_BASE
  ⟨0x178, 1, 4096, 1, 4096, 0x0000001F, 0x00000000, 0x00000000, 0x00000000, 0x00000000, 0x0000000E⟩,  -- RING_CFG
  ⟨0x180, 1, 4096, 1, 4096, 0x00000000, 0x00000000, 0x00000000, 0x00000000, 0x00000000, 0x00000000⟩,  -- WR
  ⟨0x184, 1, 4096, 1, 4096, 0xFFFFFFFF, 0x00000000, 0x00000000, 0x00000000, 0x00000000, 0x00000000⟩,  -- RD
  ⟨0x190, 1, 4096, 1, 4096, 0x00003FFF, 0x00000000, 0x00000000, 0x00000000, 0x00000000, 0x00000000⟩,  -- REC_SEL
  ⟨0x200, 32, 4, 1, 4096, 0x00000000, 0x00000000, 0x00000000, 0x00000000, 0x00000000, 0x00000000⟩  -- REC
  ]

/-- The registers of the CFN page, word by word, in the masks of R8. -/
def regsCFN : List RegDef := [
  ⟨0x100, 1, 4096, 1, 4096, 0x00000000, 0x00000000, 0x00000000, 0x00000000, 0x00000000, 0x00000000⟩,  -- DOM_ID
  ⟨0x104, 1, 4096, 1, 4096, 0x00000000, 0x00000000, 0x00000000, 0x00000000, 0x00000000, 0x00000000⟩,  -- INTX_STAT
  ⟨0x108, 1, 4096, 1, 4096, 0x00000000, 0x00000000, 0x00000000, 0xFFFFFFFF, 0x00000000, 0x00000000⟩,  -- LATE_CPL
  ⟨0x400, 512, 4, 1, 4096, 0x000007FF, 0x00000000, 0x00000000, 0x00000000, 0x00000000, 0x00000000⟩  -- VEC_MAP
  ]

/-- The registers of the CFMB page, word by word, in the masks of R8. -/
def regsCFMB : List RegDef := [
  ⟨0x100, 1, 4096, 1, 4096, 0x0FFFFFFF, 0x00000000, 0x00000000, 0x00000000, 0x00000000, 0x00000000⟩,  -- MB_CMD
  ⟨0x104, 1, 4096, 1, 4096, 0x00000000, 0x00000000, 0x00000000, 0x00000000, 0x00000003, 0x00000000⟩,  -- MB_CTL
  ⟨0x108, 1, 4096, 1, 4096, 0x00000000, 0x00000000, 0x00000000, 0x00000000, 0x00000000, 0x00000000⟩,  -- MB_STAT
  ⟨0x10C, 1, 4096, 1, 4096, 0x000003FF, 0x00000000, 0x00000000, 0x00000000, 0x00000000, 0x00000064⟩,  -- MB_TMO
  ⟨0x800, 512, 4, 1, 4096, 0xFFFFFFFF, 0x00000000, 0x00000000, 0x00000000, 0x00000000, 0x00000000⟩  -- MB_DATA
  ]

/-- The registers of the ORDV page, word by word, in the masks of R8. -/
def regsORDV : List RegDef := [
  ⟨0x100, 1, 4096, 1, 4096, 0x00000000, 0x00000000, 0x00000000, 0x0000FFFF, 0x00000000, 0x00000000⟩,  -- FENCE
  ⟨0x104, 1, 4096, 1, 4096, 0x00000000, 0x00000000, 0x00000000, 0x00000003, 0x00000000, 0x00000000⟩,  -- FENCE
  ⟨0x108, 4, 8, 1, 4096, 0x00000000, 0x00000000, 0x00000000, 0x0000FFFF, 0x00000000, 0x00000000⟩,  -- FENCE_CL
  ⟨0x10C, 4, 8, 1, 4096, 0x00000000, 0x00000000, 0x00000000, 0x00000003, 0x00000000, 0x00000000⟩,  -- FENCE_CL
  ⟨0x128, 1, 4096, 1, 4096, 0x00000000, 0x00000000, 0x00000000, 0x0000FFFF, 0x00000000, 0x00000000⟩,  -- FENCE_DOM
  ⟨0x12C, 1, 4096, 1, 4096, 0x00000000, 0x00000000, 0x00000000, 0x00000003, 0x00000000, 0x00000000⟩,  -- FENCE_DOM
  ⟨0x140, 1, 4096, 1, 4096, 0xFFFF0000, 0x00000000, 0x00000000, 0x00000000, 0x00000000, 0x00000000⟩,  -- JRNL_PTR
  ⟨0x144, 1, 4096, 1, 4096, 0x00000000, 0x00000001, 0x00000000, 0x00000000, 0x00000000, 0x00000000⟩,  -- JRNL_STAT
  ⟨0x148, 1, 4096, 1, 4096, 0x0000FFFF, 0x00000000, 0x00000000, 0x00000000, 0x00000000, 0x00000000⟩,  -- JRNL_SEL
  ⟨0x150, 4, 4, 1, 4096, 0x00000000, 0x00000000, 0x00000000, 0x00000000, 0x00000000, 0x00000000⟩,  -- JRNL_ENT
  ⟨0x160, 1, 4096, 1, 4096, 0x00000000, 0x00000000, 0x00000000, 0x00000000, 0x00000000, 0x00000000⟩,  -- LEDGER
  ⟨0x200, 16, 4, 1, 4096, 0x00000000, 0x00000000, 0x00000000, 0x00000000, 0x00000000, 0x00000000⟩  -- RQ_RID
  ]

/-- The registers of the TELV1 page, word by word, in the masks of R8. -/
def regsTELV1 : List RegDef := [
  ⟨0x100, 1, 4096, 1, 4096, 0x00000000, 0x00000000, 0x00000000, 0x00000000, 0x00000000, 0x00000000⟩,  -- COLL_WR
  ⟨0x104, 1, 4096, 1, 4096, 0xFFFFFFFF, 0x00000000, 0x00000000, 0x00000000, 0x00000000, 0x00000000⟩  -- COLL_RD
  ]

/-- The registers of the TELV2 page, word by word, in the masks of R8. -/
def regsTELV2 : List RegDef := [
  ⟨0x100, 1, 4096, 1, 4096, 0x00000007, 0x00000000, 0x00000000, 0x00000000, 0x00000000, 0x00000000⟩,  -- HIST_SEL
  ⟨0x104, 1, 4096, 1, 4096, 0x00000002, 0x00000000, 0x00000000, 0x00000000, 0x00000000, 0x00000000⟩,  -- HIST_CTL
  ⟨0x200, 32, 8, 1, 4096, 0x00000000, 0x00000000, 0x00000000, 0x00000000, 0x00000000, 0x00000000⟩,  -- HIST_BIN
  ⟨0x204, 32, 8, 1, 4096, 0x00000000, 0x00000000, 0x00000000, 0x00000000, 0x00000000, 0x00000000⟩  -- HIST_BIN
  ]

/-- The registers of the TELV3 page, word by word, in the masks of R8. -/
def regsTELV3 : List RegDef := [
  ⟨0x100, 1, 4096, 1, 4096, 0x00000007, 0x00000000, 0x00000000, 0x00000000, 0x00000000, 0x00000000⟩,  -- HIST_SEL
  ⟨0x200, 32, 8, 1, 4096, 0x00000000, 0x00000000, 0x00000000, 0x00000000, 0x00000000, 0x00000000⟩,  -- HIST_BIN
  ⟨0x204, 32, 8, 1, 4096, 0x00000000, 0x00000000, 0x00000000, 0x00000000, 0x00000000, 0x00000000⟩  -- HIST_BIN
  ]

/-- The registers of the DRC page, word by word, in the masks of R8. -/
def regsDRC : List RegDef := [
  ⟨0x100, 1, 4096, 1, 4096, 0x00000001, 0x00000000, 0x00000000, 0x00000000, 0x00000002, 0x00000000⟩,  -- CH_CTL
  ⟨0x104, 1, 4096, 1, 4096, 0x00000000, 0x00000000, 0x00000000, 0x00000000, 0x00000000, 0x00000000⟩,  -- CH_STAT
  ⟨0x108, 1, 4096, 1, 4096, 0x0001FFFF, 0x00000000, 0x00000000, 0x00000000, 0x00000000, 0x000081A4⟩,  -- CH_CFG
  ⟨0x110, 1, 4096, 1, 4096, 0xFFFFFFC0, 0x00000000, 0x00000000, 0x00000000, 0x00000000, 0x00000000⟩,  -- RING_BASE
  ⟨0x114, 1, 4096, 1, 4096, 0xFFFFFFFF, 0x00000000, 0x00000000, 0x00000000, 0x00000000, 0x00000000⟩,  -- RING_BASE
  ⟨0x118, 1, 4096, 1, 4096, 0x00000000, 0x00000000, 0x00000000, 0x00000000, 0x00000000, 0x00000000⟩,  -- PROD
  ⟨0x11C, 1, 4096, 1, 4096, 0x00000000, 0x00000000, 0x00000000, 0x00000000, 0x00000000, 0x00000000⟩,  -- CONS
  ⟨0x120, 1, 4096, 1, 4096, 0x00000000, 0x00000000, 0x00000000, 0x00000000, 0x00000000, 0x00000000⟩  -- ERR_DESC
  ]

end Sys2Proof.Machine
end

