-- ==== Sys2Proof/Machine/Blocks.lean ====
section
/-! DEFINITION. The pieces of state behind the registers, one structure for each thing the manual names: cells and
frames, windows' requests, tracker entries, ledger slots, links, flows, channels, and what the part has sent. -/

namespace Sys2Proof.Machine

/-! ### Shared buffer and crossbar (R155 to R217) -/

/-- STATE of a buffer cell (R191). -/
inductive CellState where
  | free | queued | inFlight
  deriving DecidableEq, Repr

/-- POOL of a buffer cell (R194): completion, escape, management, the allotment of VC `v` of link code `l` (32 + l: charged before link `l`
last left ACTIVE), the return cells of a link, the failover reserve of a pair (named by its lower link code), an account (minimum and the account's part of
the shared pool), or the shared pool itself for droppable cells. -/
inductive Pool where
  | cpl
  | esc
  | mgmt
  | link (l : Nat) (v : Nat)
  | ret (l : Nat)
  | fo (l : Nat)
  | acct (a : Nat)
  | shared
  deriving DecidableEq, Repr

/-- The record of one buffer cell (R191), and the ingress crossbar port that charged it, which the credit auditor knows
(R213 identity 1). -/
structure CellRec where
  state : CellState
  pool : Pool
  acct : Nat
  refcnt : Nat
  xp : Nat
  deriving DecidableEq, Repr

/-- A cell nothing has been written to. -/
def CellRec.empty : CellRec := CellRec.mk .free .shared 0 0 0

/-- Where a frame goes (R162): local PCIe port, agent 0-5, destination chip, or multicast group. -/
inductive Dest where
  | port (t : Nat)
  | agent (a : Nat)
  | chip (k : Nat)
  | mc (g : Nat)
  deriving DecidableEq, Repr

/-- Failures counted for one fence scope (R284, R286): count, journal number of the first, and whether one had NO_ACK. -/
structure FailCnt where
  cnt : Nat
  first : Nat
  unknown : Bool
  deriving DecidableEq, Repr

/-- What a read has cleared that its completion still has to bring to the requester (R9): CFN.LATE_CPL of a domain, or the failures of one
fence scope. -/
inductive Undo where
  | lateCpl (d : Nat) (n : Nat)
  | fails (key : Nat) (c : FailCnt)
  deriving DecidableEq, Repr

/-- A frame in the part (R155), its buffer cells in frame order, and how far it has crossed: `matched` cells have been
matched and `landed` cells acknowledged good. -/
structure Frame where
  body : Body
  len : Nat
  cells : List Nat
  kind : Nat
  cls : Nat
  esc : Bool
  dest : Dest
  srcXp : Nat
  srcSub : Nat
  acct : Nat
  domf : Nat
  ts : Nat
  voq : Nat
  ort : Option Nat
  slot : Option (Nat × Nat)
  win : Option Nat
  gate : Option Nat
  combine : Option Nat
  fromLink : Option Nat
  matched : Nat
  landed : Nat
  abort : Bool
  open_ : Bool
  link : Option Nat
  mirror : Bool
  charged : Nat
  pool : Pool
  noFlow : Bool
  sent : Nat
  record : Option Nat
  chan : Option (Nat × Nat × Nat)
  undo : List Undo
  nulled : Bool
  mset : List (Nat × Nat)
  cfg : Bool
  deriving DecidableEq, Repr

/-- Every field of a frame at rest: the base that new frames are updates of. -/
def Frame.blank : Frame where
  body := .local Tlp.blank
  len := 16
  cells := []
  kind := 0
  cls := 0
  esc := false
  dest := .port 0
  srcXp := 0
  srcSub := 0
  acct := 0
  domf := 0
  ts := 0
  voq := 0
  ort := none
  slot := none
  win := none
  gate := none
  combine := none
  fromLink := none
  matched := 0
  landed := 0
  abort := false
  open_ := false
  link := none
  mirror := false
  charged := 0
  pool := .shared
  noFlow := false
  sent := 0
  record := none
  chan := none
  undo := []
  nulled := false
  mset := []
  cfg := false

/-- A matched cell on its way to its target (R159): frame, cell number in the frame, plane and rank, the crossbar port it
goes to, the member targets it is copied to there, the cell time of its match, and its cell descriptor (R157). -/
structure Flight where
  frame : Nat
  k : Nat
  plane : Nat
  rank : Nat
  xp : Nat
  subs : List Nat
  time : Nat
  desc : BitVec 128
  deriving DecidableEq, Repr

/-- A residue register (R178): the multicast cell read from the buffer and the crossbar ports still to receive it. -/
structure Residue where
  frame : Nat
  k : Nat
  fanout : List Nat
  deriving DecidableEq, Repr

/-- One entry of an egress class queue (R218): a frame at a PCIe port or agent, one landed cell of a frame at a link. -/
structure QItem where
  frame : Nat
  k : Nat
  deriving DecidableEq, Repr

/-- Backing held for advertised credit (R199, R521): the pool that backs it, the cells, and the credit cost of the
credits still outstanding on it. -/
structure Backing where
  pool : Pool
  cells : Nat
  cost : Nat
  deriving DecidableEq, Repr

/-! ### Lookup, tracker, ordering (R239 to R295) -/

/-- Whose request it is inside its domain: a requester ID at a PCIe port, a Drone channel slot, or an agent. -/
inductive Who where
  | host (rid : BitVec 16)
  | drone (slot : Nat)
  | agent (a : Nat)
  deriving DecidableEq, Repr

/-- STATE of a tracker entry (R257). -/
inductive OrtState where
  | free | localE | origin | far | quarantine
  deriving DecidableEq, Repr

/-- An ORT entry (R257). Beside the manual's words it holds what the entry's completion needs: the class (R219), the
requester's kind, when it opened (R461), whether the entry in QUARANTINE was LOCAL and when it becomes FREE (R263), the FBT
entry of the function asked (R245), and whether it belongs to another domain's requester (R254). -/
structure OrtEnt where
  state : OrtState
  op : Nat
  domain : Nat
  fabricId : Nat
  origRid : BitVec 16
  origTag : Nat
  target : Nat
  tgtTag : Nat
  tagBound : Bool
  source : Nat
  remain : Nat
  deadline : Nat
  originChip : Nat
  originIdx : Nat
  tgtRid : BitVec 16
  cls : Nat
  who : Who
  opened : Nat
  wasLocal : Bool
  fbt : Option Nat
  gate : Option Nat
  psel : Nat
  lowerAddr : Nat
  chan : Option (Nat × Nat × Nat)
  hdr : List (BitVec 32)
  deriving DecidableEq, Repr

/-- A free entry. -/
def OrtEnt.empty : OrtEnt where
  state := .free
  op := 0
  domain := 0
  fabricId := 0
  origRid := 0
  origTag := 0
  target := 0
  tgtTag := 0
  tagBound := false
  source := 0
  remain := 0
  deadline := 0
  originChip := 0
  originIdx := 0
  tgtRid := 0
  cls := 0
  who := .host 0
  opened := 0
  wasLocal := false
  fbt := none
  gate := none
  psel := 0
  lowerAddr := 0
  chan := none
  hdr := []

/-- A requester record of a domain (R270): host record 0-15 or Drone channel slot 0-255. -/
inductive Rec where
  | host (r : Nat)
  | drone (slot : Nat)
  deriving DecidableEq, Repr

/-- A ledger slot (R274). -/
structure Slot where
  used : Bool
  gen : Nat
  domain : Nat
  rec_ : Rec
  device : Bool
  fclass : Nat
  target : Nat
  addr : BitVec 64
  len : Nat
  deadline : Nat
  acct : Nat
  gate : Option Nat
  chan : Option Nat
  deriving DecidableEq, Repr

/-- A slot never used. -/
def Slot.empty : Slot where
  used := false
  gen := 0
  domain := 0
  rec_ := .host 0
  device := false
  fclass := 0
  target := 0
  addr := 0
  len := 0
  deadline := 0
  acct := 0
  gate := none
  chan := none

/-- A journal entry as JRNL_ENT shows it (R292). -/
structure Jrnl where
  w0 : BitVec 32
  w1 : BitVec 32
  w2 : BitVec 32
  w3 : BitVec 32
  deriving DecidableEq, Repr

/-- An open DEVICE request of a record, in the order of the Track stage (R281). -/
structure GateReq where
  id : Nat
  domain : Nat
  rec_ : Rec
  target : Nat
  posted : Bool
  deriving DecidableEq, Repr

/-- Where a request came in: a PCIe port, a Drone channel of a Drone, or an agent. -/
inductive Ingress where
  | port (t : Nat)
  | drone (d : Nat) (c : Nat)
  | agent (a : Nat)
  deriving DecidableEq, Repr

/-- A request that has passed Check, with what the lookup found (R239): the target, the translated packet, the
window, the type, the fence class. -/
structure Looked where
  ing : Ingress
  domain : Nat
  fid : Nat
  who : Who
  acct : Nat
  cls : Nat
  esc : Bool
  tlp : Tlp
  target : Nat
  device : Bool
  fclass : Nat
  tracked : Bool
  win : Option Nat
  fbt : Option Nat
  orig : BitVec 64
  mc : Option Nat
  ide : Bool
  deriving DecidableEq, Repr

/-- A request that waits at the Track stage (R258, R275, R281): what for (1 an entry, 2 a slot, 3 the gate, 0 an earlier
request), and since when. -/
structure Waiting where
  req : Looked
  fence : Option Nat
  chan : Option (Nat × Nat × Nat)
  why : Nat
  since : Nat
  deriving DecidableEq, Repr

/-- The scope of a fence read (R284). -/
inductive FenceScope where
  | rec_
  | cls (k : Nat)
  | dom
  deriving DecidableEq, Repr

/-- A held fence read (R285): the requester with its class and traffic class, the record (none when the requester has none), the scope,
the slots with their generations it still waits for, whether it reads 8 bytes, and its place in the DEVICE gate. -/
structure Fence where
  domain : Nat
  rid : BitVec 16
  tag : Nat
  cls : Nat
  tc : Nat
  record : Option Rec
  scope : FenceScope
  wait : List (Nat × Nat)
  wide : Bool
  gate : Option Nat
  deriving DecidableEq, Repr

/-! ### Links and flows (R120 to R154, R309 to R323) -/

/-- A parcel kept in the replay buffer (R134) or waiting to be sent on another link; `of_` is the SEQ that a failover resend had
on its broken link (R151), `unit` the unit whose cell it carries and the cell's number in the frame (R316, R346), `time` when it was last
sent; `key`, `iv` and `gpos` the key, IV and place in its group it is encrypted with (R140), `ctr` numbers the free bytes its content may hold. -/
structure TxSlot where
  seq : Nat
  txo : Nat
  hdr : ParcelHdr
  load : Payload
  unit : Option (Body × Nat)
  of_ : Option Nat
  held : Bool
  time : Nat
  key : Nat
  iv : Nat
  gpos : Nat
  ctr : Nat
  deriving DecidableEq, Repr

/-- A parcel the receiver holds until its group verifies (R130); `ok` of a TAG tells that the group's tag verifies. -/
structure RxHeld where
  hdr : ParcelHdr
  load : Payload
  ok : Bool
  deriving DecidableEq, Repr

/-- A cell that a verified group has released to the switch (R130), in its buffer cell. -/
structure Arrived where
  hdr : ParcelHdr
  load : Payload
  cell : Option Nat
  deriving DecidableEq, Repr

/-- The frame that a link, VC and FO bit is in the middle of receiving (R308): its unit, the number of the next cell, the cells
that wait for the frame's end, and whether its cells are discarded. -/
structure RxCtx where
  unit : Body
  next : Nat
  cells : List Nat
  skip : Bool
  deriving DecidableEq, Repr

/-- The link machine behind SMWA and SMWB: both directions (R126 to R153). Lists indexed by VC have eight entries. `txOpen` are
the frames of which a VC has committed the start and not the last cell: VC, frame, next cell (R308). `ctlq` are link control
messages and `foq` passed parcels that wait to be sent; `foFrom` is the broken link whose parcels they are; `arrived` the released
cells not yet taken by the switch; `allot` the carved allotments and `pairRsv` the carved failover reserve of a pair, kept at its
lower link code; `foAvail` and `foUsed` count the peer's reserve; `switchAsk` and `switchSeq` are a key's switch sequence as
proposed and as programmed; `barred` that Chitin does not train the link again before EN is written. `txKey` numbers the key of the next group (0 the
all-zero key of an unkeyed link), `nextKey` the one programmed for the switch sequence, `grpKey` and `grpWraps` the key and SEQ wraps of
the open group (R141); `strm` counts stream blocks sent since the last ALIGN group began (R68), `rxLane` is the data lane of the next
block received (R66), `rev` that the lanes run reversed (R57); `dups` counts duplicates (R130), `foHeld` parcels accepted against the
failover reserve and not yet released, `pairWant` the reserve fixed when the pair formed, kept at its lower link code (R151), `dropped` the droppable units
delivered within a window of parcels (R317). -/
structure LinkBlk where
  txNext : Nat
  wraps : Nat
  txo : Nat
  unacked : List TxSlot
  resend : List Nat
  retry : Nat
  group : Nat
  groupSeq : Nat
  ctlq : List Payload
  foq : List TxSlot
  foAvail : Nat
  sent : List Nat
  cum : List (Option Nat)
  cumAt : Nat
  ptrA : Nat
  ptrB : Nat
  lastCum : List Nat
  lastHdr : Nat
  changed : Bool
  nullCtr : Nat
  rxAck : Nat
  rxHeld : List RxHeld
  granted : List Nat
  received : List Nat
  charged : List Nat
  rxCtx : Sparse RxCtx
  since : Nat
  brokenAt : Nat
  wakeTries : Nat
  sleeping : Bool
  allot : List Nat
  pairRsv : Nat
  foUsed : Nat
  txKeyed : Bool
  rxKeyed : Bool
  keyAt : Nat
  groups : Nat
  switchSeq : Option Nat
  twinOk : Bool
  txOpen : List (Nat × Nat × Nat)
  foFrom : Option Nat
  arrived : List Arrived
  switchAsk : Option Nat
  barred : Bool
  txKey : Nat
  nextKey : Nat
  grpKey : Nat
  grpWraps : Nat
  strm : Nat
  rxLane : Nat
  rev : Bool
  dups : Nat
  foHeld : Nat
  pairWant : Nat
  dropped : List Body
  deriving DecidableEq, Repr

/-- A link that has never trained. -/
def LinkBlk.reset : LinkBlk where
  txNext := 0
  wraps := 0
  txo := 0
  unacked := []
  resend := []
  retry := 0
  group := 0
  groupSeq := 0
  ctlq := []
  foq := []
  foAvail := 0
  sent := [0, 0, 0, 0, 0, 0, 0, 0]
  cum := [none, none, none, none, none, none, none, none]
  cumAt := 0
  ptrA := 0
  ptrB := 0
  lastCum := [0, 0, 0, 0, 0, 0, 0, 0]
  lastHdr := 0
  changed := false
  nullCtr := 0
  rxAck := 0xFFFFF
  rxHeld := []
  granted := [0, 0, 0, 0, 0, 0, 0, 0]
  received := [0, 0, 0, 0, 0, 0, 0, 0]
  charged := [0, 0, 0, 0, 0, 0, 0, 0]
  rxCtx := []
  since := 0
  brokenAt := 0
  wakeTries := 0
  sleeping := false
  allot := []
  pairRsv := 0
  foUsed := 0
  txKeyed := false
  rxKeyed := false
  keyAt := 0
  groups := 0
  switchSeq := none
  twinOk := false
  txOpen := []
  foFrom := none
  arrived := []
  switchAsk := none
  barred := false
  txKey := 0
  nextKey := 0
  grpKey := 0
  grpWraps := 0
  strm := 0
  rxLane := 0
  rev := false
  dups := 0
  foHeld := 0
  pairWant := 0
  dropped := []

/-- A send flow entry (R310). -/
structure TxFlow where
  used : Bool
  next : Nat
  last : Nat
  opened : Bool
  deriving DecidableEq, Repr

/-- State of a receive flow entry (R310). -/
inductive FlowState where
  | none | unsynced | synced | stale
  deriving DecidableEq, Repr

/-- A cell the resequencer holds (R313): sequence, buffer cell, number in its frame, and the unit with a first cell. -/
structure RsqCell where
  seq : Nat
  cell : Nat
  k : Nat
  unit : Body
  last : Bool
  link : Nat
  vc : Nat
  deriving DecidableEq, Repr

/-- A receive flow entry (R310, R313). `rel` are the released cells of the frame whose release is in progress. -/
structure RxFlow where
  state : FlowState
  expected : Nat
  held : List RsqCell
  voided : List (Nat × Nat)
  early : List Nat
  last : Nat
  holeAt : Option Nat
  rel : List RsqCell
  deriving DecidableEq, Repr

/-- A combine entry of a multicast write (R322). -/
structure Combine where
  used : Bool
  gen : Nat
  origin : Option (Nat × Nat)
  upChip : Nat
  upOrtx : Nat
  upDomain : Nat
  upCls : Nat
  upPsel : Nat
  members : Nat
  branches : List Nat
  failed : Option Nat
  deadline : Nat
  deriving DecidableEq, Repr

/-- A combine entry never used. -/
def Combine.empty : Combine where
  used := false
  gen := 0
  origin := none
  upChip := 0
  upOrtx := 0
  upDomain := 0
  upCls := 0
  upPsel := 0
  members := 0
  branches := []
  failed := none
  deadline := 0

/-! ### Modes, crossings, outputs -/

/-- A mode trigger that waits for, or drives, a transition (R27): a wake with its source and index as
FFY.WAKE_LAST codes them, a fabric role change, a
containment that consumes redundancy, a fault that cannot be masked with its cause, a warm device reset with its cause, a
trip, a power cycle, or a MODE_REQ. -/
inductive Trigger where
  | wake (src : Nat) (index : Nat)
  | role (goal : Mode) (cause : Nat)
  | degraded (kind : Nat)
  | fenced (cause : Nat)
  | warm (cause : Nat)
  | trip
  | powerCycle
  | modeReq (target : Mode)
  | idlePolicy (target : Mode)
  deriving DecidableEq, Repr

/-- The mode machine behind GLB.MODE_STAT (R20, R21, R27). `going` is the trigger of the transition in progress,
`waiting` the triggers that wait for its end, `lost` the kinds of redundancy consumed since DEGRADED was entered, `from_` the mode STANDBY was entered from. -/
structure ModeBlk where
  mode : Mode
  role : Option Mode
  prev : Mode
  going : Option Trigger
  waiting : List Trigger
  from_ : Mode
  colonyUp : Bool
  standbyRoot : Bool
  reqRej : Bool
  rejCode : Nat
  lastCause : Nat
  sentIntent : Bool
  lost : List Nat
  deriving DecidableEq, Repr

/-- A posted write that has entered its crossing (R16): who wrote, the page, and the word addresses with their values. -/
structure Posted where
  req : Requester
  page : Nat
  words : List (Nat × BitVec 32)
  deriving DecidableEq, Repr

/-- The Data Object Exchange of a Control Function (R86, R394; layout of log entry 12): the words of the object the host writes, the words it has
still to read, the first word of an object that Chitin has not answered yet, and DOE Error. -/
structure DoeBlk where
  inw : List (BitVec 32)
  outw : List (BitVec 32)
  serving : Option (BitVec 32)
  err : Bool
  deriving DecidableEq, Repr

/-- A mailbox at rest. -/
def DoeBlk.reset : DoeBlk := DoeBlk.mk [] [] none false

/-- What the part sends out or answers, in order. -/
inductive Output where
  | readData (req : Requester) (addr : Nat) (value : BitVec 64)
  | busError (req : Requester) (addr : Nat)
  | tlp (port : Nat) (t : Tlp)
  | cfgAnswer (port : Nat) (t : Tlp)
  | msix (domain : Nat) (vec : Nat)
  | msi (domain : Nat) (bridge : Nat)
  | intx (domain : Nat) (rid : BitVec 16) (wire : Nat) (assert : Bool)
  | errMsg (domain : Nat) (fn : Nat) (severity : Nat)
  | flr (port : Nat) (prid : BitVec 16)
  | parcel (link : Nat) (h : ParcelHdr) (p : Payload)
  | train (link : Nat) (ts : Nat)
  | align (link : Nat)
  | wakePattern (link : Nat)
  | eqAsk (lane : Nat) (presets : List Nat) (keep : Option Nat)
  | credit (port : Nat) (type : Nat) (hdr : Nat) (data : Nat)
  | avs (channel : Nat) (mv : Nat)
  | avsRead (channel : Nat)
  | nack (code : Nat)
  | pmbus (channel : Nat) (mv : Nat)
  | gpioPulse (pin : Nat)
  | zeroFill (port : Nat) (base : Nat) (log2 : Nat)
  | i3c (addr : Nat) (read : Bool) (len : Nat)
  | mctp (bus : Nat) (eid : Nat) (bytes : List Byte)
  | reply (goal : Nat) (bytes : List Byte)
  | spdm (code : Nat) (words : List Nat)
  | doe (domain : Nat) (words : List (BitVec 32))
  | colonyIrq (code : Nat)
  deriving DecidableEq, Repr

/-- The part of a PCIe port that no register shows: training state, a link-down the part caused itself (R340 cause 8),
a DPC hold in Disabled, a Secondary Bus Reset or domain reset hold, the sticky lane ordering, and whether link IDE is up (R396). -/
structure PortBlk where
  ltssm : Ltssm
  selfDown : Bool
  sbr : Bool
  dpc : Bool
  keepDown : Bool
  ide : Bool
  deriving DecidableEq, Repr

/-- A port nothing has happened at. -/
def PortBlk.reset : PortBlk := PortBlk.mk .detect false false false false false

/-- What a Smiwaven data lane's receiver counts of sync headers (R60, R63): the last 64, a bit set where one was invalid, and the valid
ones in a row, up to 64. -/
structure LaneRx where
  bad : BitVec 64
  good : Nat
  deriving DecidableEq, Repr

/-- A lane that has received nothing. -/
def LaneRx.reset : LaneRx := LaneRx.mk 0 0

/-! ### Drone channels (R104 to R108) -/

/-- What a Drone channel is in the middle of. `descs` are fetched descriptors not yet run, `cur` the one that runs; `rdOut`
and `wrOut` count its reads and writes without an outcome, `ringOut` a ring read of `ringLen` bytes; `src` and `dst` hold what the
reads of each operand have brought, by offset; `issued` and `issuedB` are how far each operand's reads have been issued, `wrote` how
far writes have been, `done` how far bytes have committed or compared equal; `cplOut` is set while the completion record has no outcome, `cplBad` that a part of the record has failed; `waits` that the
channel waits for admission. -/
structure Chan where
  descs : List (List Byte)
  cur : Option (List Byte)
  rdOut : Nat
  wrOut : Nat
  ringOut : Bool
  ringLen : Nat
  rdErr : Bool
  wrErr : Bool
  src : List (Nat × List Byte)
  dst : List (Nat × List Byte)
  issued : Nat
  issuedB : Nat
  wrote : Nat
  done : Nat
  cplOut : Bool
  cplBad : Bool
  waits : Bool
  deriving DecidableEq, Repr

/-- A channel at rest. -/
def Chan.reset : Chan where
  descs := []
  cur := none
  rdOut := 0
  wrOut := 0
  ringOut := false
  ringLen := 0
  rdErr := false
  wrErr := false
  src := []
  dst := []
  issued := 0
  issuedB := 0
  wrote := 0
  done := 0
  cplOut := false
  cplBad := false
  waits := false

/-! ### Firefly (R424 to R449) -/

/-- A load step that Firefly announces before it lets it happen (R439): the enable of a station, plane, buffer quarter or
Drone, of Antenna or of Colony, or the return of lanes of a port. -/
inductive LoadStep where
  | station (n : Nat)
  | plane (q : Nat)
  | quarter (q : Nat)
  | drone (d : Nat)
  | antenna
  | colony
  | width (t : Nat) (w : Nat)
  deriving DecidableEq, Repr

/-- A request at the regulator port (R436): its channel, the target it writes, none for a status read, its attempt, whether it is a
pre-announcement, and the load steps that wait for its acknowledgement (R439). -/
structure AvsReq where
  chan : Nat
  mv : Option Nat
  att : Nat
  pre : Bool
  steps : List LoadStep
  deriving DecidableEq, Repr

/-- What Firefly keeps beside its registers. `perst` is the PERST_N inputs qualified low, `seen` those whose assertion was
qualified since their last deassertion; `strap` MAINT_STRAP as last sampled; `presses` qualified presses since POR; `high` the PERST_N
inputs qualified high since leaving OFF; `watch` and `watchL` the ports and sleeping links whose wakes count after the last role mode; `held` wakes held after a trip or by a standing FAULT_N, as
source and index; `tries` failed wake attempts; `over` the sensors above TRIP_C and `window` the rails outside their window in
the last T2 period; `cold` VTEMP in force; `ready` the load steps whose pre-announcement is acknowledged; `avs`
the outstanding request and `avsq` the requests behind it, in the order they go (R370); `reads` the good probe reads of
each silent channel; `tripQ` a qualified trip as cause, sensor and rail, `tripAt` when the last one was; `stretch` the clock
stretch: 0 none, 1 shallow, 2 deep; `idleSince` since when the acceptance condition of STANDBY holds in TRANSPARENT, or STANDBY lasts (R427). -/
structure Ffy where
  chipRst : Bool
  perst : Nat
  seen : Nat
  strap : Bool
  presses : Nat
  high : Nat
  watch : List Nat
  watchL : List Nat
  held : List (Nat × Nat)
  tries : Nat
  overs : Nat
  window : Nat
  cold : Bool
  ready : List LoadStep
  avs : Option AvsReq
  avsq : List AvsReq
  reads : Sparse Nat
  hold : Option Nat
  tripAt : Nat
  tripQ : Option (Nat × Nat × Nat)
  stretch : Nat
  cap : Nat
  idleSince : Option Nat
  deriving DecidableEq, Repr

/-- Firefly as it leaves OFF (log entry 7, DESIGN CHOICE). -/
def Ffy.reset : Ffy where
  chipRst := false
  perst := 0
  seen := 0
  strap := false
  presses := 0
  high := 0
  watch := []
  watchL := []
  held := []
  tries := 0
  overs := 0
  window := 0
  cold := false
  ready := []
  avs := none
  avsq := []
  reads := []
  hold := none
  tripAt := 0
  tripQ := none
  stretch := 0
  cap := 80
  idleSince := none

/-- The load steps that wait for an acknowledgement. -/
def Ffy.steps (f : Ffy) : List LoadStep := (f.avs.toList ++ f.avsq).flatMap (fun r => r.steps)

/-! ### Firmware and maintenance (R382 to R420) -/

/-- A staged or submitted maintenance command (R417, R418): code, up to two numbers, data words, the resource it names, whether the signatures
it rests on verify, and whether OTP programming verifies. -/
structure Maint where
  code : Nat
  arg : Nat
  arg2 : Nat
  words : List (BitVec 32)
  res : Option Res
  sigOk : Bool
  progOk : Bool
  deriving DecidableEq, Repr

/-- The firmware's progress. `chitin`: the runtime image runs; `rom`: neither copy verified and the mask ROM answers (R388);
`noGen`: no generation is valid (R387); `colony`: 0 not tried, 1 a copy verified, 2 both failed; `run`: Colony is released;
`restart`: when the restart in progress began; `failed`: when the last restart was declared failed; `restarts` counts since POR;
`kick`: the last watchdog write; `staged` with its start; `romMaint`: MAINTENANCE under the mask ROM (R388); `tests` the units whose requested test still runs; `byStrap`: MAINTENANCE was entered by MAINT_STRAP;
BODY_DIGEST and VERSION of the running images. -/
structure Boot where
  chitin : Bool
  rom : Bool
  noGen : Bool
  colony : Nat
  run : Bool
  restart : Option Nat
  failed : Option Nat
  restarts : Nat
  kick : Nat
  staged : Option (Maint × Nat)
  romMaint : Bool
  byStrap : Bool
  tests : Nat
  chitinImg : Nat × Nat
  colonyImg : Nat × Nat
  deriving DecidableEq, Repr

/-- Firmware before the mask ROM has run. -/
def Boot.reset : Boot := Boot.mk false false false 0 false none none 0 0 none false false 0 (0, 0) (0, 0)

/-! ### Ownership and grants (R406 to R412) -/

/-- State of an ownership record (R406). A resource that is not listed is FREE. -/
inductive Own where
  | owned (d : Nat)
  | quarantined (d : Nat)
  deriving DecidableEq, Repr

/-- A grant entry (R410). -/
structure Grant where
  kind : Nat
  perm : Nat
  atsOk : Bool
  log2 : Nat
  grantor : Nat
  grantee : Nat
  target : Nat
  mcg : Nat
  base : Nat
  issuer : Nat
  serial : Nat
  sig : BitVec 768
  deriving DecidableEq, Repr

/-- The keys that Chitin derives at a BOOT (R393): the seeds of DeviceID and Alias, whether DeviceID has Kimund's certificate, and the
certificate that DeviceID gives Alias. -/
structure Ident where
  device : BitVec 384
  aliasSeed : BitVec 384
  kimund : Bool
  cert : BitVec 768
  deriving DecidableEq, Repr

/-- What Chitin alone holds (R400): ownership records, grants, the fabric ID fixed for a domain index (R408), declared pool
ports, the next serial number, the SPDM sessions by the domain whose host opened them (none the BMC or another chip), the last domain of a Drone channel that has not released it, the selective
streams it has keyed with their devices' ports (R396), the last ROLE of each port other than 0 (R407), and the identity keys of this BOOT (R393). Numbers that may be absent are kept one
higher, 0 for none. -/
structure Trust where
  own : List (Res × Own)
  grants : Sparse (Option Grant)
  fixed : Sparse Nat
  pools : List Nat
  serial : Nat
  sessions : List (Option Nat)
  drone : Sparse Nat
  streams : List (Nat × Nat)
  lastRole : Sparse Nat
  ident : Option Ident
  deriving DecidableEq, Repr

/-- Nothing owned, nothing granted (log entry 8, DESIGN CHOICE). -/
def Trust.reset : Trust := Trust.mk [] [] [] [] 0 [] [] [] [] none

/-! ### Time, capture and pages -/

/-- The child side of time distribution behind FAB.TIME_STAT (R326, R327): exchange number,
and the run of small offsets that LOCKED counts. -/
structure TimeBlk where
  exch : Nat
  small : Nat
  deriving DecidableEq, Repr

/-- Antenna behind its page (R464 to R473): the capture SRAM by slot, the mode taken at the last write of EN, the frames each
filter has matched, records left after a trigger (STOP), a trigger to mark in the next record, records lost since the last one
written, and the CAPTURE grants installed on this chip as grantor and grantee. -/
structure AntBlk where
  ring : Sparse (List (BitVec 32))
  mode : Nat
  nth : Sparse Nat
  post : Option Nat
  trig : Bool
  lostBefore : Nat
  grants : List (Nat × Nat)
  deriving DecidableEq, Repr

/-- An operation of the SPI controller in progress: requester, opcode, address, length. -/
structure SpiOp where
  req : Requester
  op : Nat
  addr : Nat
  len : Nat
  deriving DecidableEq, Repr

/-! ### The part -/

/-- Everything behind the registers and the registers themselves, but for the queue, OTP and the trust records. `cplWait`
are completions that wait at a PCIe port behind a posted write they may not pass (R275, R279), `rstDue` is when a domain reset in progress completes its last step (R113), `spare` counts the spare rows used by sub-array (R353), `dfe` holds the DFE taps of a lane in thousandths of the main cursor (R42), `farPreset` the far-end preset a
lane's equalisation has kept (R55), `scr` its scrambler (R65), `lines` what the data lanes of links have sent, as PAM4 levels lane by lane (R65),
`ueRows` the buffer words that reported an uncorrectable error (R356 cause 3), `regUe` the register words that one has struck (R99). -/
structure Part where
  regs : Sparse (BitVec 32)
  now : Nat
  ftime : Nat
  slew : Int
  out : List Output
  freeCtr : Nat
  md : ModeBlk
  posted : List Posted
  shadow : List (Requester × Nat × BitVec 32)
  -- shared buffer and crossbar
  cell : Sparse CellRec
  frames : Sparse (Option Frame)
  nextFrame : Nat
  voqs : Sparse (List Nat)
  flights : List Flight
  residues : Sparse (List Residue)
  arbA : Sparse Nat
  arbG : Sparse Nat
  arbV : Sparse Nat
  cellTime : Nat
  awaited : Sparse Nat
  credAt : Sparse Nat
  joining : List (Nat × Nat)
  starved : Sparse Nat
  occ : Sparse Nat
  refused : Sparse Bool
  backing : Sparse (List Backing)
  stuck : List Dest
  audit : Sparse Nat
  -- egress
  tq : Sparse (List QItem)
  deficit : Sparse Nat
  stale : Sparse Bool
  tok : Sparse Nat
  shpAct : Sparse (Nat × Nat)
  polTok : Sparse Nat
  polAct : Sparse (Nat × Nat)
  debt : Sparse Nat
  withheld : Sparse Bool
  -- lookup, tracker, order
  tables : Sparse (BitVec 32)
  ort : Sparse OrtEnt
  ledger : Sparse Slot
  fail : Sparse FailCnt
  jrnl : Sparse Jrnl
  gates : List GateReq
  nextGate : Nat
  waiting : List Waiting
  cplWait : List (Nat × Tlp)
  fences : List Fence
  -- links and fabric
  link : Sparse LinkBlk
  txFlow : Sparse TxFlow
  rxFlow : Sparse RxFlow
  rsqIn : Sparse (List RsqCell)
  combine : Sparse Combine
  port : Sparse PortBlk
  -- domains and channels
  cfg : Sparse (BitVec 32)
  sharers : Sparse (List (BitVec 16))
  intx : Sparse Nat
  msix : Sparse Bool
  flr : Sparse Nat
  cfFlr : Sparse Bool
  rstDue : Sparse Nat
  doe : Sparse DoeBlk
  stnRest : Sparse Nat
  chan : Sparse Chan
  -- telemetry
  hist : Sparse Nat
  domHist : Sparse Nat
  ant : AntBlk
  -- Firefly, firmware, fabric time, pages
  ffy : Ffy
  boot : Boot
  time : TimeBlk
  ibi : List (Nat × Nat)
  spi : Option SpiOp
  flash : Sparse Byte
  spare : Sparse Nat
  ueRows : List Nat
  regUe : List Nat
  jext : Option (Sparse (BitVec 32))
  side : Sparse Bool
  -- lanes, by chip lane (R33)
  dfe : Sparse (List Int)
  farPreset : Sparse (Option Nat)
  laneRx : Sparse LaneRx
  scr : Sparse (BitVec 58)
  lines : List (Nat × List (List Nat))
  deriving DecidableEq, Repr

/-- The part with its core logic just released from reset and nothing done yet (R21: MODE BOOT)
(log entry 72, DEDUCED) (log entry 7, DESIGN CHOICE). -/
def Part.fresh : Part where
  regs := []
  now := 0
  ftime := 0
  slew := 0
  out := []
  freeCtr := 0
  md := ModeBlk.mk .boot none .off none [] .off false false false 0 0 false []
  posted := []
  shadow := []
  cell := []
  frames := []
  nextFrame := 0
  voqs := []
  flights := []
  residues := []
  arbA := []
  arbG := []
  arbV := []
  cellTime := 0
  awaited := []
  credAt := []
  joining := []
  starved := []
  occ := []
  refused := []
  backing := []
  stuck := []
  audit := []
  tq := []
  deficit := []
  stale := []
  tok := []
  shpAct := []
  polTok := []
  polAct := []
  debt := []
  withheld := []
  tables := []
  ort := []
  ledger := []
  fail := []
  jrnl := []
  gates := []
  nextGate := 0
  waiting := []
  cplWait := []
  fences := []
  link := []
  txFlow := []
  rxFlow := []
  rsqIn := []
  combine := []
  port := []
  cfg := []
  sharers := []
  intx := []
  msix := []
  flr := []
  cfFlr := []
  rstDue := []
  doe := []
  stnRest := []
  chan := []
  hist := []
  domHist := []
  ant := AntBlk.mk [] 0 [] none false 0 []
  ffy := Ffy.reset
  boot := Boot.reset
  time := TimeBlk.mk 0 0
  ibi := []
  spi := none
  flash := []
  spare := []
  ueRows := []
  regUe := []
  jext := none
  side := []
  dfe := []
  farPreset := []
  laneRx := []
  scr := []
  lines := []

end Sys2Proof.Machine
end

