-- ==== Sys2Proof/Machine/State.lean ====
section
/-! DEFINITION. The state of the part, the reasons a step could stop, and the state after reset. -/

namespace Sys2Proof.Machine

/-- The state: commands waiting, first in first out; the OTP array by 32-bit word (R389); what Chitin alone holds
(R400); and everything else (`Part`). -/
structure State where
  pending : List Instr
  otp : Sparse (BitVec 32)
  trust : Trust
  part : Part
  deriving DecidableEq, Repr

/-- No command stops with a fault: every command's rule gives its effect. -/
inductive Fault where
  deriving DecidableEq, Repr

/-- Why a command has no answer. -/
inductive Refusal where
  /-- The command's arm in Machine/Dispatch.lean has no meaning yet. Safe: nothing is claimed of it. -/
  | notModelled (mnemonic : String)
  deriving DecidableEq, Repr

/-- The part right after its core logic leaves reset: mode BOOT (GLB.MODE_STAT), every register at its reset value, OTP
blank (log entry 2), nothing waiting. -/
def State.reset : State where
  pending := []
  otp := []
  trust := Trust.reset
  part := Part.fresh

end Sys2Proof.Machine
end

