-- ==== Sys2Proof/Config.lean ====
section
/-! DEFINITION. What no rule of the manual fixes: free values. Each is a constant without a body, applied to a plain
counter of the state or to the operands it depends on, so no proof can see which value it is. -/

namespace Sys2Proof.Config

/-- A word the manual leaves undefined or does not state, fresh at each use (log entry 3). -/
opaque freeWord : Nat → BitVec 32

/-- A byte the manual leaves undefined, fresh at each use (log entry 3). -/
opaque freeByte : Nat → BitVec 8

/-- The completer ID of a completion the part synthesises, which the manual does not state (log entry 3). -/
opaque synthCompleter : Nat → BitVec 16

/-- The die's factory fuse of the core supply in mV above 650, which differs from part to part (PWR.VFUSE, log entry 3). -/
opaque vfuseAbove : Nat

/-- The 64-bit identifier of the part, which its OTP holds (GLB.DEVICE_ID, log entry 3). -/
opaque deviceId : BitVec 64

/-- The mode by which the FRT entry at an index routes when its MODE field holds the reserved 3: 0 SPRAY, 1 PINNED, 2 PRIMARY, and
any other number no link at all (R304, R307; log entry 85, DESIGN CHOICE). -/
opaque frtModeThree : Nat → Nat

/-- A byte behind the valid bytes of a cell's parcel, which no rule states (log entry 87). -/
opaque padByte : Nat → BitVec 8

/-- Byte `pos` of the AES-256-GCM keystream of a link key and an IV: the cipher as a function nothing is known of (R140, log entry 86). -/
opaque keystream : Nat → Nat → Nat → BitVec 8

/-- The GCM tag of a link key, an IV, authenticated bytes and ciphertext (R140, log entry 86). -/
opaque gcmTag : Nat → Nat → List (BitVec 8) → List (BitVec 8) → BitVec 128

/-- The 32-bit salt that goes with a link key (R397, log entry 86). -/
opaque linkSalt : Nat → BitVec 32

/-- A DFE tap as least mean squares has adapted it at some instant, in thousandths of the main cursor: which value, no rule says (R42,
log entry 89). -/
opaque dfeTap : Nat → Nat → Int

/-- SHA-384, as a function nothing is known of (log entry 3). -/
opaque sha384 : List Nat → BitVec 384

/-- HKDF-SHA-384 of a secret and a context, to the seed of a P-384 key (R393, log entry 82). -/
opaque hkdf384 : List Nat → List Nat → BitVec 384

/-- The public ECDSA P-384 key of a seed (R393, log entry 82). -/
opaque p384Public : BitVec 384 → BitVec 768

/-- The ECDSA P-384 signature of a message under the key of a seed (R393, R395, R410, log entry 82). -/
opaque ecdsaSign : BitVec 384 → List Nat → BitVec 768

/-- The digest of the mask ROM (R395, log entry 3). -/
opaque maskRom : BitVec 384

end Sys2Proof.Config
end

