-- ==== Sys2Proof/Machine/Ops.lean ====
section
/-! DEFINITION. The named operations everything else is written with: sparse stores, the page map of R474, reading and
writing register words and fields, the common page header (error, interrupt and counter bits of R334 to R337, R454 to R457,
R479), outputs, free values and time. -/

namespace Sys2Proof.Machine

/-! ### Sparse stores -/

/-- The value at number `k`; `d` is what an unlisted number reads as. -/
def Sparse.get {β : Type} (m : Sparse β) (d : β) (k : Nat) : β :=
  match m with
  | [] => d
  | (a, v) :: r => if a = k then v else Sparse.get r d k

/-- Lists `v` at number `k`, in its place in the rising order. -/
def Sparse.put {β : Type} (m : Sparse β) (k : Nat) (v : β) : Sparse β :=
  match m with
  | [] => [(k, v)]
  | (a, w) :: r => if k < a then (k, v) :: (a, w) :: r else if k = a then (k, v) :: r else (a, w) :: Sparse.put r k v

/-- Unlists number `k`. -/
def Sparse.del {β : Type} (m : Sparse β) (k : Nat) : Sparse β := m.filter (fun e => e.1 != k)

/-- Writes `v` at number `k`, listing nothing that reads as the default. -/
def Sparse.set {β : Type} [DecidableEq β] (m : Sparse β) (d : β) (k : Nat) (v : β) : Sparse β :=
  if v = d then Sparse.del m k else Sparse.put m k v

/-- Numbers rise strictly from above `lo`. -/
def Sparse.rising {β : Type} (lo : Option Nat) (m : Sparse β) : Bool :=
  match m with
  | [] => true
  | (a, _) :: r => (match lo with | none => true | some l => decide (l < a)) && Sparse.rising (some a) r

/-- The canonical form: numbers rise strictly and no entry equals what its number reads as unlisted. -/
def Sparse.wf {β : Type} [DecidableEq β] (d : Nat → β) (m : Sparse β) : Bool :=
  Sparse.rising none m && m.all (fun e => decide (e.2 ≠ d e.1))

/-! ### The page map (R73, R87, R474) -/

/-- A page of register space or of a Control Function's view. Ports are local ports 8n + p, links are link codes 2n + l. -/
inductive Page where
  | glb | pwr | clk | ffy | otpv | gpio | i3c | spi | mbx
  | port (t : Nat) | smw (l : Nat) | serdes (n : Nat) | sch (n : Nat)
  | xbp (p : Nat) | buf | fab | ccn | ord | tbl | drn (d : Nat) | tel | ant | cht
  | cfn (d : Nat) | cfmb (d : Nat) | ordv (d : Nat) | telv (d : Nat) (v : Nat) | msixTbl (d : Nat) (q : Nat)
  | pba (d : Nat) | drc (d : Nat) (k : Nat)
  deriving DecidableEq, Repr

/-- Where the view pages of domain `d` are kept: past the 64 MiB of register space, one 16 MiB view each (R87, R484). -/
def viewBase (d : Nat) : Nat := 0x4000000 + d * 0x1000000

/-- The address of a page's first byte (R73, R87, R474). -/
def Page.base : Page → Nat
  | .glb => 0x0000 | .pwr => 0x1000 | .clk => 0x2000 | .ffy => 0x3000 | .otpv => 0x4000
  | .gpio => 0x5000 | .i3c => 0x6000 | .spi => 0x7000 | .mbx => 0x8000
  | .port t => 0x1000000 + t / 8 * 0x100000 + t % 8 * 0x1000
  | .smw l => 0x1000000 + l / 2 * 0x100000 + 0x8000 + l % 2 * 0x1000
  | .serdes n => 0x1000000 + n * 0x100000 + 0xA000
  | .sch n => 0x1000000 + n * 0x100000 + 0xB000
  | .xbp p => 0x2000000 + p * 0x1000
  | .buf => 0x2004000 | .fab => 0x2005000 | .ccn => 0x2006000 | .ord => 0x2007000
  | .tbl => 0x2800000
  | .drn d => 0x3000000 + d * 0x1000
  | .tel => 0x3002000 | .ant => 0x3003000 | .cht => 0x3F00000
  | .cfn d => viewBase d | .cfmb d => viewBase d + 0x1000 | .ordv d => viewBase d + 0x2000
  | .telv d v => viewBase d + 0x4000 + v * 0x1000
  | .msixTbl d q => viewBase d + 0x10000 + q * 0x1000
  | .pba d => viewBase d + 0x18000
  | .drc d k => viewBase d + 0x100000 + k * 0x1000

/-- The page an address of register space lies in (R474), and none for a reserved range (R475). -/
def pageOfSpace (a : Nat) : Option Page :=
  let i := a / 0x1000
  if i < 9 then
    [Page.glb, .pwr, .clk, .ffy, .otpv, .gpio, .i3c, .spi, .mbx][i]?
  else if a < 0x1000000 then none
  else if a < 0x2000000 then
    let n := (a - 0x1000000) / 0x100000
    let s := (a - 0x1000000) % 0x100000 / 0x1000
    if s < 8 then some (.port (8 * n + s))
    else if s < 10 then some (.smw (2 * n + (s - 8)))
    else if s = 10 then some (.serdes n) else if s = 11 then some (.sch n) else none
  else if a < 0x2008000 then
    [Page.xbp 0, .xbp 1, .xbp 2, .xbp 3, .buf, .fab, .ccn, .ord][(a - 0x2000000) / 0x1000]?
  else if a < 0x2800000 then none
  else if a < 0x2801000 then some .tbl
  else if a < 0x3000000 then none
  else if a < 0x3004000 then [Page.drn 0, .drn 1, .tel, .ant][(a - 0x3000000) / 0x1000]?
  else if a < 0x3F00000 then none
  else if a < 0x4000000 then some .cht
  else none

/-- The view page a BAR0 offset of domain `d` lies in (R87), and none for a reserved offset. -/
def pageOfView (d : Nat) (o : Nat) : Option Page :=
  let i := o / 0x1000
  if i = 0 then some (.cfn d) else if i = 1 then some (.cfmb d) else if i = 2 then some (.ordv d)
  else if 4 ≤ i ∧ i < 8 then some (.telv d (i - 4))
  else if 16 ≤ i ∧ i < 24 then some (.msixTbl d (i - 16))
  else if i = 24 then (if o < 0x18100 then some (.pba d) else none)
  else if 256 ≤ i ∧ i < 512 then some (.drc d (i - 256))
  else none

/-- The page of a stored word address. -/
def pageOf (a : Nat) : Option Page :=
  if a < 0x4000000 then pageOfSpace a
  else pageOfView ((a - 0x4000000) / 0x1000000) ((a - 0x4000000) % 0x1000000)

/-- A page of a Control Function's view. -/
def Page.isView : Page → Bool
  | .cfn _ | .cfmb _ | .ordv _ | .telv _ _ | .msixTbl _ _ | .pba _ | .drc _ _ => true
  | _ => false

/-- The MSI-X table and pending bit array carry no common page header (R87). -/
def Page.hasHdr : Page → Bool
  | .msixTbl _ _ | .pba _ => false
  | _ => true

/-- The block-specific registers of a page. The registers of CHT form no interface (R484). -/
def Page.defs : Page → List RegDef
  | .glb => regsGLB | .pwr => regsPWR | .clk => regsCLK | .ffy => regsFFY | .otpv => regsOTPV
  | .gpio => regsGPIO | .i3c => regsI3C | .spi => regsSPI | .mbx => regsMBX
  | .port _ => regsPORT | .smw _ => regsSMW | .serdes _ => regsSERDES | .sch _ => regsSCH
  | .xbp _ => regsXBP | .buf => regsBUF | .fab => regsFAB | .ccn => regsCCN | .ord => regsORD
  | .tbl => regsTBL | .drn _ => regsDRN | .tel => regsTEL | .ant => regsANT | .cht => []
  | .cfn _ => regsCFN | .cfmb _ => regsCFMB | .ordv _ => regsORDV
  | .telv _ v => if v = 1 then regsTELV1 else if v = 2 then regsTELV2 else if v = 3 then regsTELV3 else []
  | .msixTbl _ _ => [⟨0, 256, 16, 3, 4, 0xFFFFFFFF, 0, 0, 0, 0, 0⟩, ⟨12, 256, 16, 1, 16, 1, 0, 0, 0, 0, 1⟩]
  | .pba _ => [⟨0, 64, 4, 1, 4, 0, 0, 0, 0, 0, 0⟩]
  | .drc _ _ => regsDRC

/-- Whether the register (or array) holds a word at page offset `o`. -/
def RegDef.at (r : RegDef) (o : Nat) : Bool :=
  r.off ≤ o && decide ((o - r.off) / r.s1 < r.n1) &&
    decide ((o - r.off) % r.s1 % r.s2 = 0) && decide ((o - r.off) % r.s1 / r.s2 < r.n2)

/-- Whether a page has counters: the view pages of the Control Function, mailbox, ordering and channels and CHT have none (R454, R477). -/
def Page.hasCnt : Page → Bool
  | .cfn _ | .cfmb _ | .ordv _ | .drc _ _ | .cht => false
  | _ => true

/-- The interrupt bits that a page's chapter defines (R479): its own, CNT_WRAP where it has counters, and ERR in a view page. -/
def Page.irqMask (pg : Page) : Nat :=
  (match pg with
    | .glb => 3 | .gpio => 0xFFFF | .i3c => 0x1F | .spi => 1 | .cfn _ => 7 | .cfmb _ => 1 | .ordv _ => 3 | .drc _ _ => 7
    | _ => 0) + (if pg.hasCnt then 0x40000000 else 0) + (if pg.isView then 0x80000000 else 0)

/-- The error bits that a page's chapter defines; the others are reserved (R334, R8). -/
def Page.errMask : Page → Nat
  | .glb => 0x7F | .pwr => 7 | .clk => 3 | .ffy => 0x1F | .otpv => 0x1F | .gpio => 1 | .i3c => 7 | .spi => 7 | .mbx => 7
  | .port _ => 0x7FF | .smw _ => 0x3FFF | .serdes _ => 0x1FF | .sch _ => 7 | .xbp _ => 0xFF | .buf => 0xFF | .fab => 0x7F
  | .ccn => 0x7F | .ord => 0x7F | .tbl => 0xFF | .drn _ => 3 | .tel => 1 | .ant => 7 | .cfn _ => 7 | .drc _ _ => 0x7F
  | _ => 0

/-- A header register of a page with the bits that the page does not define held reserved, which read 0 and ignore writes (R8). -/
def Page.hdrDef (pg : Page) (r : RegDef) : RegDef :=
  let m := if r.off = 0x010 ∨ r.off = 0x014 then pg.irqMask else if 0x020 ≤ r.off ∧ r.off ≤ 0x028 then pg.errMask
    else if (r.off = 0x080 ∨ r.off = 0x084) ∧ pg.hasCnt = false then 0 else 0xFFFFFFFF
  { r with rw := Nat.land r.rw m, w1c := Nat.land r.w1c m }

/-- The register of a page at a block-specific or header offset. -/
def Page.defAt (pg : Page) (o : Nat) : Option RegDef :=
  if pg.hasHdr && decide (o < 0x100) then (regsHDR.find? (fun r => r.at o)).map pg.hdrDef
  else pg.defs.find? (fun r => r.at o)

/-- BLOCK code of R477. -/
def Page.block : Page → Nat
  | .glb => 0x01 | .pwr => 0x02 | .clk => 0x03 | .ffy => 0x04 | .otpv => 0x05 | .gpio => 0x06 | .i3c => 0x07
  | .spi => 0x08 | .mbx => 0x09 | .port _ => 0x10
  | .smw l => if l % 2 = 0 then 0x11 else 0x12
  | .serdes _ => 0x13 | .sch _ => 0x14 | .xbp _ => 0x20 | .buf => 0x21 | .fab => 0x22 | .ccn => 0x23 | .ord => 0x24
  | .tbl => 0x28 | .drn _ => 0x30 | .tel => 0x31 | .ant => 0x32 | .cht => 0x3F | .cfn _ => 0x40 | .cfmb _ => 0x41
  | .ordv _ => 0x42 | .telv _ _ => 0x43 | .msixTbl _ _ => 0 | .pba _ => 0 | .drc _ _ => 0x44

/-- INSTANCE number of R477. -/
def Page.inst : Page → Nat
  | .port t => t | .smw l => l / 2 | .serdes n => n | .sch n => n | .xbp p => p | .drn d => d
  | .cfn d => d | .cfmb d => d | .ordv d => d | .telv _ v => v | .drc _ k => k | _ => 0

/-- Owning clock domain, coded as PAGE_CAP.OWNER (R13). -/
def Page.owner : Page → Nat
  | .port _ | .smw _ | .serdes _ => 1
  | .mbx | .spi | .i3c => 2
  | .otpv | .cht => 3
  | .ffy | .pwr | .clk | .gpio => 4
  | _ => 0

/-- PAGE_CAP of a page. -/
def Page.cap (pg : Page) : Nat :=
  let ncnt := if pg.hasCnt then 8 else 0
  let srst := match pg with
    | .gpio | .i3c | .spi => 1
    | _ => 0
  let view := if pg.isView then 1 else 0
  let lockable := if pg.isView || pg == .cht then 0 else 1
  ncnt + pg.owner * 16 + view * 128 + srst * 256 + lockable * 512

/-- The reset value of ERR_SEV: the CONTAINED bits of the page, and JX_BAD (R334, R336, R345, R423, R453). -/
def Page.sevReset : Page → Nat
  | .serdes _ => 0x006 | .smw _ => 0x1C0 | .xbp _ => 0x0DE | .buf => 0x0B3 | .sch _ => 0x004 | .tbl => 0x040
  | .ord => 0x040 | .ccn => 0x01C | .port _ => 0x01E | .otpv => 0x018 | .clk => 0x002 | _ => 0

/-- What the word at address `a` reads as while nothing has changed it since reset: its register's reset value
(PERST_MAP0.EN is 1, R116; ERR_SEV as R334 says; a reserved word reads 0, R475). -/
def resetWord (a : Nat) : BitVec 32 :=
  match pageOf a with
  | none => 0
  | some pg =>
    let o := a - pg.base
    if pg.hasHdr && o == 0x028 then BitVec.ofNat 32 pg.sevReset
    else if pg == .glb && o == 0x1C0 then 0x40
    else match pg.defAt o with
      | none => 0
      | some r => BitVec.ofNat 32 r.reset

/-! ### Register words and fields -/

/-- The stored word at an address. -/
def Part.rd (p : Part) (a : Nat) : BitVec 32 := Sparse.get p.regs (resetWord a) a

/-- Stores a word. -/
def Part.wr (p : Part) (a : Nat) (v : BitVec 32) : Part := { p with regs := Sparse.set p.regs (resetWord a) a v }

/-- The mask of a field's bits at bit 0. -/
def Fld.mask (f : Fld) : BitVec 32 := BitVec.ofNat 32 (2 ^ f.w - 1)

/-- The field's value in a word. -/
def Fld.of (f : Fld) (v : BitVec 32) : Nat := ((v >>> f.lo) &&& f.mask).toNat

/-- The word with the field set to the low bits of `n`. -/
def Fld.into (f : Fld) (v : BitVec 32) (n : Nat) : BitVec 32 :=
  (v &&& ~~~(f.mask <<< f.lo)) ||| ((BitVec.ofNat 32 n &&& f.mask) <<< f.lo)

/-- Reads a field of a page. -/
def Part.getF (p : Part) (pg : Page) (f : Fld) : Nat := f.of (p.rd (pg.base + f.off))

/-- Writes a field of a page. -/
def Part.setF (p : Part) (pg : Page) (f : Fld) (n : Nat) : Part :=
  p.wr (pg.base + f.off) (f.into (p.rd (pg.base + f.off)) n)

/-- Whether a one-bit field is 1. -/
def Part.bit (p : Part) (pg : Page) (f : Fld) : Bool := p.getF pg f == 1

/-- 1 for true, 0 for false. -/
def b2n (b : Bool) : Nat := if b then 1 else 0

/-- Bit `i` of a number. -/
def nbit (n : Nat) (i : Nat) : Bool := n / 2 ^ i % 2 == 1

/-- Adds to a saturating count of `w` bits. -/
def satAdd (w : Nat) (a b : Nat) : Nat := min (2 ^ w - 1) (a + b)

/-- Adds to a field that saturates at its highest value. -/
def Part.bumpF (p : Part) (pg : Page) (f : Fld) (n : Nat) : Part := p.setF pg f (satAdd f.w (p.getF pg f) n)

/-! ### Outputs, free values, time -/

/-- Sends something out (log entry 5, DESIGN CHOICE). -/
def Part.emit (p : Part) (o : Output) : Part := { p with out := p.out ++ [o] }

/-- Fabric time in ns (R13, R326). -/
def Part.ns (p : Part) : Nat := p.ftime / 256

/-- A free word: the counter advances so that each use is fresh (log entry 3, DESIGN CHOICE). -/
def Part.free32 (p : Part) : Part × BitVec 32 := ({ p with freeCtr := p.freeCtr + 1 }, Config.freeWord p.freeCtr)

/-- Age of a 32-bit timestamp (R208): a timestamp from the future counts as age 0. -/
def Part.age (p : Part) (ts : Nat) : Nat :=
  let d := (p.ns % 2 ^ 32 + 2 ^ 32 - ts % 2 ^ 32) % 2 ^ 32
  if d < 2 ^ 31 then d else 0

/-! ### The common page header -/

/-- Sets IRQ_STAT bits of a page (R479). -/
def Part.irq (p : Part) (pg : Page) (mask : Nat) : Part :=
  let a := pg.base + 0x010
  p.wr a (p.rd a ||| BitVec.ofNat 32 mask)

/-- Sets ERR_STAT bits of a page and reports them (R334, R335, R337). -/
def Part.errBits (p : Part) (pg : Page) (mask : Nat) (inj : Bool) : Part :=
  let a := pg.base + 0x020
  let old := (p.rd a).toNat
  let new := (p.rd a ||| BitVec.ofNat 32 mask).toNat
  if new = old then p
  else
    let lowest := (List.range 32).find? (fun i => nbit mask i)
    let several := decide (1 < ((List.range 32).filter (fun i => nbit mask i)).length)
    let p1 := p.wr a (BitVec.ofNat 32 new)
    let p2 := if old = 0 then
        p1.wr (pg.base + 0x030) (BitVec.ofNat 32 ((lowest.getD 0) + 32 + 64 * b2n inj + 128 * b2n several
          + 256 * (p.ns / 1024 % 2 ^ 24)))
      else p1.setF pg HDR.ERR_FIRST.MULTI 1
    if pg.isView && (BitVec.ofNat 32 mask &&& ~~~(p2.rd (pg.base + 0x024))) != 0 then p2.irq pg 0x80000000 else p2

/-- Sets one ERR_STAT bit. -/
def Part.err (p : Part) (pg : Page) (b : Nat) : Part := p.errBits pg (2 ^ b) false

/-- VALUE of counter slot `n` (R454). -/
def Part.cntVal (p : Part) (pg : Page) (n : Nat) : Nat :=
  p.getF pg (HDR.CNT.VALUE_LO.ix n) + 2 ^ 32 * p.getF pg (HDR.CNT.VALUE_HI.ix n)

/-- Stores VALUE of counter slot `n`. -/
def Part.setCnt (p : Part) (pg : Page) (n v : Nat) : Part :=
  (p.setF pg (HDR.CNT.VALUE_LO.ix n) v).setF pg (HDR.CNT.VALUE_HI.ix n) (v / 2 ^ 32)

/-- Counter slot `n` adds `k` if it is enabled and the page is not frozen; a wrap sets WRAP and CNT_WRAP and passes a carry to
a chained upper counter (R454 to R456). A view counter's wrap is an event of TEL counter 5, which carries no domain tag (R473). `fuel` bounds the
chains of the page and of TEL. -/
def Part.cntStep (fuel : Nat) (p : Part) (pg : Page) (n k : Nat) : Part :=
  match fuel with
  | 0 => p
  | fuel + 1 =>
    if nbit (p.getF pg HDR.CNT_CTL.EN) n && !(p.bit pg HDR.CNT_CTL.FREEZE) then
      let v := p.cntVal pg n + k
      let p1 := p.setCnt pg n (v % 2 ^ 48)
      if v < 2 ^ 48 then p1
      else
        let p2 := (p1.setF pg (HDR.CNT.WRAP.ix n) 1).irq pg 0x40000000
        let p3 := if pg.isView && !nbit (p2.getF .tel HDR.CNT_CHAIN.CHAIN) 4 && !p2.bit .tel HDR.CNT_CTL.DOM_EN then
            p2.cntStep fuel .tel 5 1 else p2
        if nbit (p.getF pg HDR.CNT_CHAIN.CHAIN) n then p3.cntStep fuel pg (n + 1) 1 else p3
    else p

/-- A page counts `k` events on counter `n`, with the domain tag the events carry, if any (R455). A counter that is the
upper half of a chain does not count its own event (R456). -/
def Part.count (p : Part) (pg : Page) (n k : Nat) (dom : Option Nat := none) : Part :=
  if k = 0 then p
  else if 0 < n && nbit (p.getF pg HDR.CNT_CHAIN.CHAIN) (n - 1) then p
  else if !pg.isView && p.bit pg HDR.CNT_CTL.DOM_EN && dom != some (p.getF pg HDR.CNT_CTL.DOM) then p
  else p.cntStep 16 pg n k

/-! ### Tables and stores behind the registers -/

/-- Word `w` of entry `i` of table `t` (R485): tables are kept apart by their code. -/
def tblKey (t i w : Nat) : Nat := t * 2 ^ 24 + i * 16 + w

/-- A stored table word. -/
def Part.tw (p : Part) (t i w : Nat) : BitVec 32 := Sparse.get p.tables 0 (tblKey t i w)

/-- Stores a table word. -/
def Part.setTw (p : Part) (t i w : Nat) (v : BitVec 32) : Part :=
  { p with tables := Sparse.set p.tables 0 (tblKey t i w) v }

/-- Bits [lo + w - 1 : lo] of a table word. -/
def Part.tf (p : Part) (t i w lo n : Nat) : Nat := (p.tw t i w).toNat / 2 ^ lo % 2 ^ n

/-- A link's machine. -/
def Part.lk (p : Part) (l : Nat) : LinkBlk := Sparse.get p.link LinkBlk.reset l

/-- Stores a link's machine. -/
def Part.setLk (p : Part) (l : Nat) (b : LinkBlk) : Part := { p with link := Sparse.set p.link LinkBlk.reset l b }

/-- A port's block. -/
def Part.pt (p : Part) (t : Nat) : PortBlk := Sparse.get p.port PortBlk.reset t

/-- Stores a port's block. -/
def Part.setPt (p : Part) (t : Nat) (b : PortBlk) : Part := { p with port := Sparse.set p.port PortBlk.reset t b }

/-- A tracker entry. -/
def Part.oe (p : Part) (i : Nat) : OrtEnt := Sparse.get p.ort OrtEnt.empty i

/-- Stores a tracker entry. -/
def Part.setOe (p : Part) (i : Nat) (e : OrtEnt) : Part := { p with ort := Sparse.set p.ort OrtEnt.empty i e }

/-- A ledger slot. -/
def Part.sl (p : Part) (i : Nat) : Slot := Sparse.get p.ledger Slot.empty i

/-- Stores a ledger slot. -/
def Part.setSl (p : Part) (i : Nat) (e : Slot) : Part := { p with ledger := Sparse.set p.ledger Slot.empty i e }

/-- A frame in the part. -/
def Part.fr (p : Part) (i : Nat) : Option Frame := Sparse.get p.frames none i

/-- Stores or removes a frame. -/
def Part.setFr (p : Part) (i : Nat) (f : Option Frame) : Part := { p with frames := Sparse.set p.frames none i f }

/-- A buffer cell's record. -/
def Part.cr (p : Part) (c : Nat) : CellRec := Sparse.get p.cell CellRec.empty c

/-- Stores a buffer cell's record. -/
def Part.setCr (p : Part) (c : Nat) (r : CellRec) : Part := { p with cell := Sparse.set p.cell CellRec.empty c r }

/-- The frames queued in a VOQ of an ingress crossbar port (R162). -/
def Part.voq (p : Part) (k : Nat) : List Nat := Sparse.get p.voqs [] k

/-- Stores a VOQ. -/
def Part.setVoq (p : Part) (k : Nat) (l : List Nat) : Part := { p with voqs := Sparse.set p.voqs [] k l }

/-- A Drone channel's machine, numbered 256 x Drone + channel. -/
def Part.ch (p : Part) (k : Nat) : Chan := Sparse.get p.chan Chan.reset k

/-- Stores a Drone channel's machine. -/
def Part.setCh (p : Part) (k : Nat) (c : Chan) : Part := { p with chan := Sparse.set p.chan Chan.reset k c }

/-! ### Configuration space of a domain's functions (R78, R86, R487) -/

/-- Configuration words of a domain's functions: 0 the upstream switch port, 1 the Control Function, 2 + vb a virtual bridge. -/
def cfgKey (d fn off : Nat) : Nat := (d * 256 + fn) * 1024 + off / 4

/-- What a configuration word reads as after reset (R86, R487; the layout and the values the manual does not give are those
of the PCIe Base Specification, PRESUMED, log entry 12). -/
def cfgReset (fn off : Nat) : BitVec 32 :=
  if off = 0x00 then (if fn = 0 then 0xF2561F6D else if fn = 1 then 0xF25C1F6D else 0xF2571F6D)
  else if off = 0x04 then 0x00100000
  else if off = 0x08 then (if fn = 1 then 0x08800010 else 0x06040010)
  else if off = 0x0C then (if fn = 0 then 0x00810000 else if fn = 1 then 0 else 0x00010000)
  else if off = 0x34 then 0x40
  else if off = 0x3C then (if fn = 1 then 0x00000100 else 0)
  else if off = 0x40 then 0x00035001
  else if off = 0x44 then (if fn = 1 then 8 else 0)
  else if off = 0x50 then (if fn = 1 then 0x07FF7011 else 0x00007005)
  else if off = 0x70 then (if fn = 1 then 0x00020010 else if fn = 0 then 0x00520010 else 0x01620010)
  else if off = 0x74 then (if fn = 1 then 0x10008025 else 0x00008025)
  else if off = 0x94 then 0x00030000
  else if off = 0x100 then (if fn = 0 then 0x18020001 else 0x14820001)
  else if off = 0x10C then 0x00062030
  else if off = 0x114 then 0x00002000
  else if fn = 1 then
    (if off = 0x10 then 4 else if off = 0x18 then 4 else if off = 0x2C then 0x01001F6D else if off = 0x54 then 0x00010000
     else if off = 0x58 then 0x00018000 else if off = 0x148 then 0x1702002E else if off = 0x170 then 0x18010022
     else if off = 0x174 then 0x80000000 else if off = 0x178 then 0x0000061F else if off = 0x180 then 0x0001002F
     else if off = 0x184 then 0x00000004 else 0)
  else if off = 0x24 then 0x00010001
  else if off = 0x1B0 then 0x0001002F
  else if off = 0x1B4 then 0x00000078
  else if fn = 0 then (if off = 0x180 then 0x1B010012 else 0)
  else (if off = 0x148 then 0x1601001D else if off = 0x160 then 0x1B01000D else 0)

/-- A configuration word. -/
def Part.cw (p : Part) (d fn off : Nat) : BitVec 32 := Sparse.get p.cfg (cfgReset fn off) (cfgKey d fn off)

/-- Stores a configuration word. -/
def Part.setCw (p : Part) (d fn off : Nat) (v : BitVec 32) : Part :=
  { p with cfg := Sparse.set p.cfg (cfgReset fn off) (cfgKey d fn off) v }

/-- Bits [lo + w - 1 : lo] of a configuration word (log entry 12, PRESUMED). -/
def Part.cf (p : Part) (d fn off lo w : Nat) : Nat := (p.cw d fn off).toNat / 2 ^ lo % 2 ^ w

/-- Sets bits [lo + w - 1 : lo] of a configuration word. -/
def Part.setCf (p : Part) (d fn off lo w n : Nat) : Part :=
  p.setCw d fn off ((Fld.mk 0 lo w 0 0).into (p.cw d fn off) n)

/-- Bus number B of a domain: the bus its host's configuration writes last reached function 0 on, kept as function 0's
primary bus number (R78). -/
def Part.busB (p : Part) (d : Nat) : Nat := p.cf d 0 0x18 0 8

/-- Routing ID of bus `b`, device and function `df`. -/
def bdf (b df : Nat) : BitVec 16 := BitVec.ofNat 16 (b * 256 + df)

/-- The Control Function's routing ID: bus B, device 0, function 1. -/
def Part.cfRid (p : Part) (d : Nat) : BitVec 16 := bdf (p.busB d) 1

end Sys2Proof.Machine
end

