-- ==== Sys2Proof/Machine/Buffer.lean ====
section
/-! DEFINITION. The shared buffer: accounts and pools, the size of the shared pool, admission, push-out, the allocator,
cell states and reference counts, and virtual output queues (R155 to R217). -/

namespace Sys2Proof.Machine

/-! ### Local ports, domains and accounts -/

/-- The crossbar port and SUB of a target on this chip (R158). -/
def Dest.at : Dest → Nat × Nat
  | .port t => (t / 8, t % 8)
  | .agent a => [(16, 0), (17, 0), (18, 0), (18, 1), (19, 0), (19, 1)].getD a (19, 0)
  | .chip _ => (0, 0)
  | .mc _ => (0, 0)

/-- The agent a reserved-free local port names (R11), as numbered in R162. -/
def agentOf (lp : Nat) : Option Nat := if 256 ≤ lp ∧ lp ≤ 261 then some (lp - 256) else none

/-- This chip's number. -/
def Part.chip (p : Part) : Nat := p.getF .fab FAB.CHIP_ID.CHIP

/-- Global port of a local port of this chip: chip x 512 + local port. -/
def Part.gport (p : Part) (lp : Nat) : Nat := p.chip * 512 + lp

/-- ROLE of a local PCIe port (R77). -/
def Part.role (p : Part) (t : Nat) : Nat := p.getF (.port t) PORT.PORT_CTL.ROLE

/-- A domain is attached while ATTACHED is 1 and its upstream port has ROLE 1 (R82, R198). -/
def Part.attached (p : Part) (a : Nat) : Bool := p.tf 5 a 0 0 1 == 1 && p.role (p.tf 5 a 0 13 7) == 1

/-- A TLP that the part builds without a frame goes out at PCIe port `t` with `n` bytes of data; at an upstream port it is counted for the port's
domain (R459). -/
def Part.sendAt (p : Part) (t n : Nat) (o : Output) : Part :=
  (if p.role t = 1 then
    (p.count (.telv (p.getF (.port t) PORT.PORT_CTL.DOMAIN) 0) 2 1).count (.telv (p.getF (.port t) PORT.PORT_CTL.DOMAIN) 0) 3 n else p).emit o

/-- The fabric ID of a local domain index while its entry is ATTACHED or REMOTE (R82). -/
def Part.fabricId (p : Part) (d : Nat) : Nat := p.tf 5 d 0 1 12

/-- The upstream port of an attached domain (R82). -/
def Part.uport (p : Part) (d : Nat) : Nat := p.tf 5 d 0 13 7

/-- A message of a domain's virtual switch to its host, as a TLP with `n` bytes of data (R459). -/
def Part.sendUp (p : Part) (d n : Nat) (o : Output) : Part := p.sendAt (p.uport d) n o

/-- The local index of a fabric domain ID on this chip (R82), if it has one. -/
def Part.domIdx (p : Part) (fid : Nat) : Option Nat :=
  (List.range 64).find? (fun d => (p.tf 5 d 0 0 1 == 1 || p.tf 5 d 1 0 1 == 1) && p.fabricId d == fid)

/-- An account's effective minimum (R198). -/
def Part.minOf (p : Part) (a : Nat) : Nat := if p.attached a then p.getF .buf (BUF.ACCT_CFG.MIN.ix a) else 0

/-- An account's cells occupied and backed. -/
def Part.occOf (p : Part) (a : Nat) : Nat := Sparse.get p.occ 0 a

/-- Stores an account's occupancy. -/
def Part.setOcc (p : Part) (a n : Nat) : Part := { p with occ := Sparse.set p.occ 0 a n }

/-! ### Pools (R194 to R197) -/

/-- Cells withheld with disabled quarters (R190). -/
def Part.withheldCells (p : Part) : Nat :=
  65536 * ((List.range 4).filter (fun q => !nbit (p.getF .pwr PWR.UNIT_STAT.QTR) q)).length

/-- The cells carved from the shared pool by links and pairs: the VC0, VC1, VC6 and VC7 allotments, 14 return cells for each
link with allotments, and the failover reserves (R194, R195). -/
def Part.carved (p : Part) : Nat :=
  (p.link.map (fun e => (if e.2.allot = [] then 0
    else e.2.allot.getD 0 0 + e.2.allot.getD 1 0 + e.2.allot.getD 6 0 + e.2.allot.getD 7 0 + 14)
      + (p.cell.filter (fun c => c.2.state ≠ .free ∧ (c.2.pool == .ret e.1 || [0, 1, 6, 7].any (fun v => c.2.pool == .link (32 + e.1) v)))).length
      + max e.2.pairRsv ((p.cell.filter (fun c => c.2.state ≠ .free ∧ c.2.pool = .fo e.1)).length))).sum

/-- The minima of the attached accounts, with account `a` taken at `m` instead when `ch` names it. -/
def Part.minSum (p : Part) (ch : Option (Nat × Nat)) : Nat :=
  ((List.range 64).map (fun a => match ch with
    | some (b, m) => if a = b then (if p.attached a then m else 0) else p.minOf a
    | none => p.minOf a)).sum

/-- S of R195 for given reserve sizes. -/
def Part.sharedFor (p : Part) (cpl esc mgmt : Nat) (ch : Option (Nat × Nat)) : Nat :=
  262144 - (p.withheldCells + cpl + esc + mgmt + p.minSum ch + p.carved)

/-- The shared pool size S (R195). -/
def Part.shared (p : Part) : Nat :=
  p.sharedFor (p.getF .buf BUF.CPL_RSV.CELLS) (p.getF .buf BUF.ESC_RSV.CELLS) (p.getF .buf BUF.MGMT_RSV.CELLS) none

/-- Cells not FREE of a pool. -/
def Part.poolCells (p : Part) (q : Pool) : Nat :=
  (p.cell.filter (fun e => e.2.pool = q ∧ e.2.state ≠ .free)).length

/-- Backing cells held from a pool at all ports. -/
def Part.backed (p : Part) (q : Pool) : Nat :=
  (p.backing.map (fun e => ((e.2.filter (fun b => b.pool = q)).map (fun b => b.cells)).sum)).sum

/-- Occupied and backed cells of a pool. -/
def Part.poolUsed (p : Part) (q : Pool) : Nat := p.poolCells q + p.backed q

/-- What a reserve pool holds above its size: cells that return to the shared pool as they drain (R196). -/
def Part.overhang (p : Part) : Nat :=
  (p.poolUsed .cpl - p.getF .buf BUF.CPL_RSV.CELLS) + (p.poolUsed .esc - p.getF .buf BUF.ESC_RSV.CELLS)
    + (p.poolUsed .mgmt - p.getF .buf BUF.MGMT_RSV.CELLS)

/-- Shared-pool cells occupied or backed: every account's cells above its minimum, the droppable cells, and what the
reserves hold above their size. -/
def Part.sharedUsed (p : Part) : Nat :=
  (p.occ.map (fun e => e.2 - p.minOf e.1)).sum + p.poolCells .shared + p.overhang

/-- `shared_free` of R202. -/
def Part.sharedFree (p : Part) : Nat := p.shared - p.sharedUsed

/-! ### Cells (R188 to R193) -/

/-- Adds to the auditor's own count of cells charged by an ingress crossbar port (R213) (log entry 64, DEDUCED). -/
def Part.auditAdd (p : Part) (xp : Nat) (up : Bool) : Part :=
  let n := Sparse.get p.audit 0 xp
  { p with audit := Sparse.set p.audit 0 xp (if up then n + 1 else n - 1) }

/-- The rows of a bank group that are not FREE. -/
def Part.rowsUsed (p : Part) (g : Nat) : List Nat :=
  (p.cell.filter (fun e => e.1 / 4096 = g ∧ e.2.state ≠ .free)).map (fun e => e.1 % 4096)

/-- The lowest row from `r` on that is not in the list (log entry 20, DESIGN CHOICE). -/
def firstFree (used : List Nat) (fuel r : Nat) : Nat :=
  match fuel with
  | 0 => r
  | fuel + 1 => if used.contains r then firstFree used fuel (r + 1) else r

/-- The bank groups of enabled quarters (R188, R190). -/
def Part.openGroups (p : Part) : List Nat :=
  (List.range 64).filter (fun g => nbit (p.getF .pwr PWR.UNIT_STAT.QTR) (g / 16))

/-- The bank of bytes 64k to 64k + 63 of a buffer cell (R188). -/
def bankOf (c k : Nat) : Nat := 64 * (c / 65536) + 4 * (c / 4096 % 16) + k

/-- The bank groups read in this cell time, for the cells matched in the one before (R159, R189). -/
def Part.groupsRead (p : Part) : List Nat :=
  (p.flights.filter (fun x => x.time + 1 == p.cellTime)).filterMap (fun x => ((p.fr x.frame).bind (fun f => f.cells[x.k]?)).map (· / 4096))

/-- Of some bank groups the one with the most free cells, the lowest on a tie, with its rows in use; none when no group has a free cell. -/
def Part.bestGroup (p : Part) (gs : List Nat) : Option (Nat × Nat) :=
  gs.foldl (fun (b : Option (Nat × Nat)) g =>
    let u := (p.rowsUsed g).length
    match b with
    | none => if u < 4096 then some (g, u) else none
    | some (_, v) => if u < v then some (g, u) else b) none

/-- The free cell the allocator gives (R189): in the bank group with the most free cells among those that are not read at the same time, the
lowest such group; the lowest free row in it. When only groups that are being read have a free cell, the write takes the one it gets once it has
waited in its write buffer (log entries 20 and 75, DESIGN CHOICE). -/
def Part.pickCell (p : Part) : Option Nat :=
  let busy := p.groupsRead
  ((p.bestGroup (p.openGroups.filter (fun g => !busy.contains g))) <|> (p.bestGroup p.openGroups)).map
    (fun b => b.1 * 4096 + firstFree (p.rowsUsed b.1) 4096 0)

/-- Writes a cell: FREE to QUEUED with its pool, account and reference count (R191, R192). -/
def Part.takeCell (p : Part) (pool : Pool) (acct refs xp : Nat) : Part × Option Nat :=
  match p.pickCell with
  | none => (p, none)
  | some c => (((p.setCr c (CellRec.mk .queued pool acct refs xp)).auditAdd xp true), some c)

/-- One more cell of VC `v` charged to a link's allotment has been freed: HELD falls and GRANTED rises (R137). -/
def LinkBlk.giveBack (b : LinkBlk) (v : Nat) : LinkBlk :=
  { b with charged := b.charged.set v (b.charged.getD v 0 - 1),
           granted := b.granted.set v ((b.granted.getD v 0 + 1) % 65536), changed := true }

/-- An accounting fault of R192 is reported, and the auditor learns of it with the port that last charged the cell (R213 identity 8). -/
def Part.acctFault (p : Part) (bit xp : Nat) : Part :=
  let q := p.err .buf bit
  { q with audit := Sparse.set q.audit 0 32 (xp + 1) }

/-- Makes a cell FREE and returns it to what it was charged to; freeing a FREE cell sets FREE_DUP (R192). -/
def Part.freeCell (p : Part) (c : Nat) : Part :=
  let r := p.cr c
  if r.state = .free then p.acctFault 5 r.xp
  else
    let p1 := (p.setCr c { CellRec.empty with xp := r.xp }).auditAdd r.xp false
    match r.pool with
    | .acct a => p1.setOcc a (p1.occOf a - 1)
    | .link l v => if l < 32 then p1.setLk l ((p1.lk l).giveBack v) else p1
    | _ => p1

/-- A copy of a cell was acknowledged good or consumed: REFCNT falls by 1 and the cell is FREE at 0 (R191, R192). -/
def Part.decRef (p : Part) (c : Nat) : Part :=
  let r := p.cr c
  if r.refcnt = 0 then p.acctFault 4 r.xp
  else if r.refcnt = 1 then p.freeCell c
  else p.setCr c { r with refcnt := r.refcnt - 1 }

/-- A QUEUED cell becomes IN_FLIGHT (R191). -/
def Part.flyCell (p : Part) (c : Nat) : Part :=
  let r := p.cr c
  if r.state = .queued then p.setCr c { r with state := .inFlight } else p

/-- An IN_FLIGHT cell that did not land good is QUEUED again (R181, R191). -/
def Part.requeueCell (p : Part) (c : Nat) : Part :=
  let r := p.cr c
  if r.state = .inFlight then p.setCr c { r with state := .queued } else p

/-- Discards the QUEUED cells of a list; IN_FLIGHT cells stay until they land or are released (R192). -/
def Part.dropCells (p : Part) (cs : List Nat) : Part :=
  cs.foldl (fun q c => if (q.cr c).state = .queued then q.freeCell c else q) p

/-! ### Frames and VOQs (R156, R162, R164) -/

/-- Cells of a frame of `len` bytes (R156). -/
def cellsOf (len : Nat) : Nat := (len + 255) / 256

/-- VOQ index of a destination and class (R162). -/
def voqIdx : Dest → Nat → Nat
  | .port t, c => 8 * t + c
  | .chip k, c => 1024 + 8 * k + c
  | .agent a, c => 2048 + 8 * a + c
  | .mc g, c => 2096 + 8 * (g % 4) + c

/-- Frames, newest last, that are still in the part. -/
def Part.frameIds (p : Part) : List Nat := p.frames.map (fun e => e.1)

/-- Removes a frame from its VOQ and forgets it. -/
def Part.forget (p : Part) (i : Nat) : Part :=
  match p.fr i with
  | none => p
  | some f => (p.setVoq f.voq ((p.voq f.voq).filter (· != i))).setFr i none

/-- A cell of a frame is on its way across a plane. -/
def Part.flying (p : Part) (i k : Nat) : Bool := p.flights.any (fun x => x.frame == i && x.k == k)

/-- Removes a frame's entries from every egress queue and residue register. -/
def Part.unqueue (p : Part) (i : Nat) : Part :=
  { p with tq := (p.tq.map (fun e => (e.1, e.2.filter (fun x => x.frame != i)))).filter (fun e => !e.2.isEmpty),
           residues := (p.residues.map (fun e => (e.1, e.2.filter (fun r => r.frame != i)))).filter (fun e => !e.2.isEmpty) }

/-- Discards a frame (R192): its cells become FREE at once, but for those on their way across a plane, which are discarded where
they land; the frame is kept, marked abandoned, until then. -/
def Part.discard (p : Part) (i : Nat) : Part :=
  match p.fr i with
  | none => p
  | some f =>
    let p1 := (f.cells.zipIdx).foldl (fun q c =>
      if (q.cr c.1).state = .free ∨ q.flying i c.2 then q else q.freeCell c.1) p
    let p2 := p1.unqueue i
    if p.flights.any (fun x => x.frame == i) then
      (p2.setVoq f.voq ((p2.voq f.voq).filter (· != i))).setFr i (some { f with abort := true, matched := f.cells.length })
    else p2.forget i

/-- Takes `n` cells for a frame one by one. -/
def Part.takeCells (p : Part) (n : Nat) (pool : Pool) (acct refs xp : Nat) : Part × List Nat :=
  match n with
  | 0 => (p, [])
  | n + 1 =>
    match p.takeCell pool acct refs xp with
    | (q, none) => (q, [])
    | (q, some c) => let r := Part.takeCells q n pool acct refs xp; (r.1, c :: r.2)

/-- The member targets of a multicast group at this chip (R192, R320): local ports, then links, then agents. -/
def Part.mcPorts (p : Part) (g : Nat) : List Nat :=
  (List.range 128).filter (fun t => nbit (p.tw 3 g (1 + t / 32)).toNat (t % 32))

/-- Branch links of a multicast group. -/
def Part.mcLinks (p : Part) (g : Nat) : List Nat := (List.range 32).filter (fun l => nbit (p.tw 3 g 5).toNat l)

/-- Member agents of a multicast group. -/
def Part.mcAgents (p : Part) (g : Nat) : List Nat := (List.range 6).filter (fun a => nbit (p.tw 3 g 6).toNat a)

/-- Member targets as crossbar port and SUB. -/
def Part.mcTargets (p : Part) (g : Nat) : List (Nat × Nat) :=
  if p.tf 3 g 0 0 1 = 1 then
    (p.mcPorts g).map (fun t => (t / 8, t % 8)) ++ (p.mcLinks g).map (fun l => (l / 2, 8 + l % 2))
      ++ (p.mcAgents g).map (fun a => (Dest.agent a).at)
  else []

/-- The member set of a multicast frame, read once as it is queued (R192); a probe of a multicast flow goes to the branch links alone
(log entry 57, DEDUCED). -/
def Part.membersOf (p : Part) (f : Frame) : List (Nat × Nat) :=
  match f.dest, f.body with
  | .mc g, .unit _ (.probe _ _ _) => (p.mcTargets g).filter (fun t => decide (t.1 < 16 ∧ 8 ≤ t.2))
  | .mc g, _ => p.mcTargets g
  | _, _ => []

/-- The copies this chip makes of a frame (R192). -/
def Part.refsOf (p : Part) (f : Frame) : Nat :=
  match f.dest with
  | .mc _ => (p.membersOf f).length
  | _ => 1

/-- Puts a frame into the part: cells, record, and its place at the tail of its VOQ. A multicast frame without a member here
is discarded and counted as a refused cell (R192). -/
def Part.queueFrame (p : Part) (f : Frame) (pool : Pool) : Part :=
  let refs := p.refsOf f
  if refs = 0 then
    (match pool with
      | .acct a => p.setOcc a (p.occOf a - cellsOf f.len)
      | _ => p).count .buf 1 1 (some f.domf)
  else
    let n := cellsOf f.len
    let (p1, cs) := p.takeCells n pool f.acct refs f.srcXp
    let k := f.srcXp * 2128 + voqIdx f.dest f.cls
    let i := p1.nextFrame
    let p2 := { (p1.setFr i (some { f with cells := cs, voq := k, pool := pool, ts := p1.ns % 2 ^ 32, mset := p.membersOf f })) with nextFrame := i + 1 }
    (p2.setVoq k (p2.voq k ++ [i])).count .buf 0 n (some f.domf)

/-- Cells that nothing needs any more become FREE. -/
def Part.freeCells (p : Part) (cs : List Nat) : Part := cs.foldl (fun q c => q.freeCell c) p

/-- Queues a frame in the cells that already hold it, which stay charged to what they were charged to (R194). -/
def Part.queueStored (p : Part) (f : Frame) (cs : List Nat) : Part :=
  let refs := p.refsOf f
  if refs = 0 then (p.freeCells cs).count .buf 1 1 (some f.domf)
  else
    let n := cellsOf f.len
    let p1 := (p.freeCells (cs.drop n))
    let p2 := (cs.take n).foldl (fun (q : Part) c => q.setCr c { q.cr c with refcnt := refs, acct := f.acct }) p1
    let k := f.srcXp * 2128 + voqIdx f.dest f.cls
    let i := p2.nextFrame
    let pool := match cs with
      | c :: _ => (p.cr c).pool
      | [] => .shared
    let p3 := { (p2.setFr i (some { f with cells := cs.take n, voq := k, pool := pool, ts := p2.ns % 2 ^ 32, mset := p.membersOf f })) with nextFrame := i + 1 }
    p3.setVoq k (p3.voq k ++ [i])

/-! ### Push-out and admission (R202 to R206) -/

/-- An eligible push-out victim below class `c`, or below everything for a lossless requester (R205). -/
def Part.victim (p : Part) (lossless : Bool) (c : Nat) (f : Frame) : Bool :=
  f.kind == 3 && f.matched == 0 && (lossless || f.cls < c) &&
    f.cells.all (fun x => (p.cr x).pool == .shared && (p.cr x).state == .queued)

/-- The eligible victims in the order they are evicted: lowest class first, most recently queued first (R206). -/
def Part.victims (p : Part) (lossless : Bool) (c : Nat) : List (Nat × Frame) :=
  let all := (p.frames.filterMap (fun e => e.2.map (fun f => (e.1, f)))).filter (fun e => p.victim lossless c e.2)
  (List.range 8).flatMap (fun k => (all.filter (fun e => e.2.cls == k)).reverse)

/-- Evicts whole frames until `need` cells are free. -/
def Part.evict (p : Part) (vs : List (Nat × Frame)) (need : Nat) : Part :=
  match vs with
  | [] => p
  | (i, f) :: r =>
    if need = 0 then p
    else (((p.discard i).count .buf 2 1 (some f.domf)).count .buf 3 f.cells.length (some f.domf)).evict r
      (need - f.cells.length)

/-- push_out of R206: the part with at least `need` cells freed, or none when the eligible victims hold too few. -/
def Part.pushOut (p : Part) (lossless : Bool) (c need : Nat) : Option Part :=
  let vs := p.victims lossless c
  if (vs.map (fun e => e.2.cells.length)).sum < need then none else some (p.evict vs need)

/-- The test of admit_account that sends a request to push-out (R202), with alpha = 2^code / 16. -/
def Part.overAlpha (p : Part) (a takeSh : Nat) : Bool :=
  let free := p.sharedFree
  decide (free < takeSh) ||
    decide (2 ^ p.getF .buf (BUF.ACCT_CFG.ALPHA.ix a) * (free - takeSh) < 16 * ((p.occOf a - p.minOf a) + takeSh))

/-- Grants a backing request: the account's occupancy rises and its refusal mark clears. -/
def Part.grantAcct (p : Part) (a need : Nat) : Part :=
  let p1 := p.setOcc a (p.occOf a + need)
  { p1 with refused := Sparse.set p1.refused false a false }

/-- Refuses a backing request, counts it and marks the account (R202, R216, ACCT_OCC.WITHHOLD). -/
def Part.refuseAcct (p : Part) (a : Nat) : Part :=
  ({ p with refused := Sparse.set p.refused false a true }).count .buf 6 1 (some (p.fabricId a))

/-- admit_account of R202: true when granted. -/
def Part.admitAccount (p : Part) (a need : Nat) : Part × Bool :=
  let takeSh := need - min need (p.minOf a - p.occOf a)
  if takeSh = 0 || !p.overAlpha a takeSh then (p.grantAcct a need, true)
  else match p.pushOut true 0 takeSh with
    | none => (p.refuseAcct a, false)
    | some q => if q.overAlpha a takeSh then (q.refuseAcct a, false) else (q.grantAcct a need, true)

/-- Admission of a locally generated droppable frame of class `c`, cell by cell, `taken` of them being admitted (R203): the part with the room
made, and whether every cell was admitted. -/
def Part.admitDrop (p : Part) (c taken : Nat) : Nat → Part × Bool
  | 0 => (p, true)
  | n + 1 =>
    if p.poolCells .shared + taken < p.getF .buf BUF.DROP_MAX.CELLS ∧ taken < p.sharedFree then Part.admitDrop p c (taken + 1) n
    else if p.getF .buf BUF.DROP_MAX.CELLS = 0 then (p, false)
    else match p.pushOut false c 1 with
      | none => (p, false)
      | some q => Part.admitDrop q c (taken + 1) n

/-- Spends credit cost and cells of the oldest backing that still has credit outstanding (R200): the pool, the cells the
backing lacks, and what is left. -/
def spendBacking (l : List Backing) (cells cost : Nat) : Option (Pool × Nat × List Backing) :=
  match l with
  | [] => none
  | b :: r =>
    if b.cost = 0 && !r.isEmpty then (spendBacking r cells cost).map (fun x => (x.1, x.2.1, b :: x.2.2))
    else
      let b1 := Backing.mk b.pool (b.cells - cells) (b.cost - cost)
      some (b.pool, cells - b.cells, if b1.cells = 0 ∧ b1.cost = 0 then r else b1 :: r)

/-- Charges cells to an account pool directly. -/
def Part.chargePool (p : Part) (q : Pool) (n : Nat) : Part :=
  match q with
  | .acct a => p.setOcc a (p.occOf a + n)
  | _ => p

/-- Takes cells of a port's backing of a type for a TLP that has arrived: cells leave the backing and the outstanding
cost falls (R200, R521). Answers the pool that backs the TLP; without backing the cells are charged to `dflt` (log entry 79, DEDUCED). -/
def Part.useBacking (p : Part) (t ty cells cost : Nat) (dflt : Pool) : Part × Pool :=
  match spendBacking (Sparse.get p.backing [] (t * 3 + ty)) cells cost with
  | none => (p.chargePool dflt cells, dflt)
  | some (q, lack, l) => ({ (p.chargePool q lack) with backing := Sparse.set p.backing [] (t * 3 + ty) l }, q)

/-- Returns all backing of a port and type to its pools (R200, when the link leaves DL_Active). -/
def Part.dropBacking (p : Part) (t ty : Nat) : Part :=
  let key := t * 3 + ty
  let p1 := (Sparse.get p.backing [] key).foldl (fun q b => match b.pool with
    | .acct a => q.setOcc a (q.occOf a - b.cells)
    | _ => q) p
  { p1 with backing := Sparse.set p1.backing [] key [] }

/-- Returns a port's backing of every type. -/
def Part.dropAllBacking (p : Part) (t : Nat) : Part := ((p.dropBacking t 0).dropBacking t 1).dropBacking t 2

end Sys2Proof.Machine
end

