-- ==== Sys2Proof/Machine/Cocoon.lean ====
section
/-! DEFINITION. Building and routing Cocoon units: the header (R297), its wire form, the FRT (R303 to R307), send flows and
their probes (R309 to R312), and the local packets the part builds itself. -/

namespace Sys2Proof.Machine

/-! ### The header on the wire (R297) -/

/-- The 256 bits of a Cocoon header. -/
def CocoonHdr.pack (h : CocoonHdr) : Nat :=
  h.dst * 2 ^ 240 + h.src * 2 ^ 224 + h.domain * 2 ^ 212 + h.cls * 2 ^ 209 + h.kind * 2 ^ 205 + h.fseq * 2 ^ 181
    + h.ilen * 2 ^ 168 + h.hops * 2 ^ 163 + b2n h.mcf * 2 ^ 162 + h.mcg * 2 ^ 150 + h.ortx * 2 ^ 133 + h.ts * 2 ^ 101
    + h.psel * 2 ^ 98 + b2n h.poison * 2 ^ 97 + b2n h.ide * 2 ^ 96 + b2n h.ro * 2 ^ 95 + h.rsv

/-- Bytes of a number, most significant first (R7). -/
def bytesOf (n : Nat) (v : Nat) : List Byte :=
  (List.range n).map (fun i => BitVec.ofNat 8 (v / 2 ^ (8 * (n - 1 - i))))

/-- ORTX of a unit that names nothing (R299). -/
def noOrtx : Nat := 0x1FFFF

/-- A header that names nothing: the base that new headers are updates of. -/
def CocoonHdr.blank : CocoonHdr where
  dst := 0
  src := 0
  domain := 0
  cls := 0
  kind := 0
  fseq := 0
  ilen := 0
  hops := 0
  mcf := false
  mcg := 0
  ortx := noOrtx
  ts := 0
  psel := 0
  poison := false
  ide := false
  ro := false
  rsv := 0

/-! ### Routing (R303 to R307) -/

/-- Class group of a class (FAB.CG_MAP). -/
def Part.classGroup (p : Part) (c : Nat) : Nat := p.getF .fab FAB.CG_MAP.MAP / 4 ^ c % 4

/-- FRT index of a destination global port and class (R303); none for a local port 128-255, which has no entry. -/
def Part.frtIdx (p : Part) (dst cls : Nat) : Option Nat :=
  let lp := dst % 512
  if lp < 128 then some (dst / 512 % 128 * 128 + lp / 8 * 4 + p.classGroup cls)
  else if 256 ≤ lp ∧ lp < 272 then some (dst / 512 % 128 * 128 + 16 * 4 + p.classGroup cls)
  else none

/-- VALID of an FRT entry. -/
def Part.frtValid (p : Part) (i : Nat) : Bool := p.tf 2 i 0 0 1 == 1

/-- ESC of an FRT entry (R324). -/
def Part.frtEsc (p : Part) (i : Nat) : Bool := p.tf 2 i 0 4 1 == 1

/-- The link codes of an entry's path set with their masks (R304). -/
def Part.frtPath (p : Part) (i : Nat) : List (Nat × Nat) :=
  (List.range (p.tf 2 i 0 5 3 + 1)).map (fun k => (p.tf 2 i (1 + k / 4) (8 * (k % 4)) 5, p.tf 2 i (3 + k / 4) (8 * (k % 4)) 8))

/-- Whether a destination chip can be reached from here: a valid entry exists for the port and class (R256). -/
def Part.carriable (p : Part) (dst cls : Nat) : Bool :=
  match p.frtIdx dst cls with
  | none => false
  | some i => p.frtValid i && !(p.tf 2 i 0 1 1 == 1)

/-- PSEL of an account (R305). -/
def Part.pselOf (p : Part) (a : Nat) : Nat := p.getF .fab (FAB.PSEL.PSEL.ix a)

/-- HOPS at the origin: HOP_INIT, 0 acting as 1 (R306). -/
def Part.hopInit (p : Part) : Nat := max 1 (p.getF .fab FAB.FAB_CTL.HOP_INIT)

/-! ### Local packets and frames -/

/-- A completion of a request (R264): status, remaining byte count, lower address, with requester ID and tag restored. -/
def mkCpl (rid : BitVec 16) (tag : Nat) (cid : BitVec 16) (st : CplStatus) (bc la : Nat) (data : List Byte) (tc : Nat) : Tlp :=
  { Tlp.blank with kind := .cpl, rid := rid, tag := tag, id := cid, status := st, byteCount := bc,
                   addr := BitVec.ofNat 64 la, data := data, len := data.length, hdrLen := 12, tc := tc }

/-- Whether a request expects a completion. -/
def TlpKind.nonPosted : TlpKind → Bool
  | .memWrite | .msg | .cpl => false
  | _ => true

/-- Cell KIND of a packet: 0 posted, 1 non-posted, 2 completion (R157). -/
def TlpKind.cellKind : TlpKind → Nat
  | .memWrite | .msg => 0
  | .cpl => 2
  | _ => 1

/-- Bytes a request covers: a zero-length read or write, which comes with `len` 0 and no data, is a 4-byte access at its address (R381)
(log entry 84, PRESUMED). -/
def Tlp.span (t : Tlp) : Nat :=
  match t.kind with
  | .memRead | .memWrite => if t.len = 0 then 4 else t.len
  | _ => t.len

/-- Bytes of a packet as it crosses the part (R155). -/
def Tlp.bytes (t : Tlp) : Nat :=
  t.hdrLen + (match t.kind with
    | .memRead | .cfgRead => 0
    | _ => t.span)

/-- Bytes of an inner frame (R298). -/
def Inner.bytes : Inner → Nat
  | .tlp t => t.bytes
  | .mctp b => b.length
  | .hive _ b => 2 + b.length
  | .commitAck _ _ => 8
  | .synthCpl _ _ _ _ _ => 12
  | .probe _ _ _ => 8
  | .time _ _ _ => 16
  | .raw b => b.length

/-- KIND of an inner frame (R298). -/
def Inner.code : Inner → Nat
  | .tlp _ => 1 | .mctp _ => 2 | .hive _ _ => 3 | .commitAck _ _ => 4 | .synthCpl _ _ _ _ _ => 5 | .probe _ _ _ => 6
  | .time _ _ _ => 7 | .raw _ => 0

/-- Cell KIND of a unit (R298). -/
def Inner.cellKind : Inner → Nat
  | .tlp t => t.kind.cellKind
  | .mctp _ => 0 | .hive _ _ => 0 | _ => 2

/-- The bytes of an inner frame (R277, R311, R318, R328). The header of a TLP is laid out by the PCIe Base Specification, and its
bytes are free values (log entry 3); `ctr` names their use. -/
def Inner.wire (ctr : Nat) : Inner → List Byte
  | .tlp t => (List.range t.hdrLen).map (fun i => Config.freeByte (ctr * 4096 + i)) ++ t.data
  | .mctp b => b
  | .hive ty b => bytesOf 2 ty ++ b
  | .commitAck failed cause => bytesOf 2 (256 * b2n failed + cause) ++ bytesOf 6 0
  | .synthCpl rid tag st la bc => bytesOf 2 rid.toNat ++ bytesOf 2 tag ++ bytesOf 2 (256 * st + la) ++ bytesOf 2 bc ++ bytesOf 4 0
  | .probe op index cnt => bytesOf 2 (256 * op + index) ++ bytesOf 2 cnt ++ bytesOf 4 0
  | .time now epoch chip => bytesOf 8 now ++ bytesOf 2 epoch ++ bytesOf 1 chip ++ bytesOf 5 0
  | .raw b => b

/-- The bytes of a frame as it crosses the part (R155). -/
def Body.wire (ctr : Nat) : Body → List Byte
  | .local t => (Inner.tlp t).wire ctr
  | .unit h i => bytesOf 32 h.pack ++ i.wire ctr

/-- Whether a lossless unit of this kind takes sequences of its flow (R309). -/
def Inner.sequenced : Inner → Bool
  | .probe _ _ _ => false
  | .time _ _ _ => false
  | _ => true

/-! ### Send flows (R309, R310) -/

/-- The number a flow is kept under: source, destination, group of a multicast flow, class. -/
def flowKey (src dst mcg cls : Nat) : Nat := ((src * 65536 + dst) * 4096 + mcg) * 8 + cls

/-- F of R310 in ns: CCN.FLOW_CTL.IDLE in units of 100 us, below 10 acting as 10. -/
def Part.flowIdle (p : Part) : Nat := max 10 (p.getF .ccn CCN.FLOW_CTL.IDLE) * 100000

/-- A send flow entry. -/
def Part.txf (p : Part) (k : Nat) : TxFlow := Sparse.get p.txFlow (TxFlow.mk false 0 0 false) k

/-- Stores a send flow entry. -/
def Part.setTxf (p : Part) (k : Nat) (f : TxFlow) : Part :=
  { p with txFlow := Sparse.set p.txFlow (TxFlow.mk false 0 0 false) k f }

/-- Send entries in use. -/
def Part.txUsed (p : Part) : Nat := (p.txFlow.filter (fun e => e.2.used)).length

/-- Queues a unit's frame towards its destination chip, at the ingress crossbar port it is built at. -/
def Part.queueUnit (p : Part) (f : Frame) (h : CocoonHdr) (i : Inner) (pool : Pool) : Part :=
  p.queueFrame { f with body := .unit h i, len := 32 + i.bytes } pool

/-- Sends FENCE_PROBE OPEN before a flow's first frame and after F / 2 of idleness (R310, R311). -/
def Part.openProbe (p : Part) (f : Frame) (h : CocoonHdr) (next : Nat) : Part :=
  let h1 := { h with kind := 6, fseq := next, ilen := 8, ortx := noOrtx, ro := false, ide := false, poison := false }
  p.queueUnit { f with kind := 2, ort := none, slot := none, gate := none, combine := none } h1 (.probe 1 0 0) .cpl

/-- A frame of a flow waits at its VOQ head for a send flow entry, and with it the later ones of the flow (R310). -/
def Part.flowWaits (p : Part) (k : Nat) : Bool :=
  p.frames.any (fun e => e.2.any (fun f => f.noFlow && !f.abort && (match f.body with
    | .unit h _ => flowKey h.src h.dst (if h.mcf then h.mcg else 0) h.cls == k
    | .local _ => false)))

/-- Wraps and queues a unit (R297, R309): a sequenced unit takes the next sequences of its flow, after an OPEN when the flow is
new or has been idle for F / 2; with the send table full the frame waits at its VOQ head. -/
def Part.sendUnit (p : Part) (f : Frame) (h : CocoonHdr) (i : Inner) (pool : Pool) : Part :=
  let p0 := p.count .ccn 0 1 (some h.domain)
  let h0 := { h with kind := i.code, ilen := i.bytes, ts := p.ns % 2 ^ 32 }
  if !i.sequenced || f.kind == 3 then p0.queueUnit f h0 i pool
  else
    let k := flowKey h.src h.dst (if h.mcf then h.mcg else 0) h.cls
    let e := p0.txf k
    if (!e.used && decide (32768 ≤ p0.txUsed)) || p0.flowWaits k then
      (p0.err .ccn 5).queueUnit { f with noFlow := true } h0 i pool
    else
      let n := cellsOf (32 + i.bytes)
      let p1 := if !e.used || decide (p0.flowIdle / 2 ≤ p0.now - e.last) then p0.openProbe f h0 e.next else p0
      let p2 := p1.setTxf k (TxFlow.mk true ((e.next + n) % 2 ^ 24) p0.now true)
      p2.queueUnit f { h0 with fseq := e.next } i pool

/-- Sends FENCE_PROBE VOID for `n` sequences from `s` of a unit's flow (R311, R312). -/
def Part.voidProbe (p : Part) (f : Frame) (h : CocoonHdr) (s n : Nat) : Part :=
  let h1 := { h with kind := 6, fseq := s, ilen := 8, ortx := noOrtx, ro := false, ide := false, poison := false,
                     hops := p.hopInit }
  (p.count .ccn 4 1 (some h.domain)).queueUnit
    { f with kind := 2, ort := none, slot := none, gate := none, combine := none, cells := [], matched := 0, landed := 0,
             abort := false } h1 (.probe 2 0 n) .cpl

end Sys2Proof.Machine
end

