-- ==== Sys2Proof/Machine/Order.lean ====
section
/-! DEFINITION. Posted writes and their outcomes: requester records (R270), the ledger (R274 to R278), the DEVICE gate (R281),
the journal and its AER report (R290 to R293), and the failure counts and waits of fences (R284 to R286). -/

namespace Sys2Proof.Machine

/-! ### Requester records (R270) -/

/-- The number a record's failure counts are kept under in its domain. -/
def Rec.num : Rec → Nat
  | .host r => r
  | .drone s => 16 + s

/-- The host record that holds a requester ID (R270), if there is one. -/
def Part.hostRec (p : Part) (d : Nat) (rid : BitVec 16) : Option Nat :=
  match (List.range 16).find? (fun r => p.bit (.ordv d) (ORDV.RQ_RID.VALID.ix r) &&
      p.getF (.ordv d) (ORDV.RQ_RID.RID.ix r) == rid.toNat) with
  | some r => some r
  | none => if (Sparse.get p.sharers [] d).contains rid then some 15 else none

/-- Allocates a record to a requester ID on its first tracked or journaled write: records 0-14 singly, record 15 shared
(R270). -/
def Part.allocRec (p : Part) (d : Nat) (rid : BitVec 16) : Part × Nat :=
  match p.hostRec d rid with
  | some r => (p, r)
  | none =>
    match (List.range 16).find? (fun r => !p.bit (.ordv d) (ORDV.RQ_RID.VALID.ix r)) with
    | some r => ((p.setF (.ordv d) (ORDV.RQ_RID.RID.ix r) rid.toNat).setF (.ordv d) (ORDV.RQ_RID.VALID.ix r) 1, r)
    | none =>
      let p1 := if p.bit (.ordv d) (ORDV.RQ_RID.SHARED.ix 15) then p else p.err .ord 4
      let l := Sparse.get p1.sharers [] d
      (({ p1 with sharers := Sparse.set p1.sharers [] d (l ++ [rid]) }).setF (.ordv d) (ORDV.RQ_RID.SHARED.ix 15) 1, 15)

/-- The record of a request's source (log entry 55, DEDUCED). -/
def Part.recOf (p : Part) (d : Nat) (w : Who) : Part × Rec :=
  match w with
  | .host rid => let x := p.allocRec d rid; (x.1, .host x.2)
  | .drone s => (p, .drone s)
  | .agent _ => (p, .host 0)

/-- The record a source already has. -/
def Part.recHeld (p : Part) (d : Nat) (w : Who) : Option Rec :=
  match w with
  | .host rid => (p.hostRec d rid).map Rec.host
  | .drone s => some (.drone s)
  | .agent _ => none

/-! ### Failure counts (R284, R286) -/

/-- Where a scope's failures are counted: one count for each record and class, one for the domain. -/
def failKey (d rec_ cls : Nat) : Nat := (d * 512 + rec_) * 4 + cls

/-- Where the domain's failures are counted. -/
def failDomKey (d : Nat) : Nat := 64 * 512 * 4 + d

/-- Nothing counted. -/
def FailCnt.zero : FailCnt := FailCnt.mk 0 0 false

/-- A count. -/
def Part.fc (p : Part) (k : Nat) : FailCnt := Sparse.get p.fail FailCnt.zero k

/-- Stores a count. -/
def Part.setFc (p : Part) (k : Nat) (c : FailCnt) : Part := { p with fail := Sparse.set p.fail FailCnt.zero k c }

/-- Counts one failure with journal number `seq`; the count saturates at 0xFFFF. -/
def FailCnt.add (c : FailCnt) (seq : Nat) (unknown : Bool) : FailCnt :=
  FailCnt.mk (satAdd 16 c.cnt 1) (if c.cnt = 0 then seq else c.first) (c.unknown || unknown)

/-- Counts a failure for its record's class and for its domain. -/
def Part.countFail (p : Part) (d : Nat) (r : Rec) (cls seq : Nat) (unknown : Bool) : Part :=
  let k := failKey d r.num cls
  let p1 := p.setFc k ((p.fc k).add seq unknown)
  p1.setFc (failDomKey d) ((p1.fc (failDomKey d)).add seq unknown)

/-! ### AER of a function (R293, R361; registers of the PCIe Base Specification) -/

/-- The Control Function reports an advisory error: the status bits are set, the header is logged, and ERR_COR is sent when
Advisory Non-Fatal Error Status was clear, nothing masks it and reporting is enabled (R293, R361). `bit` is the bit of the
Uncorrectable Error Status register: 20 Unsupported Request, 15 Completer Abort. -/
def Part.advise (p : Part) (d bit : Nat) (h : List (BitVec 32)) : Part :=
  let was := p.cf d 1 0x110 13 1
  let p1 := (p.setCf d 1 0x104 bit 1 1).setCf d 1 0x110 13 1 1
  let p2 := if was = 1 then p1 else
    (List.range 4).foldl (fun q i => q.setCw d 1 (0x11C + 4 * i) (h.getD i 0)) p1
  if was = 0 ∧ p.cf d 1 0x114 13 1 = 0 ∧ p.cf d 1 0x108 bit 1 = 0 ∧ p.cf d 1 0x78 0 1 = 1 ∧ (bit ≠ 20 ∨ p.cf d 1 0x78 3 1 = 1)
  then p2.sendUp d 0 (.errMsg d 1 0) else p2

/-- The words of a 64-bit memory write header of the given length, requester and address, as the Header Log keeps them
(log entry 12, PRESUMED). -/
def mwrHeader (len : Nat) (rid : BitVec 16) (addr : BitVec 64) : List (BitVec 32) :=
  [BitVec.ofNat 32 (0x60000000 + (len + 3) / 4 % 1024), BitVec.ofNat 32 (rid.toNat * 65536 + 0xFF),
   BitVec.ofNat 32 (addr.toNat / 2 ^ 32), BitVec.ofNat 32 (addr.toNat % 2 ^ 32 / 4 * 4)]

/-- The words of a request's header with a 64-bit address or, for a configuration request, a register offset, as the Header Log keeps them
(R361; layout of log entry 12). -/
def reqHeader (t : Tlp) (addr : BitVec 64) : List (BitVec 32) :=
  let fmt := match t.kind with
    | .memRead => 0x20000000
    | .atomic => 0x6C000000
    | .dmWr => 0x7B000000
    | .cfgRead => 0x05000000
    | .cfgWrite => 0x45000000
    | _ => 0x60000000
  let cfg := t.kind == .cfgRead || t.kind == .cfgWrite
  [BitVec.ofNat 32 (fmt + t.tc % 8 * 2 ^ 20 + (t.span + 3) / 4 % 1024), BitVec.ofNat 32 (t.rid.toNat * 65536 + t.tag % 256 * 256 + 0xFF)] ++
    (if cfg then [BitVec.ofNat 32 (t.id.toNat * 65536 + addr.toNat % 4096 / 4 * 4), 0]
     else [BitVec.ofNat 32 (addr.toNat / 2 ^ 32), BitVec.ofNat 32 (addr.toNat % 2 ^ 32 / 4 * 4)])

/-- Requester ID of a record: the requester ID that holds it, or the Control Function's for a Drone channel (R293). -/
def Part.recRid (p : Part) (d : Nat) : Rec → BitVec 16
  | .host r => BitVec.ofNat 16 (p.getF (.ordv d) (ORDV.RQ_RID.RID.ix r))
  | .drone _ => p.cfRid d

/-! ### The journal (R290 to R292) -/

/-- A journal entry (R292). -/
def jrnlEntry (seq cause fcls : Nat) (device : Bool) (r : Rec) (addr : BitVec 64) (len target : Nat) : Jrnl :=
  let src := match r with
    | .host h => h
    | .drone s => s
  let drone := match r with
    | .host _ => 0
    | .drone _ => 1
  Jrnl.mk (BitVec.ofNat 32 (seq + cause * 2 ^ 16 + fcls * 2 ^ 20 + b2n device * 2 ^ 22 + drone * 2 ^ 23 + src * 2 ^ 24))
    (BitVec.ofNat 32 (addr.toNat % 2 ^ 32)) (BitVec.ofNat 32 (addr.toNat / 2 ^ 32))
    (BitVec.ofNat 32 (len + target * 2 ^ 13))

/-- A stored journal entry of a domain. -/
def Part.je (p : Part) (d i : Nat) : Jrnl := Sparse.get p.jrnl (Jrnl.mk 0 0 0 0) (d * 256 + i)

/-- Journals one failed or refused write: the entry takes WR_SEQ, an unconsumed oldest entry is overwritten with OVF, the
counts, the interrupt and the AER follow (R290, R291, R293). -/
def Part.journal (p : Part) (d cause fcls : Nat) (device : Bool) (r : Rec) (addr : BitVec 64) (len target : Nat) : Part :=
  let pg := Page.ordv d
  let seq := p.getF pg ORDV.JRNL_PTR.WR_SEQ
  let full := decide (256 ≤ (seq + 65536 - p.getF pg ORDV.JRNL_PTR.RD_SEQ) % 65536)
  let p1 := if full then ((p.setF pg ORDV.JRNL_STAT.OVF 1).irq pg 2).err .ord 3 else p
  let p2 := { p1 with jrnl := Sparse.set p1.jrnl (Jrnl.mk 0 0 0 0) (d * 256 + seq % 256)
                        (jrnlEntry seq cause fcls device r addr len target) }
  let p3 := (p2.setF pg ORDV.JRNL_PTR.WR_SEQ ((seq + 1) % 65536)).irq pg 1
  let p4 := (p3.count .ord 3 1 (some (p.fabricId d))).count (.telv d 0) 6 1
  let p5 := p4.countFail d r fcls seq (cause == 9)
  p5.advise d (if cause ≤ 4 then 20 else 15) (mwrHeader len (p.recRid d r) addr)

/-! ### The DEVICE gate (R281) -/

/-- gate_clear of R281 for a request of a record: `fence` for a fence read (log entry 55, DEDUCED). -/
def Part.gateClear (p : Part) (d : Nat) (r : Rec) (target : Nat) (posted fence : Bool) : Bool :=
  p.gates.all (fun e =>
    if e.domain = d ∧ e.rec_ = r then
      if fence then !e.posted
      else if e.target ≠ target then false
      else !(!posted && e.posted)
    else true)

/-- A DEVICE request passes the gate and is open from now on (log entry 55, DEDUCED). -/
def Part.gateOpen (p : Part) (d : Nat) (r : Rec) (target : Nat) (posted : Bool) : Part × Nat :=
  ({ p with gates := p.gates ++ [GateReq.mk p.nextGate d r target posted], nextGate := p.nextGate + 1 }, p.nextGate)

/-- A DEVICE request is no longer open. -/
def Part.gateClose (p : Part) (g : Option Nat) : Part :=
  match g with
  | none => p
  | some i => { p with gates := p.gates.filter (fun e => e.id ≠ i) }

/-! ### The ledger (R274 to R278) -/

/-- Slots in use. -/
def Part.slotsUsed (p : Part) : Nat := (p.ledger.filter (fun e => e.2.used)).length

/-- Slots an account uses. -/
def Part.slotsOf (p : Part) (a : Nat) : Nat := (p.ledger.filter (fun e => e.2.used && e.2.acct == a)).length

/-- Slots a domain uses. -/
def Part.slotsDom (p : Part) (d : Nat) : Nat := (p.ledger.filter (fun e => e.2.used && e.2.domain == d)).length

/-- Slot quota of an account: 0 acts as 1, above 4,096 acts as 4,096. -/
def Part.slotQuota (p : Part) (a : Nat) : Nat := min 4096 (max 1 (p.getF .ord (ORD.LQ.QUOTA.ix a)))

/-- CTMO in ns: 0 acts as 1 ms, above 1,000 acts as 1,000 (R276). -/
def Part.ctmo (p : Part) : Nat := min 1000 (max 1 (p.getF .ord ORD.CTMO.MS)) * 1000000

/-- A tracked write of an account must wait for a slot (R275). -/
def Part.slotBlocked (p : Part) (a : Nat) : Bool := decide (4096 ≤ p.slotsUsed) || decide (p.slotQuota a ≤ p.slotsOf a)

/-- The lowest free slot. -/
def Part.freeSlot (p : Part) : Nat := firstFree ((p.ledger.filter (fun e => e.2.used)).map (fun e => e.1)) 4096 0

/-- Gives a tracked write its slot (R274): answers the index and the generation. -/
def Part.openSlot (p : Part) (d : Nat) (r : Rec) (acct : Nat) (device : Bool) (fcls target : Nat) (addr : BitVec 64)
    (len : Nat) (gate chan : Option Nat) : Part × (Nat × Nat) :=
  let i := p.freeSlot
  let g := (p.sl i).gen
  ((p.setSl i (Slot.mk true g d r device fcls target addr len (p.now + p.ctmo) acct gate chan)).count .ord 0 1
    (some (p.fabricId d)), (i, g))

/-- Makes a slot free; its next use takes the next generation, 30 wrapping to 0 (R277), and no fence waits for it
(log entry 20, DESIGN CHOICE). -/
def Part.freeSl (p : Part) (i : Nat) : Part :=
  let s := p.sl i
  let p1 := p.setSl i { Slot.empty with gen := (s.gen + 1) % 31 }
  { p1 with fences := p1.fences.map (fun f => { f with wait := f.wait.filter (fun w => w ≠ (i, s.gen)) }) }

/-- A Drone channel enters STOPPED_ERR with a cause, at descriptor `idx` (R108, R110). -/
def Part.chanStop (p : Part) (c d k cause idx : Nat) : Part :=
  let pg := Page.drc d k
  let p1 := (((p.setF pg DRC.CH_STAT.STATE 2).setF pg DRC.ERR_DESC.CAUSE cause).setF pg DRC.ERR_DESC.INDEX idx).irq pg 2
  let p2 := if 1 ≤ cause ∧ cause ≤ 6 then p1.err pg (cause - 1) else p1
  (p2.count (.drn (c / 256)) 5 1 (some (p.fabricId d))).err (.drn (c / 256)) 0

/-- Where a channel is bound: its domain and slot. -/
def Part.boundAt (p : Part) (c : Nat) : Nat × Nat :=
  (p.getF (.drn (c / 256)) (DRN.CH_BIND.DOMAIN.ix (c % 256)), p.getF (.drn (c / 256)) (DRN.CH_BIND.SLOT.ix (c % 256)))

/-- A Drone channel's write of `len` bytes has its outcome; a completion record that fails stops the channel with CPL_FAIL (R108). -/
def Part.chanWrote (p : Part) (c : Option Nat) (failed : Bool) (len : Nat) : Part :=
  match c with
  | none => p
  | some k =>
    let x := p.ch k
    if x.cplOut ∧ 1 < x.wrOut then p.setCh k { x with wrOut := x.wrOut - 1, cplBad := x.cplBad || failed }
    else if x.cplOut then
      let p1 := p.setCh k { x with cplOut := false, cplBad := false, wrOut := 0 }
      let b := p1.boundAt k
      if (failed || x.cplBad) ∧ p1.getF (.drc b.1 b.2) DRC.CH_STAT.STATE ≤ 1 then
        p1.chanStop k b.1 b.2 6 ((p1.getF (.drc b.1 b.2) DRC.CONS.INDEX + 65535) % 65536)
      else p1
    else p.setCh k { x with wrOut := x.wrOut - 1, wrErr := x.wrErr || failed,
                            done := if failed || x.wrErr then x.done else x.done + len }

/-- Resolves a used slot with its one outcome: committed, or failed with a cause, which is journaled (R273, R278). -/
def Part.resolveSlot (p : Part) (i : Nat) (outcome : Option Nat) : Part :=
  let s := p.sl i
  let p1 := ((p.freeSl i).gateClose s.gate).chanWrote s.chan outcome.isSome s.len
  match outcome with
  | none => p1
  | some cause => p1.journal s.domain cause s.fclass s.device s.rec_ s.addr s.len s.target

/-- Delivers an outcome to the slot of an index and generation; without such a used slot it is unmatched (R278). -/
def Part.outcomeAt (p : Part) (i g : Nat) (outcome : Option Nat) : Part :=
  let s := p.sl i
  if s.used && s.gen == g then p.resolveSlot i outcome else (p.count .ord 5 1).err .ord 2

/-- A write refused at lookup is journaled whether it is tracked or not (R273 causes 1 to 4, R290). -/
def Part.refuseWrite (p : Part) (q : Looked) (cause target : Nat) : Part :=
  let x := p.recOf q.domain q.who
  x.1.journal q.domain cause q.fclass (q.device && target != 0xFFFF) x.2 q.orig q.tlp.span target

end Sys2Proof.Machine
end

