-- ==== Sys2Proof/Machine/Sample.lean ====
section
/-! DEFINITION. Latency histograms: bins, samples and saturation (R460 to R463). -/

namespace Sys2Proof.Machine

/-- The bin a sample of `t` ns falls in (R460). -/
def histBin (t : Nat) : Nat := if t < 16 then 0 else min 31 (Nat.log2 (t / 16) + 1)

/-- Where a bin of a port's histogram is kept: kind 0 TRANSIT, 1 ROUND_TRIP (R461). -/
def histKey (kind port cls bin : Nat) : Nat := ((kind * 128 + port) * 8 + cls) * 32 + bin

/-- Where a bin of a domain's ROUND_TRIP histogram is kept (R463). -/
def domHistKey (d cls bin : Nat) : Nat := (d * 8 + cls) * 32 + bin

/-- One more sample of a stored bin. A bin stores its count, and 2^48 for the highest count with SAT set (R462). -/
def binAdd (v : Nat) : Nat := min (2 ^ 48) (v + 1)

/-- A sample that brings a bin to its highest count sets HIST_SAT and is counted (R473). -/
def Part.saturated (p : Part) (v : Nat) : Part := if v < 2 ^ 48 ∧ binAdd v = 2 ^ 48 then (p.err .tel 0).count .tel 3 1 else p

/-- Adds a sample to a port's histogram (R461, R473). -/
def Part.samplePort (p : Part) (kind port cls t : Nat) : Part :=
  if p.bit .tel TEL.HIST_CTL.EN then
    let k := histKey kind port cls (histBin t)
    let v := Sparse.get p.hist 0 k
    let p1 := { p with hist := Sparse.set p.hist 0 k (binAdd v) }
    (p1.count .tel kind 1).saturated v
  else p

/-- Adds a sample to a domain's ROUND_TRIP histogram (R463). -/
def Part.sampleDom (p : Part) (d cls t : Nat) : Part :=
  if p.bit .tel TEL.HIST_CTL.EN then
    let k := domHistKey d cls (histBin t)
    let v := Sparse.get p.domHist 0 k
    { p with domHist := Sparse.set p.domHist 0 k (binAdd v) }.saturated v
  else p

end Sys2Proof.Machine
end

