-- ==== Sys2Proof/Machine/Ort.lean ====
section
/-! DEFINITION. The Outstanding Request Tracker: opening and closing entries, matching completions, deadlines and
synthesised completions (R257 to R265, R318, R361). -/

namespace Sys2Proof.Machine

/-! ### Limits that a field's range sets -/

/-- LL_US in ns: below 100 us acts as 100, above 1,000,000 acts as 1,000,000 (BUF.AGE_LL). -/
def Part.llNs (p : Part) : Nat := min 1000000 (max 100 (p.getF .buf BUF.AGE_LL.LL_US)) * 1000

/-- Deadline of an account's entries in ns: 0 acts as 1 ms, above 1,000 acts as 1,000 (TBL.ORT_DL). -/
def Part.ortDl (p : Part) (a : Nat) : Nat := min 1000 (max 1 (p.getF .tbl (TBL.ORT_DL.DL_MS.ix a))) * 1000000

/-- Entry quota of an account: 0 acts as 1 (TBL.ORT_DL); a value above 131,072 cannot be reached. -/
def Part.ortQuota (p : Part) (a : Nat) : Nat := max 1 (p.getF .tbl (TBL.ORT_DL.QUOTA.ix a))

/-- FAR deadline in ns (TBL.ORT_CTL). -/
def Part.farDl (p : Part) : Nat := min 1000 (max 1 (p.getF .tbl TBL.ORT_CTL.FAR_DL_MS)) * 1000000

/-- FAR entry limit (TBL.ORT_CTL). -/
def Part.farMax (p : Part) : Nat := min 131072 (max 1 (p.getF .tbl TBL.ORT_CTL.FAR_MAX))

/-- Tags a target port takes: 2^8, 2^10 or 2^14, code 3 acting as 2 (TBL.PORT_TGT). -/
def Part.tagSpace (p : Part) (t : Nat) : Nat :=
  match p.getF .tbl (TBL.PORT_TGT.TAGW.ix t) with
  | 0 => 2 ^ 8
  | 1 => 2 ^ 10
  | _ => 2 ^ 14

/-- Bytes of a size code: 0 128 B to 5 4,096 B, 6 and 7 acting as 5. -/
def sizeOf (code : Nat) : Nat := 128 * 2 ^ min 5 code

/-- MPS of a port (TBL.PORT_TGT). -/
def Part.mps (p : Part) (t : Nat) : Nat := sizeOf (p.getF .tbl (TBL.PORT_TGT.MPS.ix t))

/-! ### Counting entries -/

/-- Entries not FREE. -/
def Part.ortOpen (p : Part) : Nat := (p.ort.filter (fun e => e.2.state ≠ .free)).length

/-- FAR entries. -/
def Part.ortFar (p : Part) : Nat := (p.ort.filter (fun e => e.2.state = .far)).length

/-- QUARANTINE entries. -/
def Part.ortQuar (p : Part) : Nat := (p.ort.filter (fun e => e.2.state = .quarantine)).length

/-- LOCAL, ORIGIN and QUARANTINE entries of an account (R258). -/
def Part.ortOf (p : Part) (a : Nat) : Nat :=
  (p.ort.filter (fun e => e.2.domain = a ∧ (e.2.state = .localE ∨ e.2.state = .origin ∨ e.2.state = .quarantine))).length

/-- A request of an account must wait for an entry (R258). -/
def Part.ortBlocked (p : Part) (a : Nat) : Bool := decide (131072 ≤ p.ortOpen) || decide (p.ortQuota a ≤ p.ortOf a)

/-- The lowest FREE entry. -/
def Part.freeOe (p : Part) : Nat := firstFree ((p.ort.filter (fun e => e.2.state ≠ .free)).map (fun e => e.1)) 131072 0

/-- OP of an entry for a request (R257). -/
def ortOp : TlpKind → Nat
  | .memRead => 0 | .cfgRead => 3 | .atomic => 2 | _ => 1

/-- REMAIN of a request when its entry opens: the bytes a read asks for, the operand an AtomicOp returns, none for a
non-posted write (R257); 1 for a zero-length read, the Byte Count its completion has (log entry 84, PRESUMED). -/
def Tlp.expects (t : Tlp) : Nat :=
  match t.kind with
  | .memRead => max 1 t.len
  | .cfgRead | .atomic => t.len
  | _ => 0

/-- An entry's requester is one of its domain's: a PCIe port or a Drone channel, not Colony or Chitin (R459, R461). -/
def OrtEnt.ofDomain (e : OrtEnt) : Bool := e.chan.isSome || decide (e.source % 512 < 128)

/-- Opens the entry that a lookup's request needs (R258, R263, R267). -/
def Part.openOe (p : Part) (e : OrtEnt) : Part × Nat :=
  let i := p.freeOe
  (((p.setOe i e).count .tbl 0 1 (some e.fabricId)).count (.telv e.domain 0) 4 (if e.state ≠ .far ∧ e.ofDomain = true then 1 else 0), i)

/-- Where the completion-pool cells that a Drone channel's reads have taken are kept (R201). -/
def rdKey (c : Nat) : Nat := 1024 + c

/-- A completion for a Drone read uses `n` of the cells taken for it; `all` when the read completes or closes and the rest returns to the
completion pool (R201). Each read's cells are kept under its tag. -/
def Part.rdUse (p : Part) (c tag n : Nat) (all : Bool) : Part :=
  let l := (Sparse.get p.backing [] (rdKey c)).filterMap (fun (b : Backing) =>
    if b.cost ≠ tag then some b else if all ∨ b.cells ≤ n then none else some (Backing.mk b.pool (b.cells - n) b.cost))
  { p with backing := Sparse.set p.backing [] (rdKey c) l }

/-- The cells of the Drone read behind an entry return when it closes. -/
def Part.rdClose (p : Part) (e : OrtEnt) : Part :=
  match e.chan with
  | some c => p.rdUse c.1 e.origTag 0 true
  | none => p

/-- Closes an entry to FREE; its DEVICE request, if it was one, is no longer open (R261, R281) (log entry 20, DESIGN CHOICE). -/
def Part.freeEnt (p : Part) (i : Nat) : Part :=
  let e := p.oe i
  ((p.setOe i OrtEnt.empty).gateClose e.gate).rdClose e

/-- Moves a LOCAL or ORIGIN entry to QUARANTINE for LL_US + 20 us (R262, R263). -/
def Part.quarantine (p : Part) (i : Nat) : Part :=
  let e := p.oe i
  ((p.setOe i { e with state := .quarantine, wasLocal := e.state = .localE, gate := none }).gateClose
    e.gate).rdClose e

/-! ### Sending answers -/

/-- What a Drone channel's read has brought: operand 0 source, 1 second operand, 2 ring; with data, or without. A ring read that fails
stops the channel with RING_FETCH (R108). -/
def Part.chanRead (p : Part) (c : Nat × Nat × Nat) (data : Option (List Byte)) (final : Bool) : Part :=
  let x := p.ch c.1
  let x1 := match data with
    | none => { x with rdErr := true }
    | some b => if c.2.1 = 1 then { x with dst := x.dst ++ [(c.2.2, b)] } else { x with src := x.src ++ [(c.2.2, b)] }
  let x2 := if final then (if c.2.1 = 2 then { x1 with ringOut := false } else { x1 with rdOut := x1.rdOut - 1 }) else x1
  let p1 := p.setCh c.1 x2
  match data with
  | some b => p1.count (.drn (c.1 / 256)) 1 b.length (some (p.fabricId (p.getF (.drn (c.1 / 256)) (DRN.CH_BIND.DOMAIN.ix (c.1 % 256)))))
  | none =>
    let b := p1.boundAt c.1
    if c.2.1 = 2 then (p1.setCh c.1 Chan.reset).chanStop c.1 b.1 b.2 5 (p1.getF (.drc b.1 b.2) DRC.CONS.INDEX) else p1

/-- Whether new frames for a destination are answered at enqueue, and how: the status of a non-posted request and the cause
of a tracked write (R210, R341). -/
def Part.blocked (p : Part) (d : Dest) : Option (CplStatus × Nat) :=
  match d with
  | .port t =>
    if p.bit (.port t) PORT.CONT_STAT.ACTIVE then
      (if p.getF (.port t) PORT.CONT_STAT.CAUSE = 4 then some (.ca, 6) else some (.ur, 5))
    else if !p.bit (.port t) PORT.PORT_STAT.DL_UP then some (.ur, 5)
    else none
  | d => if p.stuck.contains d then some (.ca, 6) else none

/-- Counts a frame discarded under a destination's containment (CONT_STAT.DISCARDED). -/
def Part.countDiscard (p : Part) (d : Dest) : Part :=
  match d with
  | .port t => if p.bit (.port t) PORT.CONT_STAT.ACTIVE then p.bumpF (.port t) PORT.CONT_STAT.DISCARDED 1 else p
  | _ => p

/-- The destination of a local port. -/
def destOf (lp : Nat) : Dest :=
  match agentOf lp with
  | some a => .agent a
  | none => .port lp

/-- Queues a completion, of a configuration request where `cfg` says so, that the part built or restored towards a local port or agent; for a blocked target it is discarded and
counted (R341). -/
def Part.queueCpl (p : Part) (lp : Nat) (t : Tlp) (cls domf acct xp sub : Nat) (pool : Pool)
    (chan : Option (Nat × Nat × Nat)) (stored : Option (List Nat) := none) (cfg : Bool := false) : Part :=
  let d := destOf lp
  if (p.blocked d).isSome then (p.countDiscard d).freeCells (stored.getD [])
  else
    let queue := fun (f : Frame) => match stored with
      | some cs => p.queueStored f cs
      | none => p.queueFrame f pool
    queue { Frame.blank with body := .local t, len := t.bytes, kind := 2, cls := cls, dest := d, srcXp := xp, srcSub := sub,
                                       acct := acct, domf := domf, chan := chan, cfg := cfg }

/-- A completion status as SYNTH_CPL carries it (R318), completion timeout being 3. -/
def synthCode : CplStatus → Nat
  | .ur => 1
  | _ => 2

/-- Answers the requester of an entry on behalf of its target: a completion to a PCIe requester with the entry's remaining
Byte Count, an error to a Drone channel, a SYNTH_CPL to the ORIGIN chip from a FAR entry; the Control Function reports the
completion in its AER when the requester is the host (R264, R318, R361). `code` is the status a SYNTH_CPL carries. -/
def Part.answer (p : Part) (e : OrtEnt) (st : CplStatus) (code : Nat) : Part :=
  if e.state = .far then
    let h := { dst := e.source, src := e.target, domain := e.fabricId, cls := e.cls, kind := 5, fseq := 0, ilen := 12,
               hops := p.hopInit, mcf := false, mcg := 0, ortx := e.originIdx, ts := 0, psel := e.psel, poison := false,
               ide := false, ro := false, rsv := 0 : CocoonHdr }
    let esc := match p.frtIdx e.source e.cls with
      | some i => p.frtEsc i
      | none => false
    p.sendUnit { Frame.blank with kind := 2, cls := e.cls, esc := esc, dest := .chip (e.source / 512 % 128),
                                  srcXp := e.target % 512 / 8, srcSub := e.target % 8, domf := e.fabricId } h
      (.synthCpl e.origRid e.origTag code e.lowerAddr e.remain) .cpl
  else
    let p0 := (p.count (.telv e.domain 0) 5 (b2n e.ofDomain)).count .tel 2 1
    match e.chan with
    | some c => p0.chanRead c none true
    | none =>
      let cid := Config.synthCompleter p0.freeCtr
      let p1 := { p0 with freeCtr := p0.freeCtr + 1 }
      let lp := e.source % 512
      let p2 := p1.queueCpl lp (mkCpl e.origRid e.origTag cid st e.remain e.lowerAddr [] 0) e.cls e.fabricId e.domain 19 0 .cpl none none (e.op % 2 == 1)
      if lp < 128 ∧ p2.role lp = 1 then p2.advise e.domain (if st = .ur then 20 else 15) e.hdr else p2

/-- Closes an entry without its final completion and answers for the target: LOCAL and ORIGIN go to QUARANTINE, FAR to FREE
(R262 to R264). -/
def Part.closeFor (p : Part) (i : Nat) (st : CplStatus) : Part :=
  let e := p.oe i
  let p1 := p.answer e st (synthCode st)
  if e.state = .far then p1.freeEnt i else p1.quarantine i

/-! ### Virtual IDs (R245) -/

/-- VRID of a binding: the secondary bus its host wrote into the bridge, and VDEVFN. -/
def Part.vrid (p : Part) (f : Nat) : BitVec 16 :=
  bdf (p.cf (p.tf 0 f 0 10 6) (2 + p.tf 0 f 0 16 7) 0x18 8 8) (p.tf 0 f 0 23 8)

/-! ### Matching completions (R260 to R262) -/

/-- The entry a completion at PCIe port `t` matches, open or in QUARANTINE. -/
def Part.matchPort (p : Part) (t : Nat) (c : Tlp) : Option Nat :=
  (p.ort.find? (fun e =>
    (e.2.state = .localE ∨ e.2.state = .far ∨ (e.2.state = .quarantine ∧ e.2.wasLocal)) ∧ e.2.target = p.gport t ∧
      e.2.tagBound ∧ e.2.tgtTag = c.tag ∧ e.2.tgtRid = c.rid)).map (fun e => e.1)

/-- Whether a completion ends its request: bad status, REMAIN used up, or the one completion of a non-read. -/
def finalCpl (e : OrtEnt) (c : Tlp) : Bool := c.status ≠ .sc || (e.op ≠ 0) || decide (e.remain ≤ c.len)

/-- A completion's Byte Count disagrees with REMAIN (R261). -/
def badCount (e : OrtEnt) (c : Tlp) : Bool := e.op = 0 && c.status = .sc && decide (c.byteCount ≠ e.remain)

/-- A ROUND_TRIP sample for a closed entry of a domain's requester: into its domain's histogram, and into its ingress port's unless a Drone channel
asked (R461, R463). -/
def Part.sampleRt (p : Part) (e : OrtEnt) : Part :=
  let dt := p.ns - e.opened
  if !e.ofDomain then p
  else
    let p1 := p.sampleDom e.domain e.cls dt
    if e.chan.isNone then p1.samplePort 1 (e.source % 512) e.cls dt
    else if p1.bit .tel TEL.HIST_CTL.EN then p1.count .tel 1 1 else p1

/-- Delivers a matched, restored completion towards the requester of a LOCAL or ORIGIN entry and closes the entry when it is
the last (R261); a frame for a Drone channel carries its operand, plus 4 on the last completion. A payload above the MPS of the egress port is discarded, the entry staying open (R256). -/
def Part.deliver (p : Part) (i : Nat) (c : Tlp) (cls xp sub : Nat) (pool : Pool) (stored : Option (List Nat) := none) : Part :=
  let e := p.oe i
  let lp := e.source % 512
  if lp < 128 ∧ p.mps lp < c.data.length then ((p.err .tbl 2).count .tbl 7 1 (some e.fabricId)).freeCells (stored.getD [])
  else
    let fin := finalCpl e c
    let cid := match e.fbt with
      | some f => p.vrid f
      | none => c.id
    let c1 := { c with rid := e.origRid, tag := e.origTag, id := cid }
    let p0 := match e.chan with
      | some k => p.rdUse k.1 e.origTag (cellsOf c1.bytes) false
      | none => p
    let p1 := (p0.count .tbl 1 1 (some e.fabricId)).queueCpl lp c1 cls e.fabricId e.domain xp sub pool
      (e.chan.map (fun k => (k.1, k.2.1 + 4 * b2n fin, k.2.2))) stored (e.op % 2 == 1)
    if fin then (p1.sampleRt e).freeEnt i
    else p1.setOe i { e with remain := e.remain - c.len, lowerAddr := (e.lowerAddr + c.len) % 128,
                             chan := e.chan.map (fun k => (k.1, k.2.1, k.2.2 + c.len)) }

/-- Sends a matched completion of a FAR entry to its ORIGIN chip in a Cocoon unit and closes the entry when it is the last
(R261, R299). -/
def Part.deliverFar (p : Part) (i : Nat) (c : Tlp) (cls t : Nat) (pool : Pool) : Part :=
  let e := p.oe i
  let cid := match e.fbt with
    | some f => p.vrid f
    | none => c.id
  let c1 := { c with rid := e.origRid, tag := e.origTag, id := cid }
  let h := { dst := e.source, src := e.target, domain := e.fabricId, cls := cls, kind := 1, fseq := 0, ilen := c1.bytes,
             hops := p.hopInit, mcf := false, mcg := 0, ortx := e.originIdx, ts := 0, psel := e.psel, poison := false,
             ide := false, ro := c1.ro, rsv := 0 : CocoonHdr }
  let esc := match p.frtIdx e.source cls with
    | some k => p.frtEsc k
    | none => false
  let f := { Frame.blank with kind := 2, cls := cls, esc := esc, dest := .chip (e.source / 512 % 128), srcXp := t / 8,
                              srcSub := t % 8, domf := e.fabricId }
  let p0 := p.count .tbl 1 1 (some e.fabricId)
  let p1 := if (p0.blocked f.dest).isSome then p0 else p0.sendUnit f h (.tlp c1) pool
  if finalCpl e c then p1.freeEnt i else p1.setOe i { e with remain := e.remain - c.len }

/-- Discards an unexpected completion; one that arrived at a PCIe port sets UNEXP_CPL (R262). -/
def Part.unexpected (p : Part) (atPort : Bool) : Part := if atPort then p.err .tbl 1 else p

/-- Discards a late completion, counting a Drone read's in CFN.LATE_CPL as well (R262, R92, R90). -/
def Part.lateCpl (p : Part) (e : OrtEnt) : Part :=
  let p1 := p.count .tbl 2 1 (some e.fabricId)
  if e.chan.isSome then
    ((p1.bumpF (.cfn e.domain) CFN.LATE_CPL.COUNT 1).irq (.cfn e.domain) 1).err (.cfn e.domain) 2
  else p1

end Sys2Proof.Machine
end

