-- ==== Sys2Proof/Machine/Shape.lean ====
section
/-! DEFINITION. Token buckets: shapers (R226 to R229) and ingress policers (R231 to R235), in units of 1/250 B. -/

namespace Sys2Proof.Machine

/-- RATE as it acts: above 1,024,000 acts as 1,024,000 (R236). -/
def rateOf (n : Nat) : Nat := min 1024000 n

/-- BURST in bytes: 0 acts as 1, above 262,144 acts as 262,144 (R236). -/
def burstOf (n : Nat) : Nat := 64 * min 262144 (max 1 n)

/-- The number a target's class queue is kept under: station, target 0-9, class. -/
def queueKey (n t c : Nat) : Nat := (n * 16 + t) * 8 + c

/-- MAXCHG of a target (R223). -/
def Part.maxChg (p : Part) (n t : Nat) : Nat := (if t < 8 then 4352 else 256) + p.getF (.sch n) (SCH.PORT_CFG.OVH.ix t)

/-- The settings a shaper works with since the last refill instant: RATE and BURST as written (R228). -/
def Part.shpOf (p : Part) (k : Nat) : Nat × Nat := Sparse.get p.shpAct (0, 0x100) k

/-- EFF_BURST of a shaper in bytes (R226). -/
def Part.shpEff (p : Part) (k : Nat) : Nat := max (burstOf (p.shpOf k).2) (p.maxChg (k / 128) (k / 8 % 16))

/-- What a bucket nothing has been taken from holds: the effective burst at reset settings. -/
def fullTok : Nat := 16384 * 250

/-- Tokens of a shaper; full while RATE is 0 (R226). -/
def Part.shpTok (p : Part) (k : Nat) : Nat :=
  if (p.shpOf k).1 = 0 then 250 * p.shpEff k else Sparse.get p.tok fullTok k

/-- Takes a charge of `c` bytes from a shaper (R226). -/
def Part.takeTok (p : Part) (k c : Nat) : Part :=
  if (p.shpOf k).1 = 0 then p else { p with tok := Sparse.set p.tok fullTok k (p.shpTok k - 250 * c) }

/-- The refill of one shaper: its written settings take effect, RATE is added, the cap applied (R226, R228). -/
def Part.refillShp (p : Part) (k : Nat) : Part :=
  let f := fun (g : Fld) => p.getF (.sch (k / 128)) (g.ix2 (k / 8 % 16) (k % 8))
  let had := p.shpTok k
  let p1 := { p with shpAct := Sparse.set p.shpAct (0, 0x100) k (rateOf (f SCH.SHP_CFG.RATE), f SCH.SHP_CFG.BURST) }
  { p1 with tok := Sparse.set p1.tok fullTok k (if (p1.shpOf k).1 = 0 then 250 * p1.shpEff k
      else min (250 * p1.shpEff k) (had + (p1.shpOf k).1)) }

/-- A lower OVH lowers MAXCHG, and with it the burst of a bucket: it never holds more (R223, R227). -/
def Part.capShp (p : Part) (n t : Nat) : Part :=
  (List.range 8).foldl (fun q c =>
    let k := queueKey n t c
    let v := Sparse.get q.tok fullTok k
    if 250 * q.shpEff k < v then { q with tok := Sparse.set q.tok fullTok k (250 * q.shpEff k) } else q) p

/-- Fills every shaper of a target to its effective burst (R225). -/
def Part.fillShp (p : Part) (n t : Nat) : Part :=
  (List.range 8).foldl (fun q c =>
    let k := queueKey n t c
    { q with tok := Sparse.set q.tok fullTok k (250 * q.shpEff k) }) p

/-! ### Policers -/

/-- The number a policer is kept under: station, account, 0 lossless or 1 droppable. -/
def polKey (n a kind : Nat) : Nat := (n * 64 + a) * 2 + kind

/-- A policer's settings in force. -/
def Part.polOf (p : Part) (k : Nat) : Nat × Nat := Sparse.get p.polAct (0, 0x100) k

/-- Effective burst of a policer in bytes (R231). -/
def Part.polEff (p : Part) (k : Nat) : Nat := max (burstOf (p.polOf k).2) (if k % 2 = 0 then 4120 else 256)

/-- Tokens of a policer. -/
def Part.polTokens (p : Part) (k : Nat) : Nat := if (p.polOf k).1 = 0 then 250 * p.polEff k else Sparse.get p.polTok fullTok k

/-- Charges a policer; one that is off charges nothing (R231). -/
def Part.polCharge (p : Part) (k c : Nat) : Part :=
  if (p.polOf k).1 = 0 then p else { p with polTok := Sparse.set p.polTok fullTok k (p.polTokens k - 250 * c) }

/-- Where the debt of an account at a ROLE 3 port is kept (R234). -/
def debtKey (t a : Nat) : Nat := t * 64 + a

/-- Debt of an account at a port, in 1/250 B. -/
def Part.debtOf (p : Part) (t a : Nat) : Nat := Sparse.get p.debt 0 (debtKey t a)

/-- Any account has debt at a port. -/
def Part.portDebt (p : Part) (t : Nat) : Bool := (List.range 64).any (fun a => p.debtOf t a != 0)

/-- An account has debt at a port of a station. -/
def Part.stnDebt (p : Part) (n a : Nat) : Bool := (List.range 8).any (fun i => p.debtOf (8 * n + i) a != 0)

/-- Polices a TLP of `bytes` data at a ROLE 3 port (R234). -/
def Part.policeTlp (p : Part) (t a bytes : Nat) : Part :=
  let k := polKey (t / 8) a 0
  let cost := 250 * (24 + 16 * ((bytes + 15) / 16))
  if (p.polOf k).1 = 0 then p
  else if cost ≤ p.polTokens k then p.polCharge k (cost / 250)
  else
    let short := cost - p.polTokens k
    let p1 := { p with polTok := Sparse.set p.polTok fullTok k 0, debt := Sparse.set p.debt 0 (debtKey t a) (p.debtOf t a + short) }
    if p.debtOf t a = 0 then (p1.count (.sch (t / 8)) 7 1).err (.sch (t / 8)) 1 else p1

/-- The debts of an account at the ports of a station are paid before tokens are added: what is left of the refill. -/
def Part.payDebts (p : Part) (ts : List Nat) (a have_ : Nat) : Part × Nat :=
  match ts with
  | [] => (p, have_)
  | t :: r =>
    let pay := min have_ (p.debtOf t a)
    Part.payDebts { p with debt := Sparse.set p.debt 0 (debtKey t a) (p.debtOf t a - pay) } r a (have_ - pay)

/-- An account owes nothing at the ports of a station. -/
def Part.clearDebts (p : Part) (n a : Nat) : Part :=
  { p with debt := p.debt.filter (fun e => !(e.1 % 64 == a && e.1 / 64 / 8 == n)) }

/-- The refill of one policer (R231, R234). The rules do not say what becomes of a debt when the policer is turned off: as a policer that is off
acts on nothing, the debt is given up (log entry 93, DESIGN CHOICE). -/
def Part.refillPol (p : Part) (k : Nat) : Part :=
  let n := k / 128
  let a := k / 2 % 64
  let g := if k % 2 = 0 then (SCH.POL_LL.RATE, SCH.POL_LL.BURST) else (SCH.POL_DROP.RATE, SCH.POL_DROP.BURST)
  let had := p.polTokens k
  let cfg := (rateOf (p.getF (.sch n) (g.1.ix a)), p.getF (.sch n) (g.2.ix a))
  let p1 := { p with polAct := Sparse.set p.polAct (0, 0x100) k cfg }
  let x := if k % 2 = 0 ∧ (p1.polOf k).1 = 0 then (p1.clearDebts n a, 0) else if k % 2 = 0 then p1.payDebts ((List.range 8).map (fun i => 8 * n + i)) a (p1.polOf k).1 else (p1, (p1.polOf k).1)
  { x.1 with polTok := Sparse.set x.1.polTok fullTok k (if (p1.polOf k).1 = 0 then 250 * p1.polEff k
      else min (250 * p1.polEff k) (had + x.2)) }

/-- A written SCH register clamps (R236). A CLASS_LIM below 18 written at t = 8 or 9, where the field is ignored, counts too: the rules do not say
(log entry 93, DESIGN CHOICE). -/
def schClamps (o : Nat) (v : BitVec 32) : Bool :=
  if 0x200 ≤ o ∧ o < 0x340 then v.toNat % 2 ^ 14 == 0 || decide (v.toNat / 2 ^ 16 % 2 ^ 12 < 18)
  else if (0x400 ≤ o ∧ o < 0x680) ∨ 0xC00 ≤ o then
    (if o % 8 = 0 then decide (1024000 < v.toNat % 2 ^ 20) else decide (262144 < v.toNat % 2 ^ 19))
  else false

end Sys2Proof.Machine
end

