-- ==== Sys2Proof/Machine/Modes.lean ====
section
/-! DEFINITION. The twelve modes: their codes, what a reset keeps, the legal transitions of R22 and the arbitration of
triggers (R20 to R29, R364, R446). -/

namespace Sys2Proof.Machine

/-- The mode codes of R21. -/
def Mode.code : Mode → Nat
  | .off => 0 | .sentinel => 1 | .standby => 2 | .boot => 3 | .transparent => 4 | .partitioned => 5
  | .fabricMember => 6 | .fabricRoot => 7 | .degraded => 8 | .fenced => 9 | .maintenance => 10 | .test => 11

/-- The four role modes. -/
def Mode.isRole : Mode → Bool
  | .transparent | .partitioned | .fabricMember | .fabricRoot => true
  | _ => false

/-- The fabric roles. -/
def Mode.isFabric : Mode → Bool
  | .fabricMember | .fabricRoot => true
  | _ => false

/-- The core runs in every mode but OFF, SENTINEL and STANDBY. -/
def Mode.core : Mode → Bool
  | .off | .sentinel | .standby => false
  | _ => true

/-- The rails are on in every mode but OFF and SENTINEL. -/
def Mode.rails : Mode → Bool
  | .off | .sentinel => false
  | _ => true

/-! ### Targets of the regulator port (R434, R435, R439) -/

/-- Safe voltage of a channel in mV (R434). -/
def safeMv (k : Nat) : Nat := [850, 800, 900, 1200].getD k 850

/-- VSTEP_MV: above 50 acts as 50. -/
def Part.vstep (p : Part) : Nat := min 50 (p.getF .pwr PWR.AVS_CFG.VSTEP_MV)

/-- A channel is SILENT. -/
def Part.silent (p : Part) (k : Nat) : Bool := p.getF .pwr (PWR.AVS_STAT.STATE.ix k) == 2

/-- Pre-announcement is skipped: VSTEP_MV is 0, channel 0 is SILENT or FORCE_SAFE is 1 (R439). -/
def Part.noAnnounce (p : Part) : Bool := p.vstep == 0 || p.silent 0 || p.bit .pwr PWR.AVS_CFG.FORCE_SAFE

/-- The core voltage with or without the offset of a load step (R435). -/
def Part.coreMv (p : Part) (hold : Bool) : Nat :=
  if p.bit .pwr PWR.AVS_CFG.FORCE_SAFE ∨ p.silent 0 then 850
  else min 850 (max 650 (650 + Config.vfuseAbove % 201 + (if p.ffy.cold then 15 else 0) + (if hold then p.vstep else 0)))

/-- A pre-announcement on channel 0 goes ahead of other requests, merged with one that still waits (R370, R439). -/
def Part.preAnnounce (p : Part) (us : List LoadStep) : Part :=
  let mv := p.coreMv true
  let waits := p.ffy.avsq.any (fun r => r.pre)
  let merged := fun (r : AvsReq) => if r.pre then { r with mv := some (max (r.mv.getD 0) mv), steps := r.steps ++ us } else r
  let l := if waits then p.ffy.avsq.map merged else AvsReq.mk 0 (some mv) 0 true us :: p.ffy.avsq
  let p1 := { p with ffy := { p.ffy with avsq := l } }.count .pwr 2 1
  if waits then p1.count .pwr 3 1 else p1

/-! ### What resets keep (R446) -/

/-- Register words of the pages owned by AON, which a warm reset keeps (R446, R488) (log entry 26, DEDUCED). -/
def aonWords (r : Sparse (BitVec 32)) : Sparse (BitVec 32) :=
  r.filter (fun e => (0x1000 ≤ e.1 ∧ e.1 < 0x4000) ∨ (0x5000 ≤ e.1 ∧ e.1 < 0x6000))

/-- Clears PAGE_CTL.LOCK of a page (R478) (log entry 26, DEDUCED). -/
def Part.unlock (p : Part) (pg : Page) : Part := p.setF pg HDR.PAGE_CTL.LOCK 0

/-- Present ports of an enabled station in PCIe or mixed configuration, by PORT_W in effect (R34, R36, R37). -/
def Part.present (p : Part) (t : Nat) : Bool :=
  let n := t / 8
  p.getF .glb (GLB.STN_STAT.MODE_ACT.ix n) != 1 && nbit (p.getF .pwr PWR.UNIT_STAT.STN) n &&
    p.getF .glb (GLB.STN_STAT.PORT_W_ACT.ix n) / 8 ^ (t % 8) % 8 != 0

/-- STATE of a Smiwaven link (R143). -/
def Part.linkState (p : Part) (l : Nat) : Nat := p.getF (.smw l) SMW.LINK_STAT.STATE

/-- When the part leaves a role mode, Firefly notes the enabled PCIe ports and the links in SLEEP, whose lanes it watches afterwards (R425). -/
def Part.watched (p : Part) : Ffy :=
  if p.md.mode.isRole then { p.ffy with watch := (List.range 128).filter p.present, watchL := (List.range 32).filter (fun l => p.linkState l == 7) }
  else p.ffy

/-- The core logic resets: all but Firefly, FFY, PWR, CLK, GPIO, runtime repairs, the flash, physical time and the record
of what was sent. A reset station or plane is off (GLB, XBP), whatever its power unit's bit said (log entry 26, DEDUCED). -/
def Part.coreReset (p : Part) : Part :=
  let q := { Part.fresh with
    regs := aonWords p.regs, now := p.now, out := p.out, freeCtr := p.freeCtr, md := p.md, ffy := p.watched, flash := p.flash,
    spare := p.spare, boot := { Boot.reset with restarts := p.boot.restarts } }
  let q1 := ((q.setF .pwr PWR.UNIT_STAT.STN 0).setF .pwr PWR.UNIT_STAT.PLANE 0).setF .clk CLK.PLL_STAT.STN_LOCK 0
  ((((q1.setF .ffy FFY.PERST_ARM.ARM 1).unlock .pwr).unlock .clk).unlock .ffy).unlock .gpio

/-- Removes the rails (R426, R448): the core logic is lost, and with it runtime repairs and every PLL. -/
def Part.railsOff (p : Part) : Part :=
  let arm := p.getF .ffy FFY.PERST_ARM.ARM
  let q := (((p.coreReset.setF .pwr PWR.RAIL_STAT.PG 0).setF .pwr PWR.UNIT_STAT.QTR 0).setF .pwr PWR.UNIT_STAT.COLONY 0)
  let q1 := ((q.setF .pwr PWR.UNIT_STAT.DRN 0).setF .pwr PWR.UNIT_STAT.ANT 0).wr (Page.clk.base + 0x100) 0
  let q2 := (List.range 8).foldl (fun r k => r.setF .ffy (FFY.TEMP.VALID.ix k) 0) q1
  { q2.setF .ffy FFY.PERST_ARM.ARM arm with
      spare := [], ffy := { p.watched with ready := [], avs := none, avsq := [], hold := none, stretch := 0 } }

/-- POR_N or loss of VDD_AON: everything but the flash and the OTP (log entry 7, DESIGN CHOICE). -/
def Part.powerOff (p : Part) : Part :=
  { Part.fresh with now := p.now, out := p.out, freeCtr := p.freeCtr, flash := p.flash,
                    ffy := { Ffy.reset with chipRst := p.ffy.chipRst, perst := p.ffy.perst },
                    md := { Part.fresh.md with mode := .off } }

/-! ### Entering a mode -/

/-- Sets REQ_REJ with a code (R27, R28). -/
def Part.rejectMode (p : Part) (code : Nat) : Part :=
  ((({ p with md := { p.md with reqRej := true, rejCode := code } }).count .glb 3 1).err .glb 2)

/-- Enters a mode (GLB.MODE_STAT): PREV_MODE, LAST_CAUSE, the role record of R20, the intent of R29, the interrupt and the
counters (log entry 15, DEDUCED). -/
def Part.enter (p : Part) (m : Mode) (cause : Nat) : Part :=
  let md := { p.md with
    mode := m, prev := p.md.mode, lastCause := cause,
    role := if m.isRole then some m else if m = .degraded ∨ m = .fenced ∨ m = .standby then p.md.role else none,
    standbyRoot := p.md.standbyRoot && (m == .fabricMember || m == .degraded || m == .fenced),
    colonyUp := if m.core then p.md.colonyUp && m != .boot else (p.md.colonyUp && m == .standby),
    lost := if m = .degraded ∨ m = .fenced then p.md.lost else [],
    sentIntent := p.md.sentIntent && (m == .standby || m == .transparent || m == .partitioned) }
  let ff := if m = .standby ∨ m = .degraded ∨ m = .fenced then p.watched else p.ffy
  let since := if m = .standby then some p.now else none
  let p1 := (({ p with md := md, ffy := { ff with idleSince := since } }).count .glb 2 1).irq .glb 1
  match m with
  | .degraded => (p1.count .glb 5 1).err .glb 5
  | .fenced => (p1.count .glb 6 1).err .glb 6
  | _ => p1

/-- LAST_CAUSE of a wake by its source (GLB.MODE_STAT.LAST_CAUSE, FFY.WAKE_LAST.SRC) (log entry 15, DEDUCED). -/
def wakeCause (src : Nat) : Nat :=
  match src with
  | 1 => 1 | 2 => 1 | 3 => 2 | 4 => 3 | 5 => 0xD | 7 => 0xF | _ => 0

/-! ### The STANDBY acceptance condition (R518) -/

/-- A port that does not stand in the way of STANDBY: in L1.2, or link-down in Detect or Disabled. -/
def Part.portQuiet (p : Part) (t : Nat) : Bool :=
  match (p.pt t).ltssm with
  | .l12 | .detect | .disabled => true
  | _ => false

/-- A link that does not stand in the way of STANDBY: DISABLED, SLEEP, or CLOCK_WAIT without a forwarded clock. -/
def Part.linkQuiet (p : Part) (l : Nat) : Bool :=
  let s := p.linkState l
  let clk := if l % 2 = 0 then p.getF (.serdes (l / 2)) SERDES.CLK_STAT.CLKA_PRESENT
    else p.getF (.serdes (l / 2)) SERDES.CLK_STAT.CLKB_PRESENT
  s == 0 || s == 7 || (s == 1 && clk == 0)

/-- The STANDBY acceptance condition of R518. -/
def Part.standbyOk (p : Part) : Bool :=
  (List.range 128).all (fun t => !p.present t || p.portQuiet t) && (List.range 32).all p.linkQuiet &&
    p.ortOpen == 0 && p.slotsUsed == 0

/-- Firefly times the acceptance condition in TRANSPARENT: a break restarts the count (R427) (log entry 50, DEDUCED). -/
def Part.idleWatch (p : Part) : Part :=
  if p.md.mode ≠ .transparent then p
  else
    let since := match p.ffy.idleSince with
      | some x => some x
      | none => some p.now
    { p with ffy := { p.ffy with idleSince := if p.standbyOk then since else none } }

/-! ### Triggers (R27) -/

/-- Precedence of a trigger, 2 highest (R27; a power cycle ranks as a warm device reset, R448; the idle policy with MODE_REQ,
R427). R22 lists MODE_REQ BOOT among the warm device resets, so it ranks with them and not with the other requests (log entry 23, DEDUCED). -/
def Trigger.rank : Trigger → Nat
  | .trip => 2 | .warm _ => 3 | .powerCycle => 3 | .modeReq .boot => 3 | .fenced _ => 4 | .degraded _ => 5 | .wake _ _ => 6 | .role _ _ => 7
  | .modeReq _ => 8 | .idlePolicy _ => 8

/-- Records a wake in FFY.WAKE_LAST. -/
def Part.wakeLast (p : Part) (src idx : Nat) : Part :=
  (((p.setF .ffy FFY.WAKE_LAST.SRC src).setF .ffy FFY.WAKE_LAST.INDEX idx).setF .ffy FFY.WAKE_LAST.RET_FAIL 0)

/-- Changes the recorded role; in a role mode the mode with it (R20). -/
def Part.toRole (p : Part) (goal : Mode) (cause : Nat) : Part :=
  if p.md.mode.isRole then p.enter goal cause
  else if p.md.mode = .degraded ∨ p.md.mode = .fenced then { p with md := { p.md with role := some goal } } else p

/-- Starts STANDBY entry (R428): the interrupts to Chitin and to a running Colony go out, and channel 0 is raised for the core clock's start on
the way back (R439). -/
def Part.startStandby (p : Part) (g : Trigger) : Part :=
  let p0 := if p.noAnnounce then p else p.preAnnounce []
  let p1 := { p0 with md := { p.md with going := some g, from_ := p.md.mode } }
  let p2 := p1.emit (.colonyIrq 0)
  if p.md.colonyUp then p2.emit (.colonyIrq 1) else p2

/-- Ends a transition and records the trip that cut it. -/
def Part.settleGoing (p : Part) : Part := { p with md := { p.md with going := none } }

/-- Acts on a trigger while no transition is in progress. `waited` tells that it waited, so a MODE_REQ that is no longer legal
is dropped with code 4 (R27) (log entries 15 and 23 and 50, DEDUCED). -/
def Part.act (p : Part) (t : Trigger) (waited : Bool) : Part :=
  let m := p.md.mode
  match t with
  | .trip => if m.rails ∨ p.getF .pwr PWR.RAIL_STAT.PG ≠ 0 then (p.railsOff.enter .sentinel 5).settleGoing else p
  | .warm c => if m.core ∨ m = .standby then (p.coreReset.enter .boot c).settleGoing else p
  | .powerCycle =>
    if m.rails then
      let q := p.railsOff.enter .sentinel 0xF
      { (q.wakeLast 7 0) with md := { q.md with going := some .powerCycle } }
    else p
  | .fenced c => if m.isRole ∨ m = .degraded then (p.setF .glb GLB.FENCE_STAT.CAUSE c).enter .fenced 6 else p
  | .degraded k =>
    let q := if m.isRole ∨ m = .degraded ∨ m = .fenced then { p with md := { p.md with lost := p.md.lost ++ [k] } } else p
    if m.isRole then q.enter .degraded (if k = 5 then 0xC else 6) else q
  | .wake s i =>
    if m = .sentinel ∨ m = .standby then
      let q := p.wakeLast s i
      { q with md := { q.md with going := some (.wake s i) } }
    else p
  | .role goal c => if m.isRole ∨ m = .degraded ∨ m = .fenced then p.toRole goal c else p
  | .modeReq .standby =>
    if m = .transparent ∨ m = .partitioned then
      if p.standbyOk then p.startStandby t else p.rejectMode (if waited then 4 else 5)
    else p.rejectMode (if waited then 4 else 1)
  | .modeReq .sentinel =>
    if m = .standby then (p.railsOff.enter .sentinel 8).settleGoing
    else p.rejectMode (if waited then 4 else 1)
  | .modeReq .boot => if m.core then (p.coreReset.enter .boot 4).settleGoing else p.rejectMode 4
  | .modeReq .fabricMember =>
    if m = .partitioned ∨ m = .fabricRoot then p.enter .fabricMember 8 else p.rejectMode (if waited then 4 else 1)
  | .modeReq .fabricRoot =>
    if m = .partitioned ∨ m = .fabricMember then p.enter .fabricRoot 8 else p.rejectMode (if waited then 4 else 1)
  | .modeReq _ => p.rejectMode (if waited then 4 else 1)
  | .idlePolicy .standby => if m = .transparent ∧ p.standbyOk then p.startStandby t else p
  | .idlePolicy _ => if m = .standby then (p.railsOff.enter .sentinel 8).settleGoing else p

/-- A transition in progress is abandoned; an abandoned MODE_REQ sets REQ_REJ with code 4 (R27). -/
def Part.abandon (p : Part) : Part :=
  let p1 := p.settleGoing
  match p.md.going with
  | some (.modeReq _) => p1.rejectMode 4
  | _ => p1

/-- STANDBY entry is in progress (R428). -/
def Part.entering (p : Part) : Bool :=
  p.md.going == some (.modeReq .standby) || p.md.going == some (.idlePolicy .standby)

/-- The trigger has a transition of R22 from the mode the part is in, or is a wake that ends a STANDBY entry (R427). -/
def Part.legalNow (p : Part) (t : Trigger) : Bool :=
  let m := p.md.mode
  match t with
  | .trip => true
  | .warm _ => m.core || m == .standby
  | .modeReq .boot => m.core
  | .powerCycle => m.rails
  | .fenced _ => m.isRole || m == .degraded
  | .degraded _ => m.isRole
  | .wake _ _ => m == .sentinel || m == .standby || p.entering
  | .role _ _ => m.isRole || m == .degraded || m == .fenced
  | .modeReq _ => true
  | .idlePolicy _ => true

/-- Takes a trigger: acts on it, abandons for it a transition of lower precedence, or lets it wait (R27). A trigger of higher precedence that R22
gives no transition from the present mode abandons nothing: it waits for the new mode (log entry 25, DEDUCED). -/
def Part.take (p : Part) (t : Trigger) (waited : Bool) : Part :=
  match p.md.going with
  | none => p.act t waited
  | some g =>
    if t.rank < g.rank ∧ p.legalNow t = true then p.abandon.act t waited
    else { p with md := { p.md with waiting := p.md.waiting ++ [t] } }

/-- The waiting triggers, highest precedence first. -/
def byRank (l : List Trigger) : List Trigger :=
  (List.range 9).flatMap (fun r => l.filter (fun t => t.rank = r))

/-- Evaluates the waiting triggers in the new mode, once no transition is in progress. -/
def Part.wakeWaiting (p : Part) : Part :=
  match p.md.going with
  | some _ => p
  | none => (byRank p.md.waiting).foldl (fun q t => q.take t true) { p with md := { p.md with waiting := [] } }

/-- A trigger arrives (R27) (log entry 25, DEDUCED). -/
def Part.trigger (p : Part) (t : Trigger) : Part := (p.take t false).wakeWaiting

/-- The mode of a code of R21. -/
def Mode.ofCode (n : Nat) : Mode :=
  match n with
  | 1 => .sentinel | 2 => .standby | 3 => .boot | 4 => .transparent | 5 => .partitioned | 6 => .fabricMember | 7 => .fabricRoot
  | 8 => .degraded | 9 => .fenced | 10 => .maintenance | 11 => .test | _ => .off

/-- A MODE_REQ is submitted (R28): KEY 0x5A, fabric roles from Hive only, MAINTENANCE and TEST by no request. A SENTINEL request in TRANSPARENT or
PARTITIONED becomes the intent at once; a request with another target than STANDBY replaces an intent, whether it is then rejected or not (R29; a
wrong KEY submits nothing: log entry 50, DEDUCED). -/
def Part.submitMode (p : Part) (req : Requester) (key target : Nat) : Part :=
  let goal := Mode.ofCode target
  if key ≠ 0x5A then p.rejectMode 2
  else if goal = .standby then p.trigger (.modeReq .standby)
  else if goal = .sentinel ∧ (p.md.mode = .transparent ∨ p.md.mode = .partitioned) then { p with md := { p.md with sentIntent := true } }
  else
    let q : Part := { p with md := { p.md with sentIntent := false } }
    if goal = .maintenance ∨ goal = .test ∨ (goal.isFabric = true ∧ req ≠ .colony) then q.rejectMode 3
    else if goal = .sentinel ∨ goal = .boot ∨ goal.isFabric = true then q.trigger (.modeReq goal)
    else q.rejectMode 1

/-- The transition in progress completes; the triggers that waited are evaluated in the new mode. -/
def Part.endTransition (p : Part) : Part := p.settleGoing.wakeWaiting

end Sys2Proof.Machine
end

