-- ==== Sys2Proof/Machine/Flags.lean ====
section
/-! DEFINITION. Status the part derives from what it holds: clocks and settling (R17, R19), summaries (R334, R479), and the
fields of each page that a read computes (R14). -/

namespace Sys2Proof.Machine

/-! ### Mailboxes (R117, R118) -/

/-- The bytes of MB_DATA beyond a response are undefined: free values (CFMB.MB_DATA). -/
def Part.mbForget (p : Part) (d len : Nat) : Part :=
  (List.range 512).foldl (fun (q : Part) w =>
    let a := (Page.cfmb d).base + 0x800 + 4 * w
    if 4 * w + 4 ≤ len then q
    else
      let x := q.free32
      let keep := BitVec.ofNat 32 (2 ^ (8 * (len - 4 * w)) - 1)
      x.1.wr a ((q.rd a &&& keep) ||| (x.2 &&& ~~~keep))) p

/-- The part completes a mailbox command with a result and raises the mailbox interrupt (R117) (log entry 18, DESIGN CHOICE). -/
def Part.mbDone (p : Part) (d result len : Nat) : Part :=
  let pg := Page.cfmb d
  ((((p.mbForget d len).setF pg CFMB.MB_STAT.STATE 2).setF pg CFMB.MB_STAT.RESULT result).setF pg CFMB.MB_STAT.RSP_LEN len).irq pg 1

/-- A mailbox command is PENDING. -/
def Part.mbPending (p : Part) (d : Nat) : Bool := p.getF (.cfmb d) CFMB.MB_STAT.STATE == 1

/-- Colony runs and answers the watchdog, or no longer does: COLONY_UP changes, and with it SVC_CHG in the CFN page of every domain (R92); as it
falls, every pending mailbox command completes with BUSY (R118). -/
def Part.setColonyUp (p : Part) (b : Bool) : Part :=
  if p.md.colonyUp = b then p
  else
    let p1 := (List.range 64).foldl (fun (q : Part) d => q.irq (.cfn d) 2) { p with md := { p.md with colonyUp := b } }
    if b then p1 else (List.range 64).foldl (fun (q : Part) d => if q.mbPending d then q.mbDone d 1 0 else q) p1

/-! ### Clocks and header -/

/-- The owning clock of a page is stopped: the LINK clock of a station that is not powered (R19). -/
def Part.clkStopped (p : Part) (pg : Page) : Bool :=
  match pg with
  | .port t => !nbit (p.getF .pwr PWR.UNIT_STAT.STN) (t / 8)
  | .smw l => !nbit (p.getF .pwr PWR.UNIT_STAT.STN) (l / 2)
  | .serdes n => !nbit (p.getF .pwr PWR.UNIT_STAT.STN) n
  | _ => false

/-- PAGE_CTL.EN: the page's block is powered and its owning clock runs (R10). -/
def Part.pageEn (p : Part) (pg : Page) : Bool :=
  match pg with
  | .port t => nbit (p.getF .pwr PWR.UNIT_STAT.STN) (t / 8)
  | .smw l => nbit (p.getF .pwr PWR.UNIT_STAT.STN) (l / 2)
  | .serdes n => nbit (p.getF .pwr PWR.UNIT_STAT.STN) n
  | .sch n => nbit (p.getF .pwr PWR.UNIT_STAT.STN) n
  | .xbp q => nbit (p.getF .pwr PWR.UNIT_STAT.PLANE) q
  | .drn d => nbit (p.getF .pwr PWR.UNIT_STAT.DRN) d
  | .ant => p.bit .pwr PWR.UNIT_STAT.ANT
  | _ => true

/-- PAGE_STAT.SETTLED: no write towards the page is on its way, or its clock is stopped (R17, R19). -/
def Part.settled (p : Part) (pg : Page) : Bool :=
  p.clkStopped pg || p.posted.all (fun w => w.page ≠ pg.base || w.words.all (fun x => x.1 == 8))

/-- PAGE_STAT.SRST_BUSY: the soft reset of the page's controller is still crossing (R476, R478). -/
def Part.srstBusy (p : Part) (pg : Page) : Bool :=
  p.posted.any (fun w => w.page == pg.base && w.words.any (fun x => x.1 == 8))

/-- Owner code of a GPIO pin (R367): 6 and 7 act as 0 (log entry 24, DEDUCED). -/
def Part.pinOwner (p : Part) (k : Nat) : Nat :=
  let c := (if k < 8 then p.getF .gpio GPIO.OWNER.OWNER_LO else p.getF .gpio GPIO.OWNER.OWNER_HI) / 16 ^ (k % 8) % 16
  if 5 < c then 0 else c

/-- A page's unmasked error (R334). -/
def Part.pageErr (p : Part) (pg : Page) : Bool := (p.rd (pg.base + 0x020) &&& ~~~(p.rd (pg.base + 0x024))) != 0

/-- A page's unmasked urgent error. -/
def Part.pageUrgent (p : Part) (pg : Page) : Bool :=
  (p.rd (pg.base + 0x020) &&& ~~~(p.rd (pg.base + 0x024)) &&& p.rd (pg.base + 0x028)) != 0

/-- A page's interrupt (R479). -/
def Part.pageIrq (p : Part) (pg : Page) : Bool := (p.rd (pg.base + 0x010) &&& p.rd (pg.base + 0x014)) != 0

/-- The pages that bit `i` of GLB.ERR_SUM and GLB.IRQ_SUM summarises. -/
def sumPages (i : Nat) : List Page :=
  if i < 16 then (List.range 8).map (fun k => Page.port (8 * i + k)) ++ [.smw (2 * i), .smw (2 * i + 1), .serdes i, .sch i]
  else match i with
    | 16 => [.xbp 0, .xbp 1, .xbp 2, .xbp 3]
    | 17 => [.buf] | 18 => [.ord] | 19 => [.tbl] | 20 => [.fab] | 21 => [.ccn] | 22 => [.drn 0, .drn 1] | 23 => [.tel, .ant]
    | _ => [.glb, .pwr, .clk, .ffy, .otpv, .gpio, .i3c, .spi, .mbx]

/-- The word with bit `i` set to the i-th Boolean. -/
def bitsOf (l : List Bool) : Nat := l.foldr (fun b n => b2n b + 2 * n) 0

/-- GLB.ERR_SUM. -/
def Part.errSum (p : Part) : BitVec 32 :=
  BitVec.ofNat 32 (bitsOf ((List.range 25).map (fun i => (sumPages i).any p.pageErr))
    + 2 ^ 25 * b2n ((List.range 25).any (fun i => (sumPages i).any p.pageUrgent)))

/-- GLB.IRQ_SUM. -/
def Part.irqSum (p : Part) : BitVec 32 := BitVec.ofNat 32 (bitsOf ((List.range 25).map (fun i => (sumPages i).any p.pageIrq)))

/-! ### The sources of a domain's Control Function (R91, R94) -/

/-- The view pages of a domain that have a source, by their number (R91). -/
def sourcePages (d : Nat) : List (Nat × Page) :=
  [(0, .cfn d), (1, .cfmb d), (2, .ordv d), (4, .telv d 0), (5, .telv d 1), (6, .telv d 2), (7, .telv d 3)]
    ++ (List.range 256).map (fun k => (256 + k, .drc d k))

/-- The pages whose source is 1 (R91). -/
def Part.sourcesOn (p : Part) (d : Nat) : List Nat := ((sourcePages d).filter (fun x => p.pageIrq x.2)).map (fun x => x.1)

/-- CF_WIRE (R91). -/
def Part.cfWire (p : Part) (d : Nat) : Bool := !(p.sourcesOn d).isEmpty

/-- The Control Function is in FLR (R100) (log entry 35, DEDUCED). -/
def Part.inFlr (p : Part) (d : Nat) : Bool := Sparse.get p.cfFlr false d

/-- CF_CONTRIB (R94). -/
def Part.cfContrib (p : Part) (d : Nat) : Bool := p.cfWire d && p.cf d 1 0x04 10 1 == 0 && p.cf d 1 0x50 31 1 == 0 && !p.inFlr d

/-! ### Status the part derives -/

/-- GLB.MODE_STAT. -/
def Part.modeStat (p : Part) : BitVec 32 :=
  let m := p.md
  let role := match m.role with
    | none => 0
    | some r => r.code
  BitVec.ofNat 32 (m.mode.code + 16 * role + 256 * m.prev.code + 4096 * b2n m.going.isSome + 2 ^ 13 * b2n m.colonyUp
    + 2 ^ 14 * b2n m.standbyRoot + 2 ^ 15 * b2n m.reqRej + 2 ^ 16 * m.rejCode + 2 ^ 20 * m.lastCause + 2 ^ 24 * b2n m.sentIntent)

/-- The four planes are ACTIVE (STATE 3 of XBP.PLANE_STAT). -/
def Part.planesAll (p : Part) : Bool := (List.range 4).all (fun q => p.getF (.xbp q) XBP.PLANE_STAT.STATE == 3)

/-- STATE of a plane: 0 OFF, 1 SELFTEST, 2 JOINING, 3 ACTIVE, 4 LOST. -/
def Part.planeState (p : Part) (q : Nat) : Nat := p.getF (.xbp q) XBP.PLANE_STAT.STATE

/-- The enabled-plane list L of R168. -/
def Part.planes (p : Part) : List Nat := (List.range 4).filter (fun q => p.planeState q == 3)

/-- The plane that serves the multicast VOQs of home plane `h` (R163, R183, R185): itself, or the next enabled plane above it,
wrapping; also while a returned plane has not yet taken its VOQs back. -/
def Part.servePlane (p : Part) (h : Nat) : Option Nat :=
  let up := ([h, h + 1, h + 2, h + 3].map (· % 4)).filter (fun q => p.planes.contains q)
  match up.find? (fun q => !(q == h && p.joining.contains (h, 0))) with
  | some q => some q
  | none => up.head?

/-- Every link with TWIN_EN has TWIN_ACTIVE. -/
def Part.pairsAll (p : Part) : Bool :=
  (List.range 32).all (fun l => !p.bit (.smw l) SMW.LINK_CTL.TWIN_EN || p.bit (.smw l) SMW.LINK_STAT.TWIN_ACTIVE)

/-- A standby root exists, or the recorded role is no fabric role. -/
def Part.standbyHeld (p : Part) : Bool :=
  match p.md.role with
  | some r => !r.isFabric || p.bit .fab FAB.ROOT_STAT.STANDBY_VALID
  | none => true

/-- No AVS channel is SILENT. -/
def Part.avsAll (p : Part) : Bool := (List.range 4).all (fun k => p.getF .pwr (PWR.AVS_STAT.STATE.ix k) != 2)

/-- A sub-array has no spare row left (R353). -/
def Part.exhausted (p : Part) : Bool := p.spare.any (fun e => decide (4 ≤ e.2))

/-- GLB.REPAIR_STAT: rows repaired since the last SENTINEL or OFF (R353). -/
def Part.repairStat (p : Part) : BitVec 32 :=
  BitVec.ofNat 32 (min 65535 (p.spare.map (fun e => e.2)).sum + 65536 * b2n p.exhausted)

/-- TRANSPARENT on its minimal set (R31): it serves with XBP0 as the only enabled plane and quarter 0 as the only enabled quarter. -/
def Part.minimalSet (p : Part) : Bool :=
  p.md.role == some .transparent && p.planes == [0] && p.getF .pwr PWR.UNIT_STAT.QTR == 1

/-- GLB.SFG_STAT: the kinds of redundancy present, and READY when all are, in a role mode and not on the minimal set (R31, R360; log entry 25, DEDUCED). -/
def Part.sfgStat (p : Part) : BitVec 32 :=
  let l := [p.planesAll, p.pairsAll, !p.exhausted, p.standbyHeld, p.avsAll, p.md.colonyUp]
  BitVec.ofNat 32 (bitsOf l + 2 ^ 6 * b2n (l.all id && p.md.mode.isRole && !p.minimalSet))

/-- Queued cells of a VOQ: those of its frames that have not been matched. -/
def Part.voqCells (p : Part) (k : Nat) : Nat :=
  ((p.voq k).map (fun i => match p.fr i with
    | some f => f.cells.length - f.matched
    | none => 0)).sum

/-- The pipeline of the ROLE 1 port or window that maps a domain's windows: valid entries of a table. -/
def Part.validCount (p : Part) (t : Nat) : Nat :=
  (p.tables.filter (fun e => e.1 / 2 ^ 24 = t ∧ e.1 % 16 = 0 ∧ e.2.toNat % 2 = 1)).length

/-- Mapped total of the valid windows in units of 2 MiB (R251). -/
def Part.mappedUnits (p : Part) : Nat :=
  ((p.tables.filter (fun e => e.1 / 2 ^ 24 = 1 ∧ e.1 % 16 = 0 ∧ e.2.toNat % 2 = 1)).map
    (fun e => 2 ^ (p.tf 1 (e.1 % 2 ^ 24 / 16) 0 20 6 - 21))).sum

/-- The target (crossbar port and SUB) of a scheduler register's index. -/
def schTgt (n t : Nat) : Nat := (n * 16 + t)

/-- The physical channel (256 x Drone + channel) that is slot `k` of domain `d`. -/
def Part.chanAt (p : Part) (d k : Nat) : Option Nat :=
  (List.range 512).find? (fun c =>
    let pg := Page.drn (c / 256)
    let i := c % 256
    p.getF pg (DRN.CH_BIND.VALID.ix i) == 1 && p.getF pg (DRN.CH_BIND.DOMAIN.ix i) == d && p.getF pg (DRN.CH_BIND.SLOT.ix i) == k)

/-- Byte `o` of the active generation, as OTPV.GEN shows it (R390). -/
def Part.genB (p : Part) (o : Nat) : Nat := p.getF .otpv (OTPV.GEN.WORD.ix (o / 4)) / 256 ^ (o % 4) % 256

/-- START of the active generation is PARTITIONED. -/
def Part.startPart (p : Part) : Bool := nbit (p.genB 3) 0

/-- FALLBACK of the active generation. -/
def Part.fallback (p : Part) : Bool := nbit (p.genB 3) 1

/-- MAINT_STRAP is effective: fitted at the last sample, the seal not blown (R416). -/
def Part.strapEff (p : Part) : Bool := p.ffy.strap && !p.bit .otpv OTPV.ACTIVE.SEALED

/-- BOOT has failed (R24, R387): no Chitin image, no generation, or no Colony image where START needs one and FALLBACK does not help. -/
def Part.bootFailed (p : Part) : Bool :=
  p.md.mode == .boot && (p.boot.rom || p.boot.noGen || (p.boot.chitin && p.boot.colony == 2 && p.startPart && !p.fallback))

/-- IDE_REQ of the active generation holds back all but configuration traffic until link IDE is established (R396) (log entry 70, DEDUCED). -/
def Part.ideHeld (p : Part) (t : Nat) (k : TlpKind) : Bool :=
  nbit (p.getF .otpv (OTPV.GEN.WORD.ix 0)) 27 && p.bit .otpv OTPV.ACTIVE.GEN_VALID && !(p.pt t).ide && k != .cfgRead && k != .cfgWrite

/-- CLK.PLL_STAT: REFCLK with the rails on, the four PLLs of the core logic while it runs (R430, R432), and the station PLLs. -/
def Part.pllStat (p : Part) (v : BitVec 32) : BitVec 32 :=
  let up := p.md.mode.core
  (v &&& 0xFFFF0000) ||| BitVec.ofNat 32 (b2n p.md.mode.rails + 30 * b2n up)

/-- The word `o` of a page with its derived fields laid over the stored word (R14: as current in the owning domain). -/
def Part.overlay (p : Part) (pg : Page) (o : Nat) (v : BitVec 32) : BitVec 32 :=
  match pg with
  | .glb =>
    if o = 0x100 then p.modeStat
    else if o = 0x118 then (if p.boot.chitin then Config.deviceId.setWidth 32 else 0)
    else if o = 0x11C then (if p.boot.chitin then (Config.deviceId >>> 32).setWidth 32 else 0)
    else if 0x1C0 ≤ o ∧ o < 0x200 then v ||| BitVec.ofNat 32 (256 * b2n (nbit p.ffy.high ((o - 0x1C0) / 4)))
    else if o = 0x200 then p.errSum
    else if o = 0x20C then p.repairStat
    else if o = 0x214 then p.sfgStat
    else if o = 0x218 then p.irqSum
    else v
  | .clk => if o = 0x100 then p.pllStat v else v
  | .pwr => if o = 0x104 then BitVec.ofNat 32 (650 + Config.vfuseAbove % 201) else v
  | .smw l =>
    let b := p.lk l
    if o = 0x110 then BitVec.ofNat 32 (b.txNext + 2 ^ 20 * b.unacked.length)
    else if o = 0x114 then BitVec.ofNat 32 (b.rxAck + 2 ^ 20 * b.rxHeld.length)
    else if 0x160 ≤ o ∧ o < 0x180 then
      let c := (o - 0x160) / 4
      BitVec.ofNat 32 (match b.cum.getD c none with
        | none => 0
        | some g => (g + 65536 - b.sent.getD c 0) % 65536)
    else if 0x180 ≤ o ∧ o < 0x1A0 then BitVec.ofNat 32 (b.charged.getD ((o - 0x180) / 4) 0)
    else v
  | .xbp q =>
    if o = 0x104 then
      (v &&& 0x001F700F) ||| BitVec.ofNat 32 (bitsOf ((List.range 4).map (fun k => p.planes.contains k)) * 16 + p.planes.length * 256
        + 2048 * b2n ((List.range 4).any (fun h => h != q && p.servePlane h == some q)))
    else if o = 0x110 then BitVec.ofNat 32 p.cellTime else if o = 0x114 then BitVec.ofNat 32 (p.cellTime / 2 ^ 32)
    else if o = 0x124 then
      let xp := p.getF pg XBP.VOQ_SEL.XP
      let vq := p.getF pg XBP.VOQ_SEL.VOQ
      if 19 < xp ∨ 2127 < vq then 0
      else
        let k := xp * 2128 + vq
        BitVec.ofNat 32 (p.voqCells k + 2 ^ 18 * min 0xFFF ((p.voq k).filter (fun i => match p.fr i with
          | some f => decide (f.matched < f.cells.length)
          | none => false)).length + 2 ^ 30 * b2n (v.toNat / 2 ^ 30 % 2 = 1))
    else v
  | .buf =>
    if o = 0x110 then (v &&& 0x180000) ||| BitVec.ofNat 32 (p.shared % 2 ^ 19)
    else if 0x500 ≤ o ∧ o < 0x600 then
      let a := (o - 0x500) / 4
      BitVec.ofNat 32 (p.occOf a + 2 ^ 19 * b2n (p.minOf a < p.occOf a) + 2 ^ 20 * b2n (Sparse.get p.refused false a))
    else v
  | .fab => if o = 0x118 then BitVec.ofNat 32 p.ns else if o = 0x11C then BitVec.ofNat 32 (p.ns / 2 ^ 32) else v
  | .ccn =>
    if o = 0x104 then BitVec.ofNat 32 (p.txUsed + 2 ^ 16 * (p.rxFlow.filter (fun e => e.2.state ≠ .none)).length) else v
  | .ord =>
    if o = 0x104 then BitVec.ofNat 32 (p.slotsUsed + 2 ^ 13 * b2n (4096 ≤ p.slotsUsed))
    else if 0x400 ≤ o ∧ o < 0x500 then (v &&& 0x1FFF) ||| BitVec.ofNat 32 (2 ^ 16 * p.slotsOf ((o - 0x400) / 4)) else v
  | .tbl =>
    let w := p.ortOpen + 2 ^ 18 * p.ortFar + 2 ^ 36 * p.ortQuar
    if o = 0x208 then BitVec.ofNat 32 w else if o = 0x20C then BitVec.ofNat 32 (w / 2 ^ 32)
    else if o = 0x210 then BitVec.ofNat 32 (p.validCount 1) else if o = 0x214 then BitVec.ofNat 32 p.mappedUnits else v
  | .mbx =>
    let w := bitsOf ((List.range 64).map (fun d => p.getF (.cfmb d) CFMB.MB_STAT.STATE == 1))
    if o = 0x100 then BitVec.ofNat 32 w else if o = 0x104 then BitVec.ofNat 32 (w / 2 ^ 32) else v
  | .cfn d =>
    if o = 0x100 then BitVec.ofNat 32 (p.fabricId d + 2 ^ 12 * d + 2 ^ 18 * p.chip)
    else if o = 0x104 then (v &&& 0x3C) ||| BitVec.ofNat 32 (b2n (p.cfWire d) + 2 * b2n (p.cfContrib d))
    else v
  | .ordv d =>
    if o = 0x144 then (v &&& 1) ||| BitVec.ofNat 32 (2 * min 256 ((p.getF pg ORDV.JRNL_PTR.WR_SEQ + 65536
        - p.getF pg ORDV.JRNL_PTR.RD_SEQ) % 65536))
    else if o = 0x160 then
      BitVec.ofNat 32 (p.slotsDom d + 2 ^ 13 * b2n (p.waiting.any (fun w => w.req.domain == d && w.req.tracked))
        + 2 ^ 14 * b2n (p.fences.any (fun f => f.domain == d) || p.waiting.any (fun w => w.req.domain == d && w.req.device)))
    else v
  | .telv d v1 =>
    if v1 = 1 ∧ o = 0x100 then (if p.ant.mode = 1 ∧ p.getF .ant ANT.CTL.COLL_DOM = p.fabricId d ∧ p.attached d = true then v else 0) else v
  | .ant =>
    if o = 0x104 then
      let used := (p.getF .ant ANT.WR.SEQ + 2 ^ 32 - p.getF .ant ANT.RD.SEQ) % 2 ^ 32
      let host := match p.domIdx (p.getF .ant ANT.CTL.COLL_DOM) with
        | some d => (p.getF .ant ANT.WR.SEQ + 2 ^ 32 - p.getF (.telv d 1) TELV1.COLL_RD.SEQ) % 2 ^ 32
        | none => 0
      let full := if p.ant.mode = 1 then decide (2 ^ min 25 (max 5 (p.getF .ant ANT.RING_CFG.SIZE_LOG2)) ≤ host) else decide (16384 ≤ used)
      (v &&& ~~~4) ||| BitVec.ofNat 32 (4 * b2n full) else v
  | .otpv =>
    if o = 0x108 then
      let left := match p.boot.staged with
        | some (_, t0) => (t0 + 30000000000 - p.now + 999999999) / 1000000000
        | none => 0
      (v &&& 0xFF00FF00) ||| BitVec.ofNat 32 (b2n p.boot.staged.isSome + 2 ^ 16 * min 30 left)
    else if o = 0x10C then BitVec.ofNat 32 (2 * b2n p.ffy.strap + 4 * b2n p.strapEff + 256 * (p.ffy.presses % 256))
    else v
  | .gpio =>
    if o = 0x108 then
      BitVec.ofNat 32 (bitsOf ((List.range 16).map (fun k => if p.pinOwner k = 0 then v.getLsbD k else decide (4 ≤ p.pinOwner k))))
    else v
  | .i3c =>
    if o = 0x118 then (v &&& 0x10000) ||| BitVec.ofNat 32 (match p.ibi with
      | [] => 0
      | e :: _ => e.1 + 128 + 256 * e.2) else v
  | .drc d k =>
    if o = 0x104 then (v &&& 7) ||| BitVec.ofNat 32 (65536 * (match p.chanAt d k with
      | some c => (p.ch c).rdOut + b2n (p.ch c).ringOut
      | none => 0))
    else v
  | .sch n =>
    if 0x700 ≤ o ∧ o < 0x840 then
      let k := schTgt n ((o - 0x700) / 32) * 8 + (o - 0x700) % 32 / 4
      (v &&& 0xFFE00000) ||| BitVec.ofNat 32 (Sparse.get p.deficit 0 k)
    else if 0x900 ≤ o ∧ o < 0xA40 then
      let k := schTgt n ((o - 0x900) / 32) * 8 + (o - 0x900) % 32 / 4
      BitVec.ofNat 32 (p.shpTok k / 250)
    else if o = 0xA40 ∨ o = 0xA44 then
      BitVec.ofNat 32 (bitsOf ((List.range 32).map (fun i =>
        let a := (o - 0xA40) * 8 + i
        Sparse.get p.withheld false (n * 64 + a) || p.stnDebt n a)))
    else v
  | _ => v

/-- The page of a channel slot without a valid binding: it reads 0 and discards writes (R104). -/
def Part.unboundSlot (p : Part) (pg : Page) : Bool :=
  match pg with
  | .drc d k => (p.chanAt d k).isNone
  | _ => false

/-- The value a word reads as, apart from what reading it does. The page of a slot without a valid binding reads 0 (R104). A block-specific register of a page whose clock is stopped
reads 0 (R19). -/
def Part.peek (p : Part) (pg : Page) (o : Nat) : BitVec 32 :=
  let v := p.rd (pg.base + o)
  if p.unboundSlot pg then 0
  else if pg.hasHdr && o < 0x100 then
    if o = 0 then BitVec.ofNat 32 (1 + 256 * pg.inst + 65536 * pg.block)
    else if o = 4 then BitVec.ofNat 32 pg.cap
    else if o = 8 then (v &&& 4) ||| BitVec.ofNat 32 (b2n (p.pageEn pg))
    else if o = 12 then BitVec.ofNat 32 (b2n (p.settled pg) + 2 * b2n (p.clkStopped pg) + 4 * p.getF pg HDR.PAGE_CTL.LOCK
        + 8 * b2n (p.srstBusy pg))
    else v
  else if p.clkStopped pg then 0 else p.overlay pg o v

end Sys2Proof.Machine
end

