-- ==== Sys2Proof/Machine/Access.lean ====
section
/-! DEFINITION. Register access: visibility (R480 to R484), reading and clearing, storing a written word, posting towards
another clock domain (R14 to R19), and the record of refused accesses. -/

namespace Sys2Proof.Machine

/-! ### Refused accesses -/

/-- A requester as GLB.ACC_VIOL codes it. -/
def Requester.code : Requester → Nat
  | .chitin => 0
  | .colony => 1
  | .cf _ => 2

/-- The requester's shadow is discarded (R15). -/
def Part.dropShadow (p : Part) (req : Requester) : Part := { p with shadow := p.shadow.filter (fun e => e.1 ≠ req) }

/-- Records a refused access of Chitin or Colony in GLB.ACC_VIOL (R483, R475, R480). -/
def Part.viol (p : Part) (req : Requester) (write : Bool) (cause addr : Nat) : Part :=
  match req with
  | .cf _ => p
  | r =>
    let p1 := ((p.setF .glb GLB.ACC_VIOL.REQ r.code).setF .glb GLB.ACC_VIOL.WRITE (b2n write)).setF .glb GLB.ACC_VIOL.CAUSE cause
    let p2 := if p.bit .glb GLB.ACC_VIOL.NEW then p1 else (p1.setF .glb GLB.ACC_VIOL.NEW 1).irq .glb 2
    let p3 := (p2.bumpF .glb GLB.ACC_VIOL.CNT 1).setF .glb GLB.ACC_VIOL_ADDR.ADDR addr
    (p3.count .glb 1 1).err .glb 0

/-- A write that may not take effect, with its cause: the page is not visible (1), it is locked against Colony (4), the
register belongs to the Guarded Write Port (7) or to Chitin (5), or the page is read-only to the requester (8) (R478,
R482, R483). `o` is the offset in the page. -/
def Part.denied (p : Part) (req : Requester) (pg : Page) (o : Nat) (write : Bool) : Option Nat :=
  let block := decide (0x100 ≤ o)
  match req with
  | .cf _ => none
  | .chitin =>
    if !write then (if pg = .tbl ∧ (0x100 ≤ o ∧ o < 0x180) then some 1 else none)
    else match pg with
      | .otpv => if block then some 8 else none
      | .mbx => if block then some 8 else none
      | .spi => if p.bit .spi SPI.OWNER.COLONY && block then some 8 else none
      | .tbl => if 0x100 ≤ o ∧ o < 0x180 then some 1 else none
      | .port _ => if o = 0x100 then some 7 else none
      | .drn _ => if 0x400 ≤ o ∧ o < 0x800 then some 7 else none
      | _ => none
  | .colony =>
    if pg = .cht then some 1
    else if pg = .tbl ∧ 0x180 ≤ o ∧ o < 0x200 then some 1
    else if !write then none
    else if block && p.bit pg HDR.PAGE_CTL.LOCK then some 4
    else match pg with
      | .otpv => if block then some 8 else none
      | .spi => if !p.bit .spi SPI.OWNER.COLONY && block then some 8 else none
      | .port _ => if o = 0x100 then some 7 else none
      | .drn _ => if 0x400 ≤ o ∧ o < 0x800 then some 7 else none
      | .serdes _ => if 0x400 ≤ o then some 5 else none
      | _ => none

/-- Where an access lands: the page and the offset in it, or none for a reserved address. -/
def Requester.locate (req : Requester) (addr : Nat) : Option (Page × Nat) :=
  let pg := match req with
    | .cf d => pageOfView d addr
    | _ => pageOfSpace (addr % 0x4000000)
  pg.map (fun g => (g, addr % 0x1000))

/-- Whether a page defines the word at an offset (R475). -/
def Page.defines (pg : Page) (o : Nat) : Bool :=
  match pg with
  | .cht => decide (o < 0x100)
  | _ => (pg.defAt (o / 4 * 4)).isSome

/-- Where the second register half of an 8-byte access lies with the first in one 64-bit register or counter slot (R15). -/
def Page.wide (pg : Page) (o : Nat) : Bool :=
  (pg.hasHdr && decide (0x80 ≤ o ∧ o < 0xC0 ∧ o % 8 = 0)) ||
  (match pg with
  | .glb => o == 0x118
  | .gpio => o == 0x100
  | .mbx => o == 0x100
  | .xbp _ => o == 0x110
  | .sch _ => decide (o % 8 = 0) && (decide (0x400 ≤ o ∧ o < 0x680) || o == 0xA40 || decide (0xC00 ≤ o))
  | .tbl => o == 0x208
  | .fab => o == 0x118
  | .ccn => o == 0x110
  | .ordv _ => decide (o % 8 = 0) && decide (0x100 ≤ o ∧ o ≤ 0x128)
  | .tel => decide (o % 8 = 0 ∧ 0x200 ≤ o ∧ o < 0x300)
  | .telv _ _ => decide (o % 8 = 0 ∧ 0x200 ≤ o ∧ o < 0x300)
  | .ant => decide (o % 8 = 0 ∧ 0x140 ≤ o ∧ o < 0x160) || o == 0x170
  | .drc _ _ => o == 0x110
  | _ => false)

/-- Clears the RC bits of a word that was read, and takes the head of a queue behind it (R9, I3C.IBI). While the owning clock is stopped the
read answers 0 and clears nothing (R19). -/
def Part.readClear (p : Part) (pg : Page) (o : Nat) : Part :=
  if p.clkStopped pg then p
  else if pg = .i3c ∧ o = 0x118 then { p with ibi := p.ibi.tail }
  else match pg.defAt o with
    | none => p
    | some r => p.wr (pg.base + o) (p.rd (pg.base + o) &&& ~~~(BitVec.ofNat 32 r.rc))

/-! ### Writes -/

/-- ERR_FIRST stops being valid when ERR_STAT is all zeros again (R335); a bit that is set and becomes unmasked is reported
(R334). -/
def Part.headerFix (p : Part) (pg : Page) : Part :=
  let p1 := if p.rd (pg.base + 0x020) = 0 then p.setF pg HDR.ERR_FIRST.VALID 0 else p
  if pg.isView && p1.pageErr pg then p1.irq pg 0x80000000 else p1

/-- Stores a written word: RW bits take the value, W1C bits clear and W1S bits set where it is 1 (R8). `keep` are bits that
this write leaves alone. -/
def Part.storeWord (p : Part) (pg : Page) (o : Nat) (v keep : BitVec 32) : Part :=
  match pg.defAt o with
  | none => p
  | some r =>
    let a := pg.base + o
    let old := p.rd a
    let rw := BitVec.ofNat 32 r.rw &&& ~~~keep
    let p1 := p.wr a (((old &&& ~~~rw) ||| (v &&& rw)) &&& ~~~(v &&& BitVec.ofNat 32 r.w1c) ||| (v &&& BitVec.ofNat 32 r.w1s))
    if pg.hasHdr && (o == 0x020 || o == 0x024) then
      (if o == 0x024 && (v == old) then p1 else p1.headerFix pg)
    else if pg = .i3c ∧ o = 0x010 then
      (if p1.getF .i3c I3C.SLOT_STAT.LOW &&& p1.getF .i3c I3C.SLOT_EN.EN = 0 then p1 else p1.irq .i3c 16)
    else if pg = .glb ∧ o = 0x100 ∧ v.toNat / 2 ^ 15 % 2 = 1 then { p1 with md := { p1.md with reqRej := false } }
    else p1

/-- Bits of a register that commands of their own write (rows of the table), and that an ordinary write leaves alone
(log entry 67, DEDUCED). -/
def ownBits (pg : Page) (o : Nat) : BitVec 32 :=
  match pg with
  | .glb => if 0x140 ≤ o ∧ o < 0x180 ∨ 0x1C0 ≤ o ∧ o < 0x200 then 0xFFFFFFFF else 0
  | .smw _ => if o = 0x100 then 1 else 0
  | .buf => if o = BUF.CPL_RSV.CELLS.off ∨ o = BUF.ESC_RSV.CELLS.off ∨ o = BUF.MGMT_RSV.CELLS.off then 0xFFFFFFFF
      else if BUF.ACCT_CFG.MIN.off ≤ o ∧ o < BUF.ACCT_CFG.MIN.off + 256 then BUF.ACCT_CFG.MIN.mask <<< BUF.ACCT_CFG.MIN.lo
      else 0
  | .pwr => if o = 0x130 then 0xFFFFFFFF else 0
  | .ant => if o = ANT.CTL.EN.off then ANT.CTL.EN.mask <<< ANT.CTL.EN.lo
      else if o = ANT.REC_SEL.SLOT.off then 0xFFFFFFFF else 0
  | .tel => if o = TEL.HIST_SEL.PORT.off then 0xFFFFFFFF else 0
  | .telv _ v => if 2 ≤ v ∧ o = 0x100 then 0xFFFFFFFF else 0
  | .ordv _ => if o = ORDV.JRNL_SEL.SEQ.off then 0xFFFFFFFF else 0
  | .drc _ _ => if o = 0x100 then 0xFFFFFFFF else 0
  | .gpio => if o = 0x108 ∨ o = 0x10C ∨ o = 0x114 then 0xFFFFFFFF else 0
  | .i3c => if o = 0x11C then 0xFFFFFFFF else 0
  | _ => 0

/-- Fields that only Chitin may write (R450, R483): a write by Colony leaves them. -/
def chitinBits (pg : Page) (o : Nat) : BitVec 32 :=
  match pg with
  | .pwr => if o = 0x100 then 0x00100000 else 0
  | .ffy => if o = 0x10C then 0x00FF0000 else if o = 0x144 ∨ o = 0x148 then 0xFFFFFFFF else 0
  | _ => 0

/-! ### Twin pairs (R148) -/

/-- The twin that a link names (R148), if TWIN_EN is 1. -/
def Part.twinNamed (p : Part) (l : Nat) : Option Nat :=
  if p.bit (.smw l) SMW.LINK_CTL.TWIN_EN then
    some (2 * p.getF (.smw l) SMW.LINK_CTL.TWIN_STN + p.getF (.smw l) SMW.LINK_CTL.TWIN_LINK)
  else none

/-- The twin of a link while the pairing of R148 holds. -/
def Part.twin (p : Part) (l : Nat) : Option Nat :=
  if p.bit (.smw l) SMW.LINK_STAT.TWIN_ACTIVE then p.twinNamed l else none

/-- A pair is dissolved (R148, R197): its failover reserve returns to its pool. -/
def Part.unpair (p : Part) (l m : Nat) : Part :=
  let q := (p.setF (.smw l) SMW.LINK_STAT.TWIN_ACTIVE 0).setF (.smw m) SMW.LINK_STAT.TWIN_ACTIVE 0
  (q.setLk l { q.lk l with pairRsv := 0, pairWant := 0 }).setLk m { q.lk m with pairRsv := 0, pairWant := 0 }

/-- A LINK_CTL write: a twin field that names the link itself is rejected and the other fields are stored; a pair whose naming the write
changes no longer holds (R148, R154). The reset value names link A of station 0 with TWIN_EN 0, so the model reads the rejection as one of a
write with TWIN_EN 1, and as one of bits [9:4] alone (log entry 93, DESIGN CHOICE). -/
def Part.linkCtlWrite (p : Part) (l : Nat) (v keep : BitVec 32) : Part :=
  let pg := Page.smw l
  let self := v.toNat / 16 % 2 = 1 ∧ v.toNat / 32 % 16 = l / 2 ∧ v.toNat / 512 % 2 = l % 2
  let old := p.twin l
  let q := if self then (p.err pg 12).storeWord pg 0x100 v (keep ||| 0x3F0) else p.storeWord pg 0x100 v keep
  match old with
  | some m => if q.twinNamed l = some m then q else q.unpair l m
  | none => q

/-- A written block-specific word takes effect in its owning domain: the checks that registers without a row of their own
make, then the store (log entry 67, DEDUCED). -/
def Part.applyWord (p : Part) (req : Requester) (pg : Page) (o : Nat) (v : BitVec 32) : Part :=
  let a := pg.base + o
  let old := p.rd a
  let guard := if req = .colony then chitinBits pg o else 0
  let touched := (old ^^^ v) &&& guard
  let p0 := if touched = 0 then p else p.viol req true 5 a
  let v1 := (v &&& ~~~guard) ||| (old &&& guard)
  let keep := ownBits pg o
  match pg with
  | .glb =>
    if o = 0x210 ∧ v1.toNat / 2 ^ 16 % 2 = 1 then
      ((p0.storeWord pg o v1 keep).setF .glb GLB.RECOVER.REJ 1).count .glb 4 1
    else p0.storeWord pg o v1 keep
  | .ffy =>
    if o = 0x10C ∧ ¬(v1.toNat % 256 ≤ v1.toNat / 256 % 256 ∧ v1.toNat / 256 % 256 ≤ v1.toNat / 65536 % 256) then p0.err .ffy 2
    else p0.storeWord pg o v1 keep
  | .i3c =>
    if o = 0x100 ∧ v1.toNat / 256 % 128 = p.getF .ffy FFY.SMB_CFG.ADDR then p0.storeWord pg o v1 (keep ||| 0x7F00)
    else p0.storeWord pg o v1 keep
  | .smw l => if o = 0x100 then p0.linkCtlWrite l v1 keep else p0.storeWord pg o v1 keep
  | .cfmb d =>
    if (o = CFMB.MB_CMD.OPCODE.off ∨ 0x800 ≤ o) ∧ p.getF pg CFMB.MB_STAT.STATE = 1 then p0.err (.cfn d) 1
    else p0.storeWord pg o v1 keep
  | .mbx =>
    if 0x800 ≤ o then
      let d := p.getF .mbx MBX.SEL.DOMAIN
      p0.wr ((Page.cfmb d).base + o) v1
    else p0.storeWord pg o v1 keep
  | .sch n =>
    let q := p0.storeWord pg o v1 keep
    let q1 := if 0x100 ≤ o ∧ o < 0x128 then q.capShp n ((o - 0x100) / 4) else q
    if schClamps o v1 then q1.err pg 0 else q1
  | .spi => if 0x400 ≤ o ∧ p.spi.isSome then p0 else p0.storeWord pg o v1 keep
  | .drc _ _ =>
    if (o = 0x108 ∨ o = 0x110 ∨ o = 0x114) ∧ p.getF pg DRC.CH_STAT.STATE ≠ 0 then
      p0.err pg 6
    else p0.storeWord pg o v1 keep
  | _ => p0.storeWord pg o v1 keep

/-- A written word of a CORE page takes effect at once (R16); MODE_REQ with GO submits its request (R28). -/
def Part.coreWord (p : Part) (req : Requester) (pg : Page) (o : Nat) (v : BitVec 32) : Part :=
  let q := p.applyWord req pg o v
  if pg = .glb ∧ o = 0x104 ∧ v.toNat / 2 ^ 16 % 2 = 1 then q.submitMode req (v.toNat / 256 % 256) (v.toNat % 16) else q

/-- A write to a page whose owning clock is stopped is discarded and recorded (R19). -/
def Part.xingDrop (p : Part) (pg : Page) : Part :=
  ((p.bumpF .glb GLB.XING_STAT.WR_DROP 1).setF .glb GLB.XING_STAT.LAST_PAGE (pg.base / 4096)).err .glb 1

/-- One written word of a permitted write: the header at once (R476), a CORE page at once, another page through its crossing
(R16), or dropped and recorded while the owning clock is stopped (R19). Answers the word to post, if it is posted. -/
def Part.writeWord (p : Part) (req : Requester) (pg : Page) (o : Nat) (v : BitVec 32) : Part × List (Nat × BitVec 32) :=
  if p.unboundSlot pg then (p, [])
  else if pg.hasHdr && o < 0x100 then (p.storeWord pg o v 0, [])
  else if p.clkStopped pg then (p.xingDrop pg, [])
  else if pg.owner = 0 then (p.coreWord req pg o v, [])
  else (p, [(o, v)])

/-- A write of one or two words at an address (R16, R480 to R483) (log entry 77, DEDUCED). -/
def Part.write (p : Part) (req : Requester) (addr : Nat) (lo : BitVec 32) (hi : Option (BitVec 32)) : Part :=
  let p0 := p.dropShadow req
  let size := if hi.isSome then 8 else 4
  if !p.md.mode.core || p.ffy.chipRst then p
  else if addr % size ≠ 0 then
    match req with
    | .cf d => p0.err (.cfn d) 0
    | r => p0.viol r true 2 addr
  else
    let one := fun (q : Part) (a : Nat) (v : BitVec 32) =>
      match req.locate a with
      | none => q.viol req true 3 a
      | some (pg, o) =>
        match q.denied req pg o true with
        | some c =>
          let q1 := q.viol req true c a
          if c = 4 then q1.count .glb 7 1 else if c = 5 then (match pg with
            | .serdes _ => q1.err pg 8
            | _ => q1) else q1
        | none =>
          if pg.defines o then
            let x := q.writeWord req pg o v
            let q1 := x.1.count .glb 0 1
            if x.2 = [] then q1 else { q1 with posted := q1.posted ++ [Posted.mk req pg.base x.2] }
          else q.viol req true 3 a
    let p1 := one p0 addr lo
    match hi with
    | none => p1
    | some h => one p1 (addr + 4) h

/-- The soft reset of a page's controller takes effect in its own domain (R478): an I3C0 transfer is aborted and the queue of in-band interrupts
emptied; an SPI operation in progress goes on. -/
def Part.srstDone (p : Part) (pg : Page) : Part :=
  match pg with
  | .i3c => { p.setF .i3c I3C.C0_STAT.BUSY 0 with ibi := [] }
  | _ => p

/-- The oldest posted write of a requester to a page takes effect there (R16), or is discarded and recorded when the page's clock has stopped
meanwhile (R19) (log entry 77, DEDUCED). -/
def Part.settlePosted (p : Part) (req : Requester) (page : Nat) : Part :=
  match p.posted.find? (fun w => w.req = req ∧ w.page = page) with
  | none => p
  | some w =>
    let p1 := { p with posted := p.posted.erase w }
    match pageOf page with
    | none => p1
    | some pg => w.words.foldl (fun q x => if x.1 = 8 then q.srstDone pg
        else if q.clkStopped pg then q.xingDrop pg else q.applyWord req pg x.1 x.2) p1

/-- No write of a requester to a page is on its way. -/
def Part.nonePosted (p : Part) (req : Requester) (page : Nat) : Bool := p.posted.all (fun w => !decide (w.req = req ∧ w.page = page))

/-- Every posted write of a requester to a page takes effect, in issue order (R16). -/
def Part.settleAll (p : Part) (req : Requester) (page : Nat) : Part :=
  (p.posted.filter (fun w => w.req = req ∧ w.page = page)).foldl (fun (q : Part) _ => q.settlePosted req page) p

/-! ### Reads -/

/-- Reads one word and clears what reading clears. -/
def Part.readWord (p : Part) (req : Requester) (a : Nat) : Part × BitVec 32 :=
  match req.locate a with
  | none => (p.viol req false 3 a, 0)
  | some (pg, o) =>
    match p.denied req pg o false with
    | some c => (p.viol req false c a, 0)
    | none =>
      if pg.defines o then
        let src := if pg = .mbx ∧ 0x800 ≤ o then p.rd ((Page.cfmb (p.getF .mbx MBX.SEL.DOMAIN)).base + o) else p.peek pg o
        ((p.readClear pg o).count .glb 0 1, src)
      else (p.viol req false 3 a, 0)

/-- The value of an aligned read of 4 or 8 bytes (R9, R15, R480, R481): the low half of a 64-bit register keeps its high half for the
next read. -/
def Part.readVal (p : Part) (req : Requester) (addr : Nat) (wide : Bool) : Part × BitVec 64 :=
  if wide then
    let x := (p.dropShadow req).readWord req addr
    let y := x.1.readWord req (addr + 4)
    (y.1, y.2 ++ x.2)
  else match p.shadow.find? (fun e => e.1 = req ∧ e.2.1 = addr) with
    | some e => (p.dropShadow req, e.2.2.setWidth 64)
    | none =>
      let q := p.dropShadow req
      let lowHalf := match req.locate addr with
        | some (pg, o) => pg.wide o
        | none => false
      let x := q.readWord req addr
      let y := if lowHalf then x.1.readWord req (addr + 4) else (x.1, 0)
      let q1 := if lowHalf then { y.1 with shadow := y.1.shadow ++ [(req, addr + 4, y.2)] } else x.1
      (q1, x.2.setWidth 64)

/-- A read of 4 or 8 bytes: the value goes to the requester; an unaligned one answers with an error (R480) (log entry 77, DEDUCED). -/
def Part.read (p : Part) (req : Requester) (addr : Nat) (wide : Bool) : Part :=
  let size := if wide then 8 else 4
  if !p.md.mode.core || p.ffy.chipRst then p
  else if addr % size ≠ 0 then
    match req with
    | .cf d => ((p.dropShadow req).err (.cfn d) 0).emit (.busError req addr)
    | r => ((p.dropShadow req).viol r false 2 addr).emit (.busError req addr)
  else
    let x := p.readVal req addr wide
    x.1.emit (.readData req addr x.2)

/-- Whether a command that is a write of one register may act: its register is visible to the requester and not denied.
Otherwise the refusal is recorded. Either way the access discards the requester's shadow (R15). -/
def Part.permitted (p : Part) (req : Requester) (pg : Page) (o : Nat) : Bool × Part :=
  let vis := match req with
    | .cf d => (match pg with
      | .cfn k | .cfmb k | .ordv k | .telv k _ | .drc k _ | .msixTbl k _ | .pba k => k == d.val
      | _ => false)
    | _ => !pg.isView
  if !vis || !p.md.mode.core || p.ffy.chipRst then (false, p)
  else match p.denied req pg o true with
    | some c =>
      let q := (p.dropShadow req).viol req true c (pg.base + o)
      (false, if c = 4 then q.count .glb 7 1 else q)
    | none => (true, (p.dropShadow req).count .glb 0 1)

end Sys2Proof.Machine
end

