-- ==== Sys2Proof/Machine/Power.lean ====
section
/-! DEFINITION. Firefly: load steps and the regulator port (R434 to R441), thermal and supply samples and trips (R424 to R426),
wakes and power cycles (R430 to R433, R448). -/

namespace Sys2Proof.Machine

/-! ### The regulator port -/

/-- VT of R435, with the offset while a hold runs, while a load step waits, and through STANDBY (R428 step 2, R439). -/
def Part.vt (p : Part) : Nat := p.coreMv (p.ffy.hold.isSome || !p.ffy.steps.isEmpty || p.md.mode == .standby ||
  p.entering)

/-- The target a channel wants now: VT, or its fixed value. -/
def Part.wantMv (p : Part) (k : Nat) : Nat := if k = 0 then p.vt else safeMv k

/-- VHOLD starts or starts again: HOLD_US, below 10 acting as 10 (R439). -/
def Part.startHold (p : Part) : Part :=
  ({ p with ffy := { p.ffy with hold := some (p.now + 1000 * max 10 (p.getF .pwr PWR.AVS_CFG.HOLD_US)) } }).setF .pwr
    PWR.LOAD_STAT.HOLD 1

/-- A unit without a power-up command of its own reports on (R10). -/
def Part.unitOn (p : Part) (u : LoadStep) : Part :=
  match u with
  | .quarter q => p.setF .pwr PWR.UNIT_STAT.QTR (p.getF .pwr PWR.UNIT_STAT.QTR ||| 2 ^ q)
  | .drone d => p.setF .pwr PWR.UNIT_STAT.DRN (p.getF .pwr PWR.UNIT_STAT.DRN ||| 2 ^ d)
  | .antenna => p.setF .pwr PWR.UNIT_STAT.ANT 1
  | .colony => p.setF .pwr PWR.UNIT_STAT.COLONY 1
  | .plane q => (p.setF .pwr PWR.UNIT_STAT.PLANE (p.getF .pwr PWR.UNIT_STAT.PLANE ||| 2 ^ q)).setF (.xbp q) XBP.PLANE_STAT.STATE 1
  | _ => p

/-- A load step may start: a station and returning lanes wait for their own command, another unit reports on at once. -/
def Part.stepReady (p : Part) (u : LoadStep) : Part :=
  match u with
  | .station _ => { p with ffy := { p.ffy with ready := p.ffy.ready ++ [u] } }
  | .width _ _ => { p with ffy := { p.ffy with ready := p.ffy.ready ++ [u] } }
  | _ => (p.unitOn u).startHold

/-- Pre-announces a load step on channel 0, ahead of other requests, merged with one that still waits (R439, R370) (log entry 49, DEDUCED). -/
def Part.announce (p : Part) (u : LoadStep) : Part :=
  if p.noAnnounce then p.stepReady u else (p.preAnnounce [u]).setF .pwr PWR.LOAD_STAT.PENDING 1

/-- Announced load steps may start (log entry 49, DEDUCED). -/
def Part.releaseSteps (p : Part) (l : List LoadStep) : Part :=
  l.foldl (fun q u => q.stepReady u) (p.setF .pwr PWR.LOAD_STAT.PENDING (b2n (!p.ffy.steps.isEmpty)))

/-- Writes a request's target, or starts a status read: one attempt under T0 (R436) (log entry 49, DEDUCED). -/
def Part.avsSend (p : Part) (r : AvsReq) : Part :=
  let p0 := match r.mv with
    | some mv => (p.setF .pwr (PWR.AVS_STAT.TARGET_MV.ix r.chan) mv).emit (.avs r.chan mv)
    | none => p.emit (.avsRead r.chan)
  let p1 := p0.setF .pwr (PWR.AVS_STAT.ATTEMPT.ix r.chan) r.att
  let p2 := if p1.silent r.chan then p1 else p1.setF .pwr (PWR.AVS_STAT.STATE.ix r.chan) 1
  { p2 with ffy := { p2.ffy with avs := some r } }

/-- A new target is due on a channel (R435): channel 0's differs by 5 mV or more from the one last acknowledged, another's is not its fixed one;
and no request outstanding or waiting carries it. -/
def Part.avsDue (p : Part) (k : Nat) : Bool :=
  let want := p.wantMv k
  let ack := p.getF .pwr (PWR.AVS_STAT.ACK_MV.ix k)
  !p.silent k && (if k = 0 then decide (want + 5 ≤ ack ∨ ack + 5 ≤ want) else ack != want) &&
    !(p.ffy.avs.toList ++ p.ffy.avsq).any (fun r => r.chan == k && r.mv == some want)

/-- A request to a channel. One is outstanding across all channels, and the others wait in arrival order (R370): the first that waits is sent when
it is the channel's, else a new target joins the queue (R436). -/
def Part.avsRequest (p : Part) (k : Nat) : Part :=
  let fresh := AvsReq.mk k (some (p.wantMv k)) 0 false []
  let join := if p.avsDue k then { p with ffy := { p.ffy with avsq := p.ffy.avsq ++ [fresh] } } else p
  match p.ffy.avs, p.ffy.avsq with
  | some _, _ => join
  | none, r :: rest =>
    if r.chan = k then
      let q := ({ p with ffy := { p.ffy with avsq := rest } }).avsSend r
      if r.att = 0 then q.count .pwr 0 1 else q
    else join
  | none, [] => if p.avsDue k then (p.avsSend fresh).count .pwr 0 1 else p

/-- The outstanding request is acknowledged, a status read by any valid response, a written target by its VDone: the target is in force, a SILENT
channel answers again, and the load steps that waited may start (R436, R438, R439) (log entry 49, DEDUCED). -/
def Part.avsAck (p : Part) (k mv : Nat) : Part :=
  match p.ffy.avs with
  | none => p
  | some r =>
    if r.chan ≠ k ∨ (r.mv ≠ none ∧ r.mv ≠ some mv) then p
    else
      let back := p.silent k
      let p0 := { p with ffy := { p.ffy with avs := none } }
      let p1 := if r.mv = none then p0 else p0.setF .pwr (PWR.AVS_STAT.ACK_MV.ix k) mv
      let p2 := (p1.setF .pwr (PWR.AVS_STAT.STATE.ix k) 0).setF .pwr (PWR.AVS_STAT.ATTEMPT.ix k) 0
      let p3 := if back then ({ p2 with ffy := { p2.ffy with reads := Sparse.set p2.ffy.reads 0 k 0 } }).err .pwr 2 else p2
      if r.steps = [] then p3 else p3.releaseSteps r.steps

/-- A failed request is repeated; a pre-announcement that waits goes ahead of its retries, merged with it when it is one too (R370). -/
def Part.avsRetry (p : Part) (r : AvsReq) : Part :=
  match p.ffy.avsq with
  | q :: rest =>
    if q.pre then
      let l := if r.pre then { q with mv := some (max (q.mv.getD 0) (r.mv.getD 0)), att := r.att, steps := r.steps ++ q.steps } :: rest
        else q :: r :: rest
      { p with ffy := { p.ffy with avs := none, avsq := l } }
    else p.avsSend r
  | [] => p.avsSend r

/-- An attempt fails: it is repeated, and after the fourth the channel is SILENT, its rail at the safe voltage, and the load steps that waited for
it may start (R436, R437) (log entry 49, DEDUCED). -/
def Part.avsFail (p : Part) (k why : Nat) : Part :=
  match p.ffy.avs with
  | none => p
  | some r =>
    if r.chan ≠ k then p
    else
      let p0 := p.setF .pwr (PWR.AVS_STAT.LAST_FAIL.ix k) why
      if p.silent k then { p0 with ffy := { p0.ffy with avs := none, reads := Sparse.set p0.ffy.reads 0 k 0 } }
      else if r.att < 3 then ((p0.avsRetry { r with att := r.att + 1 }).count .pwr 1 1).err .pwr 0
      else
        let mine := r :: p0.ffy.avsq.filter (fun e => e.chan == k)
        let p1 := ({ p0 with ffy := { p0.ffy with avs := none, avsq := p0.ffy.avsq.filter (fun e => e.chan != k) } }).setF .pwr
          (PWR.AVS_STAT.STATE.ix k) 2
        let p2 := (((p1.err .pwr 1).count .pwr 6 1).count .pwr 7 1).emit (.pmbus k (safeMv k))
        (p2.releaseSteps (mine.flatMap (fun e => e.steps))).trigger (.degraded 4)

/-- A probe of a SILENT channel: three good reads, then a write of its target (R438) (log entry 49, DEDUCED). -/
def Part.avsProbe (p : Part) (k : Nat) (good : Bool) : Part :=
  if !p.silent k then p
  else
    let n := if good then Sparse.get p.ffy.reads 0 k + 1 else 0
    let p1 := { p with ffy := { p.ffy with reads := Sparse.set p.ffy.reads 0 k n } }
    if 3 ≤ n ∧ p1.ffy.avs = none then
      let mv := if k = 0 then min 850 (max 650 (650 + Config.vfuseAbove % 201 + (if p.ffy.cold then 15 else 0))) else safeMv k
      p1.avsSend (AvsReq.mk k (some mv) 0 false [])
    else p1

/-- The status of every channel is read once in each T2 period (R436); a SILENT channel has its own probes (R438). -/
def Part.statusReads (p : Part) : Part :=
  let due := fun (k : Nat) => !p.silent k && !(p.ffy.avs.toList ++ p.ffy.avsq).any (fun r => r.chan == k && r.mv == none)
  { p with ffy := { p.ffy with avsq := p.ffy.avsq ++ ((List.range 4).filter due).map (fun k => AvsReq.mk k none 0 false []) } }

/-! ### Sensors and trips (R424 to R426) -/

/-- A sensor reading in quarter degrees, from its 11-bit two's complement field. -/
def tempOf (v : Nat) : Int := if v < 1024 then (v : Int) else (v : Int) - 2048

/-- TRIP_C: below 80 acts as 80, above 120 as 120. -/
def Part.tripC (p : Part) : Nat := min 120 (max 80 (p.getF .ffy FFY.TEMP_CFG.TRIP_C))

/-- HYST_C: 0 acts as 1. -/
def Part.hystC (p : Part) : Nat := max 1 (p.getF .ffy FFY.TEMP_CFG.HYST_C)

/-- The readings of the eight sensors. -/
def Part.temps (p : Part) : List Int := (List.range 8).map (fun k => tempOf (p.getF .ffy (FFY.TEMP.VALUE.ix k)))

/-- Every sensor reads below a number of degrees. -/
def Part.coolerThan (p : Part) (c : Int) : Bool := p.temps.all (fun t => decide (t < 4 * c))

/-- The ceiling of the core current in A (R440). -/
def Part.ceiling (p : Part) : Nat :=
  if p.bit .pwr PWR.LOAD_STAT.THROTTLED then 300 * min 100 (max 10 (p.getF .pwr PWR.RAMP_CFG.THROT_PCT)) / 100 else 300

/-- A T2 period: sensors, WARN, THROTTLE and rails, a trip qualified by two samples in a row (R424, R425), and the status reads of the regulators
(R436). -/
def Part.thermal (p : Part) (vals : List Nat) (uv ov : Nat) : Part :=
  let p0 := (List.range 8).foldl (fun q k => (q.setF .ffy (FFY.TEMP.VALUE.ix k) (vals.getD k 0)).setF .ffy (FFY.TEMP.VALID.ix k) 1)
    (p.count .ffy 3 1)
  let warn : Int := p0.getF .ffy FFY.TEMP_CFG.WARN_C
  let throt : Int := p0.getF .ffy FFY.TEMP_CFG.THROT_C
  let hyst : Int := p0.hystC
  let hadWarn := p0.rd (Page.ffy.base + 0x020) &&& 1 != 0
  let p1 := if !p0.coolerThan warn then (if hadWarn then p0 else (p0.err .ffy 0).count .ffy 4 1)
    else if p0.coolerThan (warn - hyst) then
      (p0.wr (Page.ffy.base + 0x020) (p0.rd (Page.ffy.base + 0x020) &&& ~~~1)).headerFix .ffy
    else p0
  let hot := p1.bit .pwr PWR.LOAD_STAT.THROTTLED
  let p2 := if !p1.coolerThan throt then
      (if hot then p1 else (((p1.setF .pwr PWR.LOAD_STAT.THROTTLED 1).err .ffy 1).count .ffy 5 1).count .pwr 5 1)
    else if p1.coolerThan (throt - hyst) then p1.setF .pwr PWR.LOAD_STAT.THROTTLED 0 else p1
  let p3 := p2.setF .pwr PWR.LOAD_STAT.CEIL_A p2.ceiling
  let cold := if p3.coolerThan 25 then true else if p3.coolerThan 30 then p3.ffy.cold else false
  let overs := bitsOf (p3.temps.map (fun t => decide (4 * (p3.tripC : Int) < t)))
  let win := uv % 16 + 16 * (ov % 16)
  let p4 := (p3.setF .pwr PWR.RAIL_STAT.UV (p3.getF .pwr PWR.RAIL_STAT.UV ||| uv % 16)).setF .pwr PWR.RAIL_STAT.OV
    (p3.getF .pwr PWR.RAIL_STAT.OV ||| ov % 16)
  let twice := overs &&& p4.ffy.overs
  let railTwice := win &&& p4.ffy.window
  let qual : Option (Nat × Nat × Nat) :=
    if !p4.md.mode.rails then none
    else match (List.range 8).find? (fun k => nbit twice k) with
      | some k => some (1, k, 0)
      | none => match (List.range 8).find? (fun k => nbit railTwice k) with
        | some k => some (if k < 4 then 2 else 3, 0, k % 4)
        | none => none
  let p5 := if p4.md.mode.rails then p4.statusReads else p4
  { p5 with ffy := { p5.ffy with overs := overs, window := win, cold := cold,
                                 tripQ := if p5.ffy.tripQ.isSome then p5.ffy.tripQ else qual } }

/-- Trips: FAULT_N, the cause, the rails, SENTINEL (R426). -/
def Part.trip (p : Part) (cause sensor rail : Nat) : Part :=
  let p1 := ((p.setF .ffy FFY.TRIP_STAT.CAUSE cause).setF .ffy FFY.TRIP_STAT.SENSOR sensor).setF .ffy FFY.TRIP_STAT.RAIL rail
  let p2 := (p1.setF .ffy FFY.TRIP_STAT.FAULT 1).count .ffy 6 1
  ({ p2 with ffy := { p2.ffy with tripQ := none, tripAt := p2.now } }).trigger .trip

/-- The cause of the recorded trip has gone: no sensor above TRIP_C, every rail inside its window, REFCLK and core PLL good. -/
def Part.causeGone (p : Part) : Bool :=
  match p.getF .ffy FFY.TRIP_STAT.CAUSE with
  | 1 => p.ffy.overs == 0
  | 2 => p.ffy.window == 0
  | 3 => p.ffy.window == 0
  | _ => true

/-- Releases a trip's FAULT_N once the cause has gone (R426). -/
def Part.clearTrip (p : Part) : Part := if p.causeGone then p.setF .ffy FFY.TRIP_STAT.FAULT 0 else p

/-- Wakes are held: after a thermal trip until every sensor is below THROT_C - HYST_C, after another supply trip for 100 ms,
after WAKE_STEP while FAULT_N stands (R426, R433). -/
def Part.wakesHeld (p : Part) : Bool :=
  p.md.mode == .sentinel &&
  (match p.getF .ffy FFY.TRIP_STAT.CAUSE with
  | 0 => false
  | 1 => !p.coolerThan ((p.getF .ffy FFY.TEMP_CFG.THROT_C : Int) - p.hystC)
  | 6 => p.bit .ffy FFY.TRIP_STAT.FAULT
  | _ => decide (p.now < p.ffy.tripAt + 100000000))

/-- A qualified and armed wake event (R23, R425): held, or taken as a trigger. In a mode with the core running only a STANDBY entry in progress
has one, which it abandons (R427) (log entry 50, DEDUCED). -/
def Part.wakeEvent (p : Part) (src idx : Nat) : Part :=
  let p0 := p.count .ffy 0 1
  if p.md.mode.core ∧ p.entering = false then p
  else if p0.wakesHeld then { p0 with ffy := { p0.ffy with held := p0.ffy.held ++ [(src, idx)] } }
  else p0.trigger (.wake src idx)

/-- Logic leaves reset at the end of the wake sequence (R432): rails and PLLs are good, the part is in BOOT. -/
def Part.bootFromSentinel (p : Part) (cause : Nat) : Part :=
  let p1 := p.coreReset.setF .pwr PWR.RAIL_STAT.PG 0xF
  ({ p1 with ffy := { p1.ffy with tries := 0 } }).enter .boot cause

/-- The wake sequence completes from SENTINEL with every ready signal present (R432). -/
def Part.wakeDone (p : Part) : Part :=
  match p.md.mode, p.md.going with
  | .sentinel, some (.wake s _) => (p.bootFromSentinel (wakeCause s)).endTransition
  | _, _ => p

/-- A wake sequence that fails: rails off and one more attempt, then a WAKE_STEP trip (R433). -/
def Part.seqRetry (p : Part) : Part :=
  if p.ffy.tries = 0 then { (p.railsOff) with ffy := { p.railsOff.ffy with tries := 1 } }
  else
    let q := { p with ffy := { p.ffy with tries := 0 } }
    (q.railsOff.trip 6 0 0).endTransition

/-- A ready signal is missing at the end of its bound (R433), in a wake or in the wake sequence of a power cycle (R448). -/
def Part.wakeStepFail (p : Part) : Part :=
  match p.md.mode, p.md.going with
  | .sentinel, some g =>
    match g with
    | .wake _ _ => p.seqRetry
    | .powerCycle => p.seqRetry
    | _ => p
  | _, _ => p

/-- The rail-off hold of a power cycle ends and the wake sequence reaches BOOT (R448). -/
def Part.cycleDone (p : Part) : Part :=
  match p.md.going with
  | some .powerCycle => (p.bootFromSentinel 0xF).endTransition
  | _ => p

/-- A wake from STANDBY completes (R430): the part resumes the mode it left, or goes to BOOT when a retention word fails. -/
def Part.standbyWake (p : Part) (ok : Bool) : Part :=
  match p.md.mode, p.md.going with
  | .standby, some (.wake s _) =>
    if ok then
      let p1 := p.setF .clk CLK.PLL_STAT.STN_LOCK (p.getF .pwr PWR.UNIT_STAT.STN)
      (p1.enter p.md.from_ (wakeCause s)).startHold.endTransition
    else
      let p1 := (p.setF .ffy FFY.WAKE_LAST.RET_FAIL 1).err .ffy 3
      let p2 := { p1.coreReset with spare := [] }
      (p2.enter .boot 0xE).endTransition
  | _, _ => p

/-- STANDBY entry completes once the request that raises channel 0 has ended (R428): PLLs stop, the memories that are not retained are lost, and a held intent goes on to
SENTINEL (R29). -/
def Part.standbyDone (p : Part) : Part :=
  match p.md.going with
  | some _ =>
    if p.entering = true ∧ p.md.mode.core ∧ (p.ffy.avs.toList ++ p.ffy.avsq).any (fun r => r.pre) = false then
      let intent := p.md.sentIntent
      let p1 := p.setF .clk CLK.PLL_STAT.STN_LOCK 0
      let p2 := { p1 with ant := { p1.ant with ring := [] } }
      let p3 := (p2.enter .standby 8).settleGoing
      let p4 := if intent then (p3.railsOff.enter .sentinel 8) else p3
      p4.wakeWaiting
    else p
  | none => p

/-- An acknowledgement of STANDBY entry is missing: the entry is rejected with code 5 (R428). -/
def Part.standbyRefused (p : Part) : Part :=
  match p.md.going with
  | some _ => if p.entering then (p.settleGoing.rejectMode 5).wakeWaiting else p
  | none => p

end Sys2Proof.Machine
end

