-- ==== Sys2Proof/Machine/Coding.lean ====
section
/-! DEFINITION. The line coding of Smiwaven links (R64 to R68) and the bytes of a parcel (R121 to R125, R134, R140, R141, R144): blocks,
scrambler, PAM4 levels, control blocks, header bits, CRC-64, link control messages, initialisation vectors and ciphertext. -/

namespace Sys2Proof.Machine

/-! ### Blocks on a lane (R64, R65) -/

/-- The 64 payload bits in transmission order: byte 0 first, bit 7 of each byte first (R65). -/
def payBits (v : BitVec 64) : List Bool := (List.range 64).map (fun i => v.getLsbD (63 - i))

/-- One scrambler step on each bit (R65): `st` holds the last 58 bits sent, the latest in bit 0; each output is the input
added to the outputs 39 and 58 bits back. -/
def scramble (st : BitVec 58) : List Bool → BitVec 58 × List Bool
  | [] => (st, [])
  | b :: r =>
    let o := Bool.xor b (Bool.xor (st.getLsbD 38) (st.getLsbD 57))
    let x := scramble (st.shiftConcat o) r
    (x.1, o :: x.2)

/-- The receiver's inverse: self-synchronising, its state is the last 58 bits received (R65). -/
def descramble (st : BitVec 58) : List Bool → BitVec 58 × List Bool
  | [] => (st, [])
  | o :: r =>
    let x := descramble (st.shiftConcat o) r
    (x.1, Bool.xor o (Bool.xor (st.getLsbD 38) (st.getLsbD 57)) :: x.2)

/-- The PAM4 level of a pair of bits, the first sent first (R65). -/
def pam4 (a b : Bool) : Nat := match a, b with
  | false, false => 0
  | false, true => 1
  | true, true => 2
  | true, false => 3

/-- Consecutive pairs of bits as levels. -/
def levels : List Bool → List Nat
  | a :: b :: r => pam4 a b :: levels r
  | _ => []

/-- An inverted pair sends each level mirrored (R45, R57). -/
def invert (inv : Bool) (ls : List Nat) : List Nat := if inv then ls.map (fun x => 3 - x) else ls

/-- The bits of a block on its lane: the sync header as it stands, then the scrambled payload (R65). -/
def laneBits (st : BitVec 58) (b : Block) : BitVec 58 × List Bool :=
  let x := scramble st (payBits b.pay)
  (x.1, b.hdr.getLsbD 1 :: b.hdr.getLsbD 0 :: x.2)

/-- The levels of the blocks that one lane sends in turn. -/
def laneLevels (inv : Bool) (st : BitVec 58) : List Block → BitVec 58 × List Nat
  | [] => (st, [])
  | b :: r =>
    let x := laneBits st b
    let y := laneLevels inv x.1 r
    (y.1, invert inv (levels x.2) ++ y.2)

/-- Eight bytes as a block payload, byte 0 in the most significant byte. -/
def payOf (bytes : List Byte) : BitVec 64 :=
  BitVec.ofNat 64 ((List.range 8).foldl (fun a i => a * 256 + (bytes.getD i 0).toNat) 0)

/-- A data block of eight bytes (R64). -/
def Block.data (bytes : List Byte) : Block := Block.mk 1 (payOf bytes)

/-- A control block: byte 0 is the type (R64, R67). -/
def Block.ctl (bytes : List Byte) : Block := Block.mk 2 (payOf bytes)

/-- The control block types of R67. -/
def Block.idle : Block := Block.ctl [0x1E]

/-- An ALIGN block of a lane of a link (R67): the lane, the link and the station as the sender numbers them. -/
def Block.align (l k : Nat) : Block := Block.ctl [0x4B, BitVec.ofNat 8 k, BitVec.ofNat 8 (l % 2), BitVec.ofNat 8 (l / 2)]

/-- A TRAIN block (R144): TS type, chip number, station and link, EPOCH with protocol version 1, and RX_WINDOW 896. -/
def Block.train (ts chip l epoch : Nat) : Block :=
  Block.ctl [0x55, BitVec.ofNat 8 ts, BitVec.ofNat 8 (chip % 128), BitVec.ofNat 8 (16 * (l / 2) + 8 * (l % 2)),
    BitVec.ofNat 8 (16 * epoch + 1), BitVec.ofNat 8 (896 / 256), BitVec.ofNat 8 (896 % 256), 0]

/-- Byte `i` of a block's payload. -/
def Block.byte (b : Block) (i : Nat) : Nat := b.pay.toNat / 2 ^ (8 * (7 - i)) % 256

/-! ### Parcels (R121 to R125) -/

/-- One bit through the CRC register (R123). -/
def crc64Bit (c : BitVec 64) (b : Bool) : BitVec 64 := if Bool.xor c.msb b then (c <<< 1) ^^^ 0x42F0E1EBA9EA3693 else c <<< 1

/-- One byte, its most significant bit first (R123). -/
def crc64Byte (c : BitVec 64) (b : Byte) : BitVec 64 := (List.range 8).foldl (fun x i => crc64Bit x (b.getLsbD (7 - i))) c

/-- CRC-64 (R123): the register starts at all ones and the result is complemented. -/
def crc64 (bytes : List Byte) : BitVec 64 := ~~~(bytes.foldl crc64Byte (BitVec.allOnes 64))

/-- The 128 header bits (R122). -/
def ParcelHdr.pack (h : ParcelHdr) : Nat :=
  h.ptype * 2 ^ 124 + h.vc * 2 ^ 121 + b2n h.cfirst * 2 ^ 120 + b2n h.clast * 2 ^ 119 + h.cbytes * 2 ^ 111 + h.epoch * 2 ^ 107
    + h.seq * 2 ^ 87 + h.ack * 2 ^ 67 + h.ackMap * 2 ^ 51 + h.craVc * 2 ^ 48 + h.craCum * 2 ^ 32 + h.crbVc * 2 ^ 29
    + h.crbCum * 2 ^ 13 + b2n h.fo * 2 ^ 12 + b2n h.foc * 2 ^ 11 + h.rsv

/-- The header that 128 bits spell (R122). -/
def ParcelHdr.unpack (v : Nat) : ParcelHdr where
  ptype := v / 2 ^ 124 % 16
  vc := v / 2 ^ 121 % 8
  cfirst := v / 2 ^ 120 % 2 == 1
  clast := v / 2 ^ 119 % 2 == 1
  cbytes := v / 2 ^ 111 % 256
  epoch := v / 2 ^ 107 % 16
  seq := v / 2 ^ 87 % 2 ^ 20
  ack := v / 2 ^ 67 % 2 ^ 20
  ackMap := v / 2 ^ 51 % 65536
  craVc := v / 2 ^ 48 % 8
  craCum := v / 2 ^ 32 % 65536
  crbVc := v / 2 ^ 29 % 8
  crbCum := v / 2 ^ 13 % 65536
  fo := v / 2 ^ 12 % 2 == 1
  foc := v / 2 ^ 11 % 2 == 1
  rsv := v % 2048

/-- The 16 header bytes: bit 127 is bit 7 of byte 0 (R122). -/
def ParcelHdr.bytes (h : ParcelHdr) : List Byte := bytesOf 16 h.pack

/-- The CRC of a parcel's header and transmitted payload (R123). -/
def parcelCrc (h : ParcelHdr) (body : List Byte) : BitVec 64 := crc64 (h.bytes ++ body)

/-- The 280 bytes of a parcel: header, payload as transmitted, CRC with its most significant byte first (R121, R123). -/
def parcelBytes (h : ParcelHdr) (body : List Byte) : List Byte := h.bytes ++ body ++ bytesOf 8 (parcelCrc h body).toNat

/-- A parcel's 35 data blocks (R66, R121). -/
def parcelBlocks (bytes : List Byte) : List Block := (List.range 35).map (fun i => Block.data (bytes.drop (8 * i)))

/-- Bytes filled up to a parcel's 256 with zeros (R125). -/
def pad256 (bytes : List Byte) : List Byte := (bytes ++ List.replicate 256 0).take 256

/-- A cell of a unit (R155): 256 bytes of its wire form; behind the last byte of the last cell no rule says what a parcel carries
(log entry 87, DESIGN CHOICE). -/
def cellBytes (ctr : Nat) (u : Body) (k : Nat) : List Byte :=
  (((u.wire ctr).drop (256 * k)) ++ (List.range 256).map Config.padByte).take 256

/-- The payload of a parcel in plaintext (R125, R326). `unit` is the unit and cell number of a DATA parcel's cell. -/
def Payload.plain (ctr : Nat) (unit : Option (Body × Nat)) : Payload → List Byte
  | .cell (some u) => match unit with
    | some x => cellBytes ctr x.1 x.2
    | none => cellBytes ctr u 0
  | .cell none => match unit with
    | some x => cellBytes ctr x.1 x.2
    | none => pad256 []
  | .lctlBreak stn k cause => pad256 [1, BitVec.ofNat 8 stn, BitVec.ofNat 8 k, BitVec.ofNat 8 cause]
  | .lctlTimeReq e t1 => pad256 ([2, 1] ++ bytesOf 2 e ++ bytesOf 4 0 ++ bytesOf 8 t1)
  | .lctlTimeResp e t1 t2 t3 => pad256 ([2, 2] ++ bytesOf 2 e ++ bytesOf 4 0 ++ bytesOf 8 t1 ++ bytesOf 8 t2 ++ bytesOf 8 t3)
  | .lctlFoRsv c => pad256 ([3] ++ bytesOf 2 c ++ [0])
  | .lctlOther c => pad256 [BitVec.ofNat 8 c]
  | .tag t => pad256 (bytesOf 16 t.toNat)
  | .null c t => pad256 (bytesOf 8 c ++ bytesOf 16 t.toNat)

/-! ### Encryption (R140, R141, R397) -/

/-- The salt of a link direction's key, zero while it is unkeyed (R397). -/
def keySalt (key : Nat) : Nat := if key = 0 then 0 else (Config.linkSalt key).toNat

/-- The IV of a group (R141): the salt, EPOCH, the SEQ wraps of the epoch and the SEQ of the group's first parcel. -/
def groupIv (key epoch wraps seq : Nat) : Nat := keySalt key * 2 ^ 64 + epoch * 2 ^ 59 + wraps % 2 ^ 39 * 2 ^ 20 + seq

/-- The IV of a NULL (R141). -/
def nullIv (key epoch ctr : Nat) : Nat := keySalt key * 2 ^ 64 + 2 ^ 63 + epoch * 2 ^ 59 + ctr % 2 ^ 59

/-- AES-256-GCM encryption of the payload bytes from position `pos` of a group (R140): the keystream is a function nothing is known
of (log entry 86, DEDUCED). -/
def encrypt (key iv pos : Nat) (plain : List Byte) : List Byte :=
  plain.zipIdx.map (fun x => x.1 ^^^ Config.keystream key iv (pos + x.2))

/-- The part of a parcel that is encrypted (R125, R140): the payload of DATA and LCTL, under its group's IV. -/
def TxSlot.body (s : TxSlot) : List Byte :=
  let plain := s.load.plain s.ctr s.unit
  if s.hdr.ptype = 1 ∨ s.hdr.ptype = 4 then encrypt s.key s.iv (256 * s.gpos) plain else plain

/-! ### Sending blocks (R66, R68) -/

/-- The transmit polarity of a Smiwaven data lane follows its start entry (R45, R57). -/
def Part.txInv (p : Part) (c : Nat) : Bool :=
  (p.rd ((Page.serdes (c / 16)).base + 0x400 + 32 * (c % 16) + 4 * 6)).getLsbD 11

/-- One data lane of a link sends its blocks. -/
def Part.sendLane (p : Part) (c : Nat) (bs : List Block) : Part × List Nat :=
  let x := laneLevels (p.txInv c) (Sparse.get p.scr 0 c) bs
  ({ p with scr := Sparse.set p.scr 0 c x.1 }, x.2)

/-- The blocks of a stream that lane `k` carries when the first stands at stream position `pos`: block i on lane i mod 8 (R66). -/
def laneShare (pos k : Nat) (bs : List Block) : List Block :=
  (bs.zipIdx.filter (fun x => (pos + x.2) % 8 == k)).map (fun x => x.1)

/-- The next blocks of a link's stream leave on its eight data lanes (R66). `strm` counts the blocks since the first block of the last
ALIGN group, which stood at a multiple of 8 (log entry 88, DESIGN CHOICE). -/
def Part.sendBlocks (p : Part) (l : Nat) (bs : List Block) : Part :=
  let pos := (p.lk l).strm
  let x := (List.range 8).foldl (fun (a : Part × List (List Nat)) k =>
    let y := a.1.sendLane (8 * l + k) (laneShare pos k bs)
    (y.1, a.2 ++ [y.2])) (p, [])
  let q := x.1.setLk l { x.1.lk l with strm := pos + bs.length }
  { q with lines := q.lines ++ [(l, x.2)] }

/-- IDLE blocks fill the stream up to the next position that is a multiple of 8 (R68). -/
def Part.fillIdle (p : Part) (l : Nat) : Part :=
  let n := (8 - (p.lk l).strm % 8) % 8
  if n = 0 then p else p.sendBlocks l (List.replicate n Block.idle)

/-- An ALIGN group: eight ALIGN blocks at positions 8j to 8j + 7 (R68). -/
def Part.sendAlign (p : Part) (l : Nat) : Part :=
  let q := (p.fillIdle l).sendBlocks l ((List.range 8).map (Block.align l))
  (q.setLk l { q.lk l with strm := 8 }).emit (.align l)

/-- A TRAIN group, identical on all eight lanes and aligned (R144). -/
def Part.sendTrain (p : Part) (l ts : Nat) : Part :=
  let b := Block.train ts p.chip l (p.getF (.smw l) SMW.LINK_STAT.EPOCH_TX)
  ((p.fillIdle l).sendBlocks l (List.replicate 8 b)).emit (.train l ts)

/-- A parcel goes out on a link, after an ALIGN group when the next one could otherwise come later than 16,384 blocks per lane after the
last (R68). `body` is the payload as transmitted. -/
def Part.sendParcel (p : Part) (l : Nat) (h : ParcelHdr) (load : Payload) (body : List Byte) : Part :=
  let late := decide (16384 < ((p.lk l).strm + 35 + 7) / 8)
  let q := if late then p.sendAlign l else p
  (q.sendBlocks l (parcelBlocks (parcelBytes h body))).emit (.parcel l h load)

/-! ### The replay buffer of a station (R134) -/

/-- How a station's 512 KiB of replay memory are divided in a configuration (R134): bytes for the PCIe ports, link A and link B. -/
def replayShare (mode : Nat) : Nat × Nat × Nat :=
  if mode = 1 then (0, 262144, 262144) else if mode = 2 then (262144, 0, 262144) else (524288, 0, 0)

/-- Bytes of a Smiwaven replay slot: the parcel's 280 and 8 of TXO and time (R134). -/
def replaySlot : Nat := 288

/-- The replay slots of a link in its station's configuration (R134). -/
def Part.replaySlots (p : Part) (l : Nat) : Nat :=
  let x := replayShare (p.getF .glb (GLB.STN_STAT.MODE_ACT.ix (l / 2)))
  (if l % 2 = 0 then x.2.1 else x.2.2) / replaySlot

end Sys2Proof.Machine
end

