-- ==== Sys2Proof/Machine/Otp.lean ====
section
/-! DEFINITION. The OTP array (R389) and the configuration generations in it (R390 to R392). Words are 32 bits, byte 0 of a
word the lowest. The places of SEAL and REVOKE in the CTRL region and of the check of a root slot are the model's (log entry
14). -/

namespace Sys2Proof.Machine

/-- An OTP word (log entry 2, DESIGN CHOICE). -/
def otpWord (m : Sparse (BitVec 32)) (i : Nat) : BitVec 32 := Sparse.get m 0 i

/-- An OTP byte (log entry 14, DESIGN CHOICE). -/
def otpByte (m : Sparse (BitVec 32)) (o : Nat) : Nat := (otpWord m (o / 4)).toNat / 256 ^ (o % 4) % 256

/-- Programs bits of a word: a bit that is 1 stays 1 (R389). -/
def otpOr (m : Sparse (BitVec 32)) (i : Nat) (v : BitVec 32) : Sparse (BitVec 32) := Sparse.set m 0 i (otpWord m i ||| v)

/-- Number of 1 bits of a number below 2^n. -/
def ones (n v : Nat) : Nat := ((List.range n).filter (fun i => nbit v i)).length

/-- One step of CRC-32 (IEEE 802.3), least significant bit first. -/
def crcBit (c : BitVec 32) : BitVec 32 := if c &&& 1 = 1 then (c >>> 1) ^^^ 0xEDB88320 else c >>> 1

/-- CRC-32 over bytes (log entry 14, DESIGN CHOICE). -/
def crc32 (bytes : List Nat) : BitVec 32 :=
  ~~~(bytes.foldl (fun c b => (List.range 8).foldl (fun d _ => crcBit d) (c ^^^ BitVec.ofNat 32 b)) 0xFFFFFFFF)

/-- The bytes of words. -/
def wordBytes (l : List (BitVec 32)) : List Nat := l.flatMap (fun w => (List.range 4).map (fun i => w.toNat / 256 ^ i % 256))

/-- SEAL: blown when 5 or more of its 8 replicated bits read 1 (log entry 14, DESIGN CHOICE). -/
def otpSealed (m : Sparse (BitVec 32)) : Bool := decide (5 ≤ ones 8 (otpByte m 0))

/-- REVOKE bit `g`: the majority of its three copies (log entry 14, DESIGN CHOICE). -/
def otpRevoked (m : Sparse (BitVec 32)) (g : Nat) : Bool :=
  decide (2 ≤ ((List.range 3).filter (fun k => nbit (otpByte m (1 + k)) g)).length)

/-- An SVN counter: the 1 bits of a 256-bit thermometer, capped at 255; 0 Chitin, 1 Colony (log entry 14, DESIGN CHOICE). -/
def otpSvn (m : Sparse (BitVec 32)) (c : Nat) : Nat :=
  min 255 (((List.range 32).map (fun i => ones 8 (otpByte m (0x200 + 32 * c + i)))).sum)

/-- The 16 words of a root slot (log entry 14, DESIGN CHOICE). -/
def rootWords (m : Sparse (BitVec 32)) (r : Nat) : List (BitVec 32) := (List.range 16).map (fun i => otpWord m (0x40 + 16 * r + i))

/-- A root slot is programmed with a correct CRC (log entry 14, DESIGN CHOICE). -/
def rootOk (m : Sparse (BitVec 32)) (r : Nat) : Bool :=
  otpByte m (0x100 + 64 * r + 48) == 0xA5 && crc32 ((wordBytes (rootWords m r)).take 60) == otpWord m (0x40 + 16 * r + 15)

/-- The current ownership root: the highest programmed slot with a correct CRC. -/
def otpRoot (m : Sparse (BitVec 32)) : Nat := (([3, 2, 1, 0].find? (fun r => rootOk m r))).getD 0

/-- The 64 words of generation slot `g`. -/
def genWords (m : Sparse (BitVec 32)) (g : Nat) : List (BitVec 32) := (List.range 64).map (fun i => otpWord m (0x200 + 64 * g + i))

/-- A slot is blank when all of its bytes read 0. -/
def genBlank (m : Sparse (BitVec 32)) (g : Nat) : Bool := (genWords m g).all (· == 0)

/-! ### Fields of a generation (R390) -/

/-- Byte `o` of a generation. -/
def genByte (l : List (BitVec 32)) (o : Nat) : Nat := (l.getD (o / 4) 0).toNat / 256 ^ (o % 4) % 256

/-- A 16-bit field. -/
def genHalf (l : List (BitVec 32)) (o : Nat) : Nat := genByte l o + 256 * genByte l (o + 1)

/-- STN_CFG of a station in a generation. -/
def genStn (l : List (BitVec 32)) (n : Nat) : BitVec 32 := l.getD (16 + n) 0

/-- Lanes of a port with a width code, 1 x2 to 4 x16 (R35). -/
def portLanes (p code : Nat) : List Nat := if code = 0 then [] else (List.range (2 ^ code)).map (fun i => 2 * p + i)

/-- Whether a station configuration meets R34, R35 and R36. -/
def stnLegal (w : BitVec 32) : Bool :=
  let mode := w.toNat % 4
  let code := fun p => w.toNat / 2 ^ (3 * p + 4) % 8
  let ports := (List.range 8).filter (fun p => code p != 0)
  let lanes := ports.flatMap (fun p => portLanes p (code p))
  if mode = 3 then false
  else if mode = 1 then true
  else ports.all (fun p => code p ≤ 4 && decide (2 * p % 2 ^ code p = 0)) && decide (lanes.Nodup) &&
    (mode == 0 || (ports.all (· < 4) && lanes.all (· < 8)))

/-- Every field of a generation for slot `g` is legal but for root and signature (R391). -/
def genLegal (l : List (BitVec 32)) (g : Nat) : Bool :=
  genHalf l 0 == 0x4E47 && genByte l 2 == g && decide (genByte l 3 < 16) && decide (genByte l 4 < 4) && decide (genByte l 5 < 128) &&
    (decide (genByte l 6 < 16) || genByte l 6 == 0xFF) && (decide (genByte l 7 < 8) || genByte l 7 == 0xFF) &&
    genHalf l 10 == 0 && (List.range 16).all (fun n => stnLegal (genStn l n)) &&
    (List.range 16).all (fun i => decide (genByte l (128 + i) < 128)) &&
    (List.range 96).all (fun i => genByte l (156 + i) == 0) && crc32 ((wordBytes l).take 252) == l.getD 63 0

/-- Generation slot `g` is valid (R391); `sigs` has bit g set when the signature block verifies under the slot's root key
and that key's digest is the one in ROOTS. -/
def genValid (m : Sparse (BitVec 32)) (sigs g : Nat) : Bool :=
  let l := genWords m g
  !genBlank m g && genLegal l g && !otpRevoked m g && nbit sigs g &&
    (genByte l 4 == otpRoot m || (g == 0 && genByte l 4 == 0))

/-- The active generation: the valid slot with the highest number. -/
def genActive (m : Sparse (BitVec 32)) (sigs : Nat) : Option Nat := [7, 6, 5, 4, 3, 2, 1, 0].find? (fun g => genValid m sigs g)

/-- The slot WRITE_GEN takes: the lowest blank slot above the highest slot that is not blank, and never slot 0 (R392). -/
def genNext (m : Sparse (BitVec 32)) : Option Nat :=
  match [7, 6, 5, 4, 3, 2, 1, 0].find? (fun g => !genBlank m g) with
  | none => some 1
  | some g => if g = 7 then none else some (g + 1)

/-- Programs words from word index `i` on. -/
def otpWrite (m : Sparse (BitVec 32)) (i : Nat) (l : List (BitVec 32)) : Sparse (BitVec 32) :=
  (l.zipIdx).foldl (fun q e => otpOr q (i + e.2) e.1) m

end Sys2Proof.Machine
end

