-- ==== Sys2Proof/Machine/Stations.lean ====
section
/-! DEFINITION. Stations and their lanes: configuration (R34 to R38), the equalisers and the eye monitor (R40 to R43), the lane start table
(R44 to R50), adaptation and equalisation (R51 to R55), lanes and polarity (R56, R57), L0p widths (R70), margining (R71, R72) and sync
headers (R60, R63). -/

namespace Sys2Proof.Machine

/-- Station `n` is powered (PWR.UNIT_STAT). -/
def Part.stnOn (p : Part) (n : Nat) : Bool := nbit (p.getF .pwr PWR.UNIT_STAT.STN) n

/-- EN of a station as written. -/
def Part.stnEn (p : Part) (n : Nat) : Bool := p.bit .glb (GLB.STN_CFG.EN.ix n)

/-- The configuration written differs from the one in effect (R37). -/
def Part.stnDiffers (p : Part) (n : Nat) : Bool :=
  p.getF .glb (GLB.STN_CFG.MODE.ix n) != p.getF .glb (GLB.STN_STAT.MODE_ACT.ix n) ||
    p.getF .glb (GLB.STN_CFG.PORT_W.ix n) != p.getF .glb (GLB.STN_STAT.PORT_W_ACT.ix n)

/-- A write of STN_CFGn: rejected whole when it breaks R34 to R36, else stored, a change of a running station's
configuration pending until its next enable (R37) (log entry 67, DEDUCED). -/
def Part.stnCfgWrite (p : Part) (n : Nat) (w : BitVec 32) : Part :=
  if !stnLegal w then (p.setF .glb (GLB.STN_STAT.CFG_REJ.ix n) 1).err .glb 3
  else
    let p1 := p.wr (Page.glb.base + 0x140 + 4 * n) (w &&& 0x0FFFFFF7)
    p1.setF .glb (GLB.STN_STAT.CFG_PEND.ix n) (b2n (p1.stnOn n && p1.stnDiffers n))

/-- A station enable announces its load step (R38 steps 1 and 2). -/
def Part.stnAnnounce (p : Part) (n : Nat) : Part :=
  if p.stnEn n && !p.stnOn n && !p.ffy.steps.contains (.station n) && !p.ffy.ready.contains (.station n) then p.announce (.station n)
  else p

/-! ### The lane start table -/

/-- The default start entry of a group (R48), VALID 0. -/
def defaultEntry (g : Nat) : Nat :=
  if g = 0 then 8 * 16 + 32 * 2 ^ 16
  else (if g ≤ 3 then 7 else if g ≤ 5 then 4 else 3) + 16 * 16 + 2 ^ 10 + 32 * 2 ^ 16

/-- A Jextum entry is valid for its group (R40, R48). -/
def entryValid (g v : Nat) : Bool :=
  v / 2 ^ 12 % 2 == 1 && decide (v / 16 % 64 ≤ 48) &&
    (g == 0 || (decide (g ≤ 5) && decide (v % 16 ≤ 10)) || (g == 6 && decide (v % 16 ≤ 7)))

/-- Chip lane of lane `l` of station `n`: 16 and 17 are the clock lanes (R33). -/
def chipLane (n l : Nat) : Nat := if l < 16 then 16 * n + l else 256 + 2 * n + (l - 16)

/-- The groups of a lane that are used: clock lanes use group 6 only (R44). -/
def laneGroups (l : Nat) : List Nat := if l < 16 then [0, 1, 2, 3, 4, 5, 6] else [6]

/-- The entry Chitin's verified copy holds for a lane and group. -/
def Part.jextEntry (p : Part) (n l g : Nat) : Nat :=
  match p.jext with
  | none => 0
  | some m => (Sparse.get m 0xFFFFFFFF (chipLane n l * 8 + g)).toNat

/-- Chitin writes the lane start table of a station (R38 step 5, R48). -/
def Part.loadLanes (p : Part) (n : Nat) : Part :=
  let all := (List.range 18).flatMap (fun l => (laneGroups l).map (fun g => (l, g)))
  let bad := all.any (fun e => !entryValid e.2 (p.jextEntry n e.1 e.2))
  let p1 := all.foldl (fun q e =>
    let v := q.jextEntry n e.1 e.2
    q.wr ((Page.serdes n).base + 0x400 + 32 * e.1 + 4 * e.2)
      (BitVec.ofNat 32 (if entryValid e.2 v then v else defaultEntry e.2) &&& 0x00FF1FFF)) p
  let p2 := p1.setF .glb (GLB.STN_STAT.JX_DEFAULT.ix n) (b2n bad)
  if bad then p2.err (.serdes n) 4 else p2

/-- A start entry in force. -/
def Part.laneStart (p : Part) (n l g : Nat) : Nat := (p.rd ((Page.serdes n).base + 0x400 + 32 * l + 4 * g)).toNat

/-- The CTLE window of a start entry (R50). -/
def ctleLo (e : Nat) : Nat := e / 16 % 64 - 6

/-- Upper end of the window. -/
def ctleHi (e : Nat) : Nat := min 48 (e / 16 % 64 + 6)

/-! ### The equalisers and the eye monitor (R40 to R43) -/

/-- The coefficients of Smiwaven preset Sk in hundredths of full swing: pre-cursor, post-cursor, main cursor (R41). -/
def smiwavenPreset (k : Nat) : Int × Int × Int :=
  let x := ([(0, 0), (0, -10), (0, -20), (-5, -10), (-5, -20), (-10, -10), (-10, -20), (-10, -25)] : List (Int × Int)).getD k (0, 0)
  (x.1, x.2, 100 - x.1.natAbs - x.2.natAbs)

/-- Coefficients of the transmit FFE of a Smiwaven lane, from the preset in use (R40, R41). -/
def Part.laneFfe (p : Part) (n l : Nat) : Int × Int × Int := smiwavenPreset (p.getF (.serdes n) (SERDES.LANE_STAT.TX_PRESET_CUR.ix l))

/-- CTLE peaking in tenths of a dB (R42). -/
def ctlePeaking (code : Nat) : Nat := 5 * code

/-- Range of DFE tap `k` of 12 in thousandths of the main cursor: tap 1, which is number 0, ±400, the others ±150 (R42). -/
def tapRange (k : Nat) : Int := if k = 0 then 400 else 150

/-- The DFE taps of a lane: while it is enabled they adapt, within their ranges, to values no rule states; while it is disabled they are 0
(R42) (log entry 89, DESIGN CHOICE). -/
def Part.adaptDfe (p : Part) (n l : Nat) : Part :=
  let c := chipLane n l
  if p.bit (.serdes n) (SERDES.LANE_STAT.DFE_ON.ix l) then
    { p with freeCtr := p.freeCtr + 1, dfe := Sparse.put p.dfe c ((List.range 12).map (fun k =>
      max (-(tapRange k)) (min (tapRange k) (Config.dfeTap p.freeCtr k)))) }
  else { p with dfe := Sparse.del p.dfe c }

/-- DFE tap values of a lane, 0 while none is stored. -/
def Part.taps (p : Part) (n l : Nat) : List Int := Sparse.get p.dfe (List.replicate 12 0) (chipLane n l)

/-- A rate group runs PAM4, with three eyes (R40, R43). -/
def groupEyes (g : Nat) : Nat := if 4 ≤ g then 3 else 1

/-- FOM of a measurement (R43): floor(255 × min(Hn, Wn)), the least over all eyes; an eye that is missing is closed. -/
def fomOf (g : Nat) (eyes : List (Nat × Nat)) : Nat :=
  let least := (List.range (groupEyes g)).foldl (fun m i =>
    let e := eyes.getD i (0, 0)
    min m (min e.1 e.2)) 65536
  255 * least / 65536

/-- Records a lane's FOM and compares it with FOM_MIN (R53). -/
def Part.laneFom (p : Part) (n l fom : Nat) : Part :=
  let e := p.laneStart n l (p.getF (.serdes n) (SERDES.LANE_STAT.GROUP.ix l))
  let p1 := p.setF (.serdes n) (SERDES.LANE_STAT.FOM.ix l) fom
  if fom < e / 2 ^ 16 % 256 then (p1.setF (.serdes n) (SERDES.LANE_STAT.WEAK.ix l) 1).err (.serdes n) 0
  else p1.setF (.serdes n) (SERDES.LANE_STAT.WEAK.ix l) 0

/-- ADAPT_CLAMP (R54): the code sits on a window edge other than 0 or 48, and its FOM exceeds its inner neighbour's by more than HYST. -/
def Part.clampCheck (p : Part) (n l fom inner : Nat) : Part :=
  let pg := Page.serdes n
  let c := p.getF pg (SERDES.LANE_STAT.CTLE_CUR.ix l)
  let e := p.laneStart n l (p.getF pg (SERDES.LANE_STAT.GROUP.ix l))
  if ((c = ctleLo e ∧ c ≠ 0) ∨ (c = ctleHi e ∧ c ≠ 48)) ∧ inner + p.getF pg SERDES.ADAPT_CTL.HYST < fom then p.err pg 5 else p

/-! ### Initial adaptation (R50, R51, R55) -/

/-- The sweep's choice among codes with their FOMs in rising order of the code (R51): a higher FOM wins, a tie goes to the code nearer the
start code, and of two equally near the lower stays. -/
def sweepPick (start : Nat) (best : Option (Nat × Nat)) : List (Nat × Nat) → Option (Nat × Nat)
  | [] => best
  | (n, f) :: r =>
    let away := fun (c : Nat) => ((c : Int) - (start : Int)).natAbs
    let take := match best with
      | none => true
      | some (c, b) => decide (b < f) || (f == b && decide (away n < away c))
    sweepPick start (if take then some (n, f) else best) r

/-- The codes of a start entry's window with the FOMs a sweep measures. -/
def sweepFoms (e g : Nat) (m : LaneMeas) : List (Nat × Nat) :=
  (List.range (ctleHi e + 1 - ctleLo e)).map (fun i => (ctleLo e + i, fomOf g (m.sweep.getD i [])))

/-- The far-end preset that is kept (R55): the highest FOM, the lowest preset number on a tie. -/
def presetPick : List (Nat × Nat) → Option (Nat × Nat)
  | [] => none
  | (k, f) :: r => match presetPick r with
    | none => some (k, f)
    | some b => if f < b.2 then some b else some (k, f)

/-- The far-end presets the part asks for, in ascending order: those of EQ_CAND.PRESET_MASK; with an empty mask only the far end's initial
preset, which is no number (R55). -/
def Part.eqMask (p : Part) (n : Nat) : List Nat := (List.range 11).filter (fun k => nbit (p.getF (.serdes n) SERDES.EQ_CAND.PRESET_MASK) k)

/-- Equalisation of a PCIe lane at 8 GT/s and above (R55): the part steers the far end's transmitter, and honours the presets that the far end
asks of its own as far as PCIe permits them (0 to 10). -/
def Part.equalise (p : Part) (n l g : Nat) (m : LaneMeas) : Part :=
  if g = 0 ∨ 6 ≤ g then p
  else
    let asks := p.eqMask n
    let keep := (presetPick (asks.zipIdx.map (fun x => (x.1, fomOf g (m.presets.getD x.2 []))))).map (fun x => x.1)
    let p1 := ({ p with farPreset := Sparse.set p.farPreset none (chipLane n l) keep }).emit (.eqAsk (chipLane n l) asks keep)
    (m.asked.filter (fun k => k ≤ 10)).foldl (fun (q : Part) k => q.setF (.serdes n) (SERDES.LANE_STAT.TX_PRESET_CUR.ix l) k) p1

/-- A lane starts at a rate group from its start entry, and nothing adapted before is carried over (R50): the preset of the entry is set, the
CTLE stands at the start code, the DFE is as DFE_EN says, background adaptation will begin on the lower side (R51). A measurement, once
there is one, takes the lane through equalisation (R55) and the sweep (R51): the code it settles on, its FOM (R53, R54) and the lane's
lock. At 2.5 and 5 GT/s there is no sweep, and clock lanes keep their start code (log entry 71, DEDUCED). -/
def Part.startLane (p : Part) (n l g : Nat) (found : Option LaneMeas) : Part :=
  let e := p.laneStart n l g
  let pg := Page.serdes n
  let p1 := ((p.setF pg (SERDES.LANE_STAT.CTLE_CUR.ix l) (e / 16 % 64)).setF pg (SERDES.LANE_STAT.DFE_ON.ix l) (e / 2 ^ 10 % 2)).setF pg
    (SERDES.LANE_STAT.POL_INV_RX.ix l) 0
  let p2 := (p1.setF pg (SERDES.LANE_STAT.TX_PRESET_CUR.ix l) (e % 16)).setF pg (SERDES.LANE_STAT.GROUP.ix l) g
  let p3 := { p2.setF pg (SERDES.LANE_STAT.LOCKED.ix l) 0 with side := Sparse.set p2.side false (16 * n + l) false }
  let p4 := p3.adaptDfe n l
  match found with
  | none => p4
  | some m =>
    if 16 ≤ l then p4
    else
      let p5 := (p4.setF pg (SERDES.LANE_STAT.POL_INV_RX.ix l) (b2n m.inverted)).equalise n l g m
      let foms := sweepFoms e g m
      let pick := if g = 0 then (e / 16 % 64, fomOf g (m.sweep.getD 0 [])) else (sweepPick (e / 16 % 64) none foms).getD (e / 16 % 64, 0)
      let p6 := (p5.setF pg (SERDES.LANE_STAT.CTLE_CUR.ix l) pick.1).setF pg (SERDES.LANE_STAT.LOCKED.ix l) 1
      let p7 := p6.laneFom n l pick.2
      let inner := if pick.1 = ctleLo e then pick.1 + 1 else pick.1 - 1
      match foms.find? (fun x => x.1 == inner) with
      | some x => if g = 0 then p7 else p7.clampCheck n l pick.2 x.2
      | none => p7

/-- A margining run in progress is abandoned: DONE with ERR_CNT 0xFF (R72). -/
def Part.dropMargin (p : Part) (n : Nat) (lanes : List Nat) : Part :=
  let pg := Page.serdes n
  if p.bit pg SERDES.MARGIN_STAT.BUSY && lanes.contains (p.getF pg SERDES.MARGIN_CTL.LANE) then
    ((p.setF pg SERDES.MARGIN_STAT.BUSY 0).setF pg SERDES.MARGIN_STAT.DONE 1).setF pg SERDES.MARGIN_STAT.ERR_CNT 0xFF
  else p

/-- Width code in effect of a local port: 0 absent, else lanes are 2 to that power (R35). -/
def Part.widthCode (p : Part) (t : Nat) : Nat := p.getF .glb (GLB.STN_STAT.PORT_W_ACT.ix (t / 8)) / 8 ^ (t % 8) % 8

/-- Lanes of a local port, by the widths in effect. -/
def Part.lanesOf (p : Part) (t : Nat) : List Nat := portLanes (t % 8) (p.widthCode t)

/-- The lanes a port trains on at a width: its lowest or, reversed, its highest (R56). -/
def Part.trainedLanes (p : Part) (t width : Nat) (reversed : Bool) : List Nat :=
  let all := p.lanesOf t
  if reversed then all.drop (all.length - width) else all.take width

/-- A width PCIe has, within a port's configured width (R56, R70). -/
def Part.widthFits (p : Part) (t width : Nat) : Bool := [1, 2, 4, 8, 16].contains width && decide (width ≤ (p.lanesOf t).length)

/-- Rate group of a PCIe rate code, 0 for 2.5 GT/s to 6 for 128 GT/s (R44). -/
def rateGroup (r : Nat) : Nat := r - 1

/-- FLIT mode at 64 and 128 GT/s; below, as both ends have advertised it (R69). -/
def flitAt (rate : Nat) (both : Bool) : Bool := decide (5 ≤ rate) || both

/-- A rate change or retraining of a port restarts its lanes (R50, R72); `found` gives what each lane measures, the lowest lane first
(log entry 71, DEDUCED). -/
def Part.rateChange (p : Part) (t rate : Nat) (found : List LaneMeas) : Part :=
  let n := t / 8
  let lanes := p.lanesOf t
  let p1 := ((p.dropMargin n lanes).setF (.port t) PORT.PORT_STAT.RATE rate).setF (.port t) PORT.PORT_STAT.FLIT
    (b2n (flitAt rate (p.bit (.port t) PORT.PORT_STAT.FLIT)))
  (lanes.zipIdx).foldl (fun q e => q.startLane n e.1 (rateGroup rate) (found[e.2]?)) p1

/-- What training abandons on a port's lanes, which restart when it is done (R72). -/
def Part.retrain (p : Part) (t : Nat) : Part :=
  (p.lanesOf t).foldl (fun (q : Part) l => q.setF (.serdes (t / 8)) (SERDES.LANE_STAT.LOCKED.ix l) 0) (p.dropMargin (t / 8) (p.lanesOf t))

/-- The station's lane numbers of a link's data lanes, and of its clock lane (R33, R34). -/
def linkLanes (l : Nat) : List Nat := (List.range 8).map (fun k => 8 * (l % 2) + k)

/-- The lanes of a link start from group 6 (R40, R44, R50, R72), and what they count of sync headers starts afresh. -/
def Part.startLink (p : Part) (l : Nat) : Part :=
  let n := l / 2
  let p1 := p.dropMargin n (linkLanes l)
  let p2 := (linkLanes l ++ [16 + l % 2]).foldl (fun (q : Part) k => q.startLane n k 6 none) p1
  { p2 with laneRx := p2.laneRx.filter (fun e => e.1 / 8 != l) }

/-- Stores a link's state (LINK_STAT.STATE). -/
def Part.setLinkState (p : Part) (l st : Nat) : Part :=
  let q := p.setF (.smw l) SMW.LINK_STAT.STATE st
  q.setLk l { q.lk l with since := q.now }

/-- Entry to CLOCK_WAIT: the lanes restart (R50, R72), the transmitter takes the next epoch and sends TS1 (R143, R145). -/
def Part.enterWait (p : Part) (l : Nat) : Part :=
  let q := (p.startLink l).setF (.smw l) SMW.LINK_STAT.EPOCH_TX ((p.getF (.smw l) SMW.LINK_STAT.EPOCH_TX + 1) % 16)
  (q.setLinkState l 1).sendTrain l 1

/-- A station that Firefly has let start powers up (R38 steps 3 to 6): its configuration takes effect, the lane start table
is loaded, receiver detection of its ports, which stand in Detect (R519), and the lock sequence of its links begin. A station that fails to
come up stays disabled. -/
def Part.stnPowerUp (p : Part) (n : Nat) (ok : Bool) : Part :=
  if !p.ffy.ready.contains (.station n) then p
  else
    let p0 := { p with ffy := { p.ffy with ready := p.ffy.ready.erase (.station n) } }
    if !ok || !p0.stnEn n then p0
    else
      let p1 := p0.setF .pwr PWR.UNIT_STAT.STN (p0.getF .pwr PWR.UNIT_STAT.STN ||| 2 ^ n)
      let p2 := p1.setF .clk CLK.PLL_STAT.STN_LOCK (p1.getF .clk CLK.PLL_STAT.STN_LOCK ||| 2 ^ n)
      let p3 := (p2.setF .glb (GLB.STN_STAT.MODE_ACT.ix n) (p2.getF .glb (GLB.STN_CFG.MODE.ix n))).setF .glb
        (GLB.STN_STAT.PORT_W_ACT.ix n) (p2.getF .glb (GLB.STN_CFG.PORT_W.ix n))
      let p4 := (p3.setF .glb (GLB.STN_STAT.POWERED.ix n) 1).setF .glb (GLB.STN_STAT.CFG_PEND.ix n) 0
      let p5 := (p4.startHold).loadLanes n
      let p6 := ((List.range 8).map (fun i => 8 * n + i)).foldl (fun q t =>
        if q.present t then q.setPt t { q.pt t with ltssm := .detect } else q) p5
      let mode := p6.getF .glb (GLB.STN_STAT.MODE_ACT.ix n)
      [2 * n, 2 * n + 1].foldl (fun (q : Part) (l : Nat) =>
        if (mode = 1 ∨ (mode = 2 ∧ l % 2 = 1)) ∧ q.bit (.smw l) SMW.LINK_CTL.EN then q.enterWait l else q) p6

/-- The station of a link is powered and configured for it: Smiwaven for both links, mixed for link B (R34). -/
def Part.linkPresent (p : Part) (l : Nat) : Bool :=
  let mode := p.getF .glb (GLB.STN_STAT.MODE_ACT.ix (l / 2))
  p.stnOn (l / 2) && (mode == 1 || (mode == 2 && l % 2 == 1))

/-- A port in Detect that hears a partner goes on to Polling, and one in L1.2 follows it into Recovery (R445, R519) (log entry 90, DEDUCED). -/
def Part.idleFollow (p : Part) (t : Nat) : Part :=
  let b := p.pt t
  if b.ltssm = .detect then p.setPt t { b with ltssm := .training }
  else if b.ltssm = .l12 then p.setPt t { b with ltssm := .recovery } else p

/-! ### Adaptation, widths, margining -/

/-- The port whose trained lanes include a data lane, and a link that owns it. -/
def Part.laneUp (p : Part) (n l : Nat) : Bool :=
  let mode := p.getF .glb (GLB.STN_STAT.MODE_ACT.ix n)
  if mode = 1 ∨ (mode = 2 ∧ 8 ≤ l) then p.linkState (2 * n + l / 8) == 5
  else ((List.range 8).map (fun k => 8 * n + k)).any (fun t => (p.lanesOf t).contains l && ((p.pt t).ltssm == .l0 || (p.pt t).ltssm == .l0p))

/-- Background adaptation of a lane in L0: the trial code next to the current one on alternating sides; the data path moves when
the trial's FOM beats the current one by more than HYST (R51 to R54). `fCur` and `fTry` are the eyes measured at the current and at the
trial code (log entry 71, DEDUCED). -/
def Part.bgAdapt (p : Part) (n l : Nat) (eCur eTry : List (Nat × Nat)) : Part :=
  let pg := Page.serdes n
  let busy := p.bit pg SERDES.MARGIN_STAT.BUSY && p.getF pg SERDES.MARGIN_CTL.LANE == l
  if !p.stnOn n || !p.bit pg SERDES.ADAPT_CTL.BG_EN || nbit (p.getF pg SERDES.ADAPT_CTL.FREEZE) l || busy || !p.laneUp n l ||
      !p.bit pg (SERDES.LANE_STAT.LOCKED.ix l) then p
  else
    let g := p.getF pg (SERDES.LANE_STAT.GROUP.ix l)
    let fCur := fomOf g eCur
    let fTry := fomOf g eTry
    let c := p.getF pg (SERDES.LANE_STAT.CTLE_CUR.ix l)
    let e := p.laneStart n l g
    let up := Sparse.get p.side false (16 * n + l)
    let inWin := fun (t : Int) => decide ((ctleLo e : Int) ≤ t ∧ t ≤ (ctleHi e : Int))
    let d : Int := if up then 1 else -1
    let t := if inWin (c + d) then (c : Int) + d else (c : Int) - d
    let hyst := p.getF pg SERDES.ADAPT_CTL.HYST
    let p1 := ({ p with side := Sparse.set p.side false (16 * n + l) (!up) }).adaptDfe n l
    if inWin t then
      (if fCur + hyst < fTry then (p1.setF pg (SERDES.LANE_STAT.CTLE_CUR.ix l) t.toNat).laneFom n l fTry
       else (p1.setF pg (SERDES.LANE_STAT.FOM.ix l) fCur).clampCheck n l fCur fTry)
    else p1.setF pg (SERDES.LANE_STAT.FOM.ix l) fCur

/-- Applies an L0p width (R70). -/
def Part.setWidth (p : Part) (t w : Nat) : Part :=
  (p.setF (.port t) PORT.PORT_STAT.WIDTH w).setPt t { p.pt t with ltssm := .l0p }

/-- The L0p exit latency that the part advertises, in µs (R70). -/
def l0pExitUs : Nat := 1000

/-- An L0p width reduction needs no precondition (R70). -/
def Part.widthDown (p : Part) (t w : Nat) : Part :=
  if ((p.pt t).ltssm = .l0 ∨ (p.pt t).ltssm = .l0p) ∧ p.widthFits t w ∧ w < p.getF (.port t) PORT.PORT_STAT.WIDTH then p.setWidth t w else p

/-- An L0p width increase starts once its pre-announcement is acknowledged, and asks for it first (R70, R439). -/
def Part.widthUp (p : Part) (t w : Nat) : Part :=
  let u := LoadStep.width t w
  if ¬((p.pt t).ltssm = .l0p ∧ p.getF (.port t) PORT.PORT_STAT.WIDTH < w ∧ p.widthFits t w) then p
  else
    let p1 := if p.ffy.steps.contains u || p.ffy.ready.contains u then p else p.announce u
    if p1.ffy.ready.contains u then
      let p2 := ({ p1 with ffy := { p1.ffy with ready := p1.ffy.ready.erase u } }).startHold
      p2.setWidth t w
    else p1

/-- The receiver margining parameters the part reports (R71). -/
structure MarginCaps where
  timingIndependent : Bool
  timingSteps : Nat
  maxTimingPercentUi : Nat
  voltageIndependent : Bool
  voltageSteps : Nat
  maxVoltageMv : Nat
  independentSampler : Bool
  maxErrors : Nat
  deriving DecidableEq, Repr

/-- The values of R71's table. -/
def marginCaps : MarginCaps := MarginCaps.mk true 32 50 true 64 300 true 63

/-- STEP as it acts (SERDES.MARGIN_CTL): 0 to 32 for timing, 0 to 63 for voltage; above the range it is clamped (R71). -/
def marginStep (voltage : Bool) (n : Nat) : Nat := min n (if voltage then marginCaps.voltageSteps - 1 else marginCaps.timingSteps)

/-- A write of MARGIN_CTL with GO (R71): a run starts with STEP clamped, an invalid lane is rejected; GO is ignored while BUSY. What becomes of
the other fields of a write while BUSY no rule says: the model discards the whole write (log entry 93, DESIGN CHOICE). -/
def Part.marginGo (p : Part) (n : Nat) (w : BitVec 32) : Part :=
  let pg := Page.serdes n
  if p.bit pg SERDES.MARGIN_STAT.BUSY then p
  else
    let p1 := p.storeWord pg SERDES.MARGIN_CTL.LANE.off w 0
    if 15 < p1.getF pg SERDES.MARGIN_CTL.LANE then
      (p1.setF pg SERDES.MARGIN_STAT.DONE 1).setF pg SERDES.MARGIN_STAT.ERR_CNT 0xFF
    else
      let p2 := p1.setF pg SERDES.MARGIN_CTL.STEP (marginStep (p1.bit pg SERDES.MARGIN_CTL.TYPE) (p1.getF pg SERDES.MARGIN_CTL.STEP))
      (p2.setF pg SERDES.MARGIN_STAT.BUSY 1).setF pg SERDES.MARGIN_STAT.ERR_CNT 0

/-- A margining run ends after 2^20 UI or at ERR_LIMIT, 0 acting as 1 (R71) (log entry 71, DEDUCED). -/
def Part.marginEnd (p : Part) (n errors : Nat) : Part :=
  let pg := Page.serdes n
  if !p.bit pg SERDES.MARGIN_STAT.BUSY then p
  else
    let lim := max 1 (p.getF pg SERDES.MARGIN_CTL.ERR_LIMIT)
    let p1 := ((p.setF pg SERDES.MARGIN_STAT.BUSY 0).setF pg SERDES.MARGIN_STAT.DONE 1).setF pg SERDES.MARGIN_STAT.ERR_CNT
      (min lim errors)
    if lim ≤ errors then p1.setF pg SERDES.MARGIN_STAT.LIMIT 1 else p1

/-! ### Received blocks (R60, R63, R64, R67) -/

/-- A data lane of a link, by the lane of the stream: reversed links run from lane 7 down (R57). -/
def Part.streamLane (p : Part) (l k : Nat) : Nat := 8 * l + (if (p.lk l).rev then 7 - k % 8 else k % 8)

/-- A sync header arrives on a chip lane (R60, R63). -/
def Part.syncHeader (p : Part) (c : Nat) (valid : Bool) : Part :=
  let r := Sparse.get p.laneRx LaneRx.reset c
  { p with laneRx := Sparse.set p.laneRx LaneRx.reset c (LaneRx.mk (r.bad.shiftConcat (!valid)) (if valid then min 64 (r.good + 1) else 0)) }

/-- Invalid headers among the last 64 of a lane. -/
def Part.badHeaders (p : Part) (c : Nat) : Nat :=
  ((List.range 64).filter (fun i => (Sparse.get p.laneRx LaneRx.reset c).bad.getLsbD i)).length

end Sys2Proof.Machine
end

