-- ==== Sys2Proof/Machine/Operands.lean ====
section
/-! DEFINITION. How a command's operands reach the part: lifting an operation to the state, the page and offset an access
names, and the access check that every command which is a register write makes first. -/

namespace Sys2Proof.Machine

/-- The next state after an operation on the part; the queue, the OTP and Chitin's records stay. -/
def State.via (s : State) (f : Part → Part) : Host.Outcome State Fault Refusal := .next { s with part := f s.part }

/-- Runs a register write's effect when the requester may write the register; else the refusal is recorded (R482, R483). The effect of a write to
a block-specific register of a page of another clock comes after the requester's earlier posted writes to the page (R16), and while the page's clock
is stopped the write is discarded and recorded (R19) (log entry 77, DEDUCED). -/
def Part.ifPermitted (p : Part) (req : Requester) (pg : Page) (o : Nat) (f : Part → Part) : Part :=
  let x := p.permitted req pg o
  if !x.1 then x.2
  else if o < 0x100 ∨ pg.owner = 0 then f x.2
  else if x.2.clkStopped pg then x.2.xingDrop pg
  else f (x.2.settleAll req pg.base)

/-- A register write that is submitted to the Guarded Write Port (R482, R408), or made by Chitin: whether it goes on to that port's own checks. A
locked page discards it (R478), a stopped clock drops it (R19), and it comes after the requester's earlier posted writes to the page (R16) (log
entry 77, DEDUCED). -/
def Part.guardAccess (p : Part) (req : Requester) (pg : Page) (o : Nat) : Bool × Part :=
  match req with
  | .cf _ => (false, p)
  | r =>
    if !p.md.mode.core || p.ffy.chipRst then (false, p)
    else
      let q := p.dropShadow r
      if r = .colony ∧ q.bit pg HDR.PAGE_CTL.LOCK then (false, (q.viol r true 4 (pg.base + o)).count .glb 7 1)
      else
        let q1 := q.count .glb 0 1
        if q1.clkStopped pg then (false, q1.xingDrop pg)
        else (true, if pg.owner = 0 then q1 else q1.settleAll r pg.base)

/-- Runs an effect on the page that an address names. -/
def Part.onPage (p : Part) (req : Requester) (addr : Nat) (o : Nat) (f : Part → Page → Part) : Part :=
  match req.locate addr with
  | none => if !p.md.mode.core || p.ffy.chipRst then p else (p.dropShadow req).viol req true 3 addr
  | some (pg, _) => p.ifPermitted req pg o (fun q => f q pg)

end Sys2Proof.Machine
end

