-- ==== Sys2Proof/Machine/Registers.lean ====
section
/-! DEFINITION. Meanings of the register commands: writes, posted effects, reads, and the common page header's own actions
(R9, R16, R334, R455, R478, R479). -/

namespace Sys2Proof.Machine

/-- The page header's counters return to 0 (R455, R478). -/
def Part.zeroCounters (p : Part) (pg : Page) : Part :=
  (List.range 16).foldl (fun q i => q.wr (pg.base + 0x080 + 4 * i) 0) p

/-- SOFT_RESET of a page (R478); a controller's own reset crosses to it as a posted write (R476). -/
def Part.softReset (p : Part) (req : Requester) (pg : Page) : Part :=
  let p1 := ((p.wr (pg.base + 0x010) 0).wr (pg.base + 0x020) 0).wr (pg.base + 0x030) 0
  let p2 := ((p1.zeroCounters pg).wr (pg.base + 0x040) (resetWord (pg.base + 0x040))).wr (pg.base + 0x0C0) 0
  match pg with
  | .gpio | .i3c | .spi => { p2 with posted := p2.posted ++ [Posted.mk req pg.base [(8, 2)]] }
  | _ => p2

/-- Bits written to IRQ_SET (R479): those the page defines, and none of the page of a channel slot that is not bound (R104). -/
def Part.irqSet (p : Part) (pg : Page) (w : Nat) : Part :=
  if pg.hasHdr && !p.unboundSlot pg then p.irq pg (Nat.land pg.irqMask w) else p

/-- Bits written to ERR_INJ (R334), as for IRQ_SET. -/
def Part.errInject (p : Part) (pg : Page) (w : Nat) : Part :=
  if pg.hasHdr && !p.unboundSlot pg then p.errBits pg (Nat.land pg.errMask w) true else p

/-- SOFT_RESET written to a page that has it (R104, R478). -/
def Part.softResetOf (p : Part) (req : Requester) (pg : Page) : Part := if pg.hasHdr && !p.unboundSlot pg then p.softReset req pg else p

/-- CNT_CTL.CLEAR written (R104, R455). -/
def Part.clearCounters (p : Part) (pg : Page) : Part := if pg.hasHdr && !p.unboundSlot pg then p.zeroCounters pg else p

/-- REGISTER_WRITE (R16). -/
def execRegisterWrite (req : Requester) (addr : Nat) (lo : Word) (hi : Option Word) (s : State) :=
  s.via (fun p => p.write req addr lo hi)

/-- POSTED_WRITE_EFFECT (R16): the oldest write of the requester to the page of the address (log entry 77, DEDUCED). -/
def execPostedWriteEffect (req : Requester) (addr : Nat) (s : State) :=
  s.via (fun p => match req.locate addr with
    | none => p
    | some (pg, _) => p.settlePosted req pg.base)

/-- CLEARING_READ (R9). -/
def execClearingRead (req : Requester) (addr : Nat) (wide : Bool) (s : State) := s.via (fun p => p.read req addr wide)

/-- SOFT_RESET (R478). -/
def execSoftReset (req : Requester) (addr : Nat) (s : State) := s.via (fun p => p.onPage req addr 8 (fun q pg => q.softResetOf req pg))

/-- LOCK (R478): only Chitin sets it, and no view page or CHT has it. -/
def execLock (req : Requester) (addr : Nat) (s : State) :=
  s.via (fun p => p.onPage req addr 8 (fun q pg =>
    if req = .chitin ∧ pg ≠ .cht ∧ pg.hasHdr = true then q.setF pg HDR.PAGE_CTL.LOCK 1
    else if req = .colony then q.viol req true 5 (pg.base + 8) else q))

/-- IRQ_SET (R479). -/
def execIrqSet (req : Requester) (addr : Nat) (w : Word) (s : State) :=
  s.via (fun p => p.onPage req addr 0x18 (fun q pg => q.irqSet pg w.toNat))

/-- ERR_INJ (R334). -/
def execErrInj (req : Requester) (addr : Nat) (w : Word) (s : State) :=
  s.via (fun p => p.onPage req addr 0x2C (fun q pg => q.errInject pg w.toNat))

/-- COUNTER_CLEAR (R455). -/
def execCounterClear (req : Requester) (addr : Nat) (s : State) := s.via (fun p => p.onPage req addr 0x40 (fun q pg => q.clearCounters pg))

end Sys2Proof.Machine
end

