-- ==== Sys2Proof/Machine/Discard.lean ====
section
/-! DEFINITION. What a discarded frame leaves behind: the answer to a non-posted request, the outcome of a tracked write, a
VOID for its sequences, a count (R210, R306, R312, R318, R341), and the combine entries of multicast writes (R322). -/

namespace Sys2Proof.Machine

/-- The answer to a unit of this chip that has come back to it acts here: the fabric VOQ of the own chip number is never used (R162, R277,
R318) (log entry 76, DEDUCED). -/
def Part.replyHere (p : Part) (ortx : Nat) (i : Inner) : Part :=
  match i with
  | .synthCpl rid tag st _ _ =>
    let e := p.oe ortx
    if e.state = .origin ∧ e.origRid = rid ∧ e.origTag = tag then (p.answer e (if st = 1 then .ur else .ca) 0).freeEnt ortx
    else p.unexpected false
  | .commitAck failed cause => p.outcomeAt (ortx % 4096) (ortx / 4096) (if failed then some cause else none)
  | _ => p

/-- A unit the part builds in answer to another: it goes back to the unit's source with its class and path selector (R299,
R305) (log entry 76, DEDUCED). -/
def Part.sendReply (p : Part) (h : CocoonHdr) (ortx : Nat) (i : Inner) : Part :=
  if h.src / 512 % 128 = p.chip then p.replyHere ortx i
  else
  let back := { h with dst := h.src, src := h.dst, ortx := ortx, hops := p.hopInit, mcf := false, mcg := 0, poison := false,
                       ide := false, ro := false, rsv := 0, fseq := 0 }
  let esc := match p.frtIdx back.dst back.cls with
    | some k => p.frtEsc k
    | none => false
  let lp := h.dst % 512
  p.sendUnit { Frame.blank with kind := 2, cls := h.cls, esc := esc, dest := .chip (h.src / 512 % 128),
                                srcXp := (destOf lp).at.1, srcSub := (destOf lp).at.2, domf := h.domain } back i .cpl

/-- Returns a COMMIT_ACK for a tracked write's unit (R277) (log entry 76, DEDUCED). -/
def Part.ackUnit (p : Part) (h : CocoonHdr) (outcome : Option Nat) : Part :=
  if h.ortx = noOrtx then p
  else p.sendReply h h.ortx
    (.commitAck outcome.isSome (outcome.getD 0))

/-! ### Combine entries (R322, R323) -/

/-- A combine entry. -/
def Part.cb (p : Part) (i : Nat) : Combine := Sparse.get p.combine Combine.empty i

/-- Stores a combine entry. -/
def Part.setCb (p : Part) (i : Nat) (c : Combine) : Part := { p with combine := Sparse.set p.combine Combine.empty i c }

/-- Opens a combine entry for a multicast write with an outcome: at its origin for a ledger slot, at a branch chip for the
unit of the chip above. None while all 1,024 are used. -/
def Part.openCombine (p : Part) (mset : List (Nat × Nat)) (origin : Option (Nat × Nat)) (up : Option CocoonHdr) : Part × Option Nat :=
  let i := firstFree ((p.combine.filter (fun e => e.2.used)).map (fun e => e.1)) 1024 0
  if 1024 ≤ i then (p, none)
  else
    let c := p.cb i
    let h := up.getD CocoonHdr.blank
    let c1 : Combine := Combine.mk true c.gen origin h.src h.ortx h.domain h.cls h.psel
      (mset.filter (fun t => decide (16 ≤ t.1 ∨ t.2 < 8))).length
      ((mset.filter (fun t => decide (t.1 < 16 ∧ 8 ≤ t.2))).map (fun t => 2 * t.1 + (t.2 - 8))) none (p.now + p.ctmo)
    (p.setCb i c1, some i)

/-- Reports a combined outcome: to ORD at the origin, by one COMMIT_ACK from a branch chip; the entry's next use takes the next
generation. -/
def Part.closeCombine (p : Part) (i : Nat) : Part :=
  let c := p.cb i
  let p1 := p.setCb i { Combine.empty with gen := (c.gen + 1) % 31 }
  match c.origin with
  | some (s, g) => p1.outcomeAt s g c.failed
  | none =>
    if c.upOrtx = noOrtx then p1
    else p1.sendReply { dst := p.chip * 512 + 260, src := c.upChip, domain := c.upDomain, cls := c.upCls, kind := 4, fseq := 0,
                        ilen := 8, hops := 0, mcf := false, mcg := 0, ortx := c.upOrtx, ts := 0, psel := c.upPsel, poison := false,
                        ide := false, ro := false, rsv := 0 } c.upOrtx (.commitAck c.failed.isSome (c.failed.getD 0))

/-- One part of a multicast write has an outcome: a member's copy, or a branch link's COMMIT_ACK (log entry 57, DEDUCED). -/
def Part.combinePart (p : Part) (i : Nat) (branch : Option Nat) (outcome : Option Nat) : Part :=
  let c := p.cb i
  if !c.used then p
  else
    let c1 : Combine := match branch with
      | none => { c with members := c.members - 1 }
      | some l => { c with branches := c.branches.erase l }
    p.setCb i { c1 with failed := match c1.failed with
      | some x => some x
      | none => outcome }

/-! ### Outcomes and discards -/

/-- A tracked write of a frame has its outcome at this chip: its ledger slot here, its combine entry, or a COMMIT_ACK to
its source; an untracked write only leaves the gate, and is counted when it was discarded. -/
def Part.writeOutcome (p : Part) (f : Frame) (outcome : Option Nat) : Part :=
  let p1 := p.gateClose (if f.slot.isSome then none else f.gate)
  match f.combine with
  | some i => p1.combinePart i none outcome
  | none =>
    match f.slot with
    | some (i, g) => p1.outcomeAt i g outcome
    | none =>
      match f.body with
      | .unit h (.tlp _) =>
        if h.src / 512 ≠ p.chip ∧ h.ortx ≠ noOrtx then p1.ackUnit h outcome
        else if outcome.isSome then p1.count .ord 3 1 (some f.domf) else p1
      | _ => if outcome.isSome then p1.count .ord 3 1 (some f.domf) else p1

/-- Answers a non-posted request of a discarded frame: through its tracker entry at this chip, by SYNTH_CPL to the chip it
came from, or by a completion to its port. -/
def Part.npOutcome (p : Part) (f : Frame) (st : CplStatus) : Part :=
  match f.ort with
  | some e => p.closeFor e st
  | none =>
    match f.body with
    | .unit h (.tlp t) => p.sendReply h h.ortx (.synthCpl t.rid t.tag (synthCode st) (t.addr.toNat % 128) t.expects)
    | .local t =>
      let cid := Config.synthCompleter p.freeCtr
      let p1 := ({ p with freeCtr := p.freeCtr + 1 }).gateClose f.gate
      p1.queueCpl (f.srcXp * 8 + f.srcSub) (mkCpl t.rid t.tag cid st t.expects (t.addr.toNat % 128) [] t.tc) f.cls f.domf f.acct 19 0
        .cpl none
    | _ => p

/-- A read that has cleared something is discarded before its completion reaches the requester: what it cleared is as if it had not been read,
with what has been counted since (R9). -/
def Part.undoRead (p : Part) (u : Undo) : Part :=
  match u with
  | .lateCpl d n => p.bumpF (.cfn d) CFN.LATE_CPL.COUNT n
  | .fails k c =>
    let now := p.fc k
    if c.cnt = 0 then p else p.setFc k (FailCnt.mk (satAdd 16 c.cnt now.cnt) c.first (c.unknown || now.unknown))

/-- The completion that `f` queues carries what its read has cleared; one that is not queued has been discarded (R9). -/
def Part.withUndo (p : Part) (us : List Undo) (f : Part → Part) : Part :=
  let i := p.nextFrame
  let q := f p
  match q.fr i with
  | some x => if i < q.nextFrame then q.setFr i (some { x with undo := us }) else us.foldl Part.undoRead q
  | none => us.foldl Part.undoRead q

/-- The answers that a frame's discard owes (R210, R341): `st` for a non-posted request, `cause` for a tracked write. -/
def Part.owe (p : Part) (f : Frame) (st : CplStatus) (cause : Nat) : Part :=
  if f.mirror || f.kind == 3 || f.nulled then p
  else
    let isMsg : Bool := match f.body with
      | .local t => t.kind == .msg
      | .unit _ (.tlp t) => t.kind == .msg
      | .unit _ (.hive _ _) => true
      | .unit _ (.mctp _) => true
      | _ => false
    let p1 := p.countDiscard f.dest
    if f.kind = 1 then p1.npOutcome f st
    else if f.kind = 0 then (if isMsg then p1.count .ord 3 1 (some f.domf) else p1.writeOutcome f (some cause))
    else f.undo.foldl Part.undoRead p1

/-- Sequences of a lossless unit that the next chip still expects are voided (R312). -/
def Part.voidFor (p : Part) (f : Frame) : Part :=
  match f.body with
  | .unit h i =>
    if i.sequenced && f.kind != 3 && !f.noFlow && (h.mcf || h.dst / 512 != p.chip) && f.sent == 0 then p.voidProbe f h h.fseq (cellsOf f.len) else p
  | .local _ => p

/-- On each link that has committed some of a frame's cells and not the last, its next cell goes out with CLAST set (R312). -/
def Part.truncate (p : Part) (i : Nat) (f : Frame) : Part :=
  let open_ := p.link.filterMap (fun e => (e.2.txOpen.find? (fun x => x.2.1 == i)).map (fun x => (e.1, x.2.2)))
  if open_.isEmpty then p
  else
    let p1 := p.setFr i (some { f with abort := true, matched := f.cells.length })
    open_.foldl (fun q e =>
      let k := (e.1 / 2 * 16 + 8 + e.1 % 2) * 8 + f.cls
      { q with tq := Sparse.set q.tq [] k (QItem.mk i e.2 :: Sparse.get q.tq [] k) }) p1

/-- Every cell of a multicast frame has gone to a branch link, with the last in a parcel. -/
def Part.linkDone (p : Part) (i : Nat) (f : Frame) (l : Nat) : Bool :=
  decide (f.cells.length ≤ f.matched) && !p.flights.any (fun x => x.frame == i) && !p.residues.any (fun e => e.2.any (fun r => r.frame == i)) &&
    !(List.range 8).any (fun c => (Sparse.get p.tq [] ((l / 2 * 16 + 8 + l % 2) * 8 + c)).any (fun x => x.frame == i)) &&
    !(p.lk l).txOpen.any (fun x => x.2.1 == i)

/-- A multicast write is discarded with copies still to come: every part of it that has not gone fails with a cause (R322). -/
def Part.combineDrop (p : Part) (i : Nat) (f : Frame) (cause : Nat) : Part :=
  match f.combine with
  | none => p
  | some k =>
    let c := p.cb k
    if !c.used then p
    else p.setCb k { c with members := 0, branches := c.branches.filter (p.linkDone i f), failed := match c.failed with
      | some x => some x
      | none => some cause }

/-- Discards a queued frame and answers for it. -/
def Part.dropFrame (p : Part) (i : Nat) (st : CplStatus) (cause : Nat) : Part :=
  match p.fr i with
  | none => p
  | some f => if f.abort then p else ((((p.combineDrop i f cause).discard i).truncate i f).voidFor f).owe f st cause

/-- The frames for a destination, oldest first. -/
def Part.framesFor (p : Part) (d : Dest) : List Nat :=
  p.frames.filterMap (fun e => match e.2 with
    | some f => if f.dest = d ∧ !f.abort then some e.1 else none
    | none => none)

/-- Discards and answers every frame for a destination (R210, R341). -/
def Part.dropAllFor (p : Part) (d : Dest) (st : CplStatus) (cause : Nat) : Part :=
  (p.framesFor d).foldl (fun q i => q.dropFrame i st cause) p

/-- Queues a frame, or answers for it at once while its destination is contained or stuck (R210, R341). -/
def Part.offer (p : Part) (f : Frame) (pool : Pool) : Part :=
  match p.blocked f.dest with
  | some (st, cause) =>
    let n := cellsOf f.len
    let p1 := match pool with
      | .acct a => p.setOcc a (p.occOf a - n)
      | _ => p
    p1.owe f st cause
  | none =>
    match f.body with
    | .local _ => p.queueFrame f pool
    | .unit h i => p.sendUnit f h i pool

end Sys2Proof.Machine
end

