-- ==== Sys2Proof/Machine/Claims.lean ====
section
/-! DEFINITION. Who claims a request and who refuses it: the tables, the claimants of R241, ACS (R242), and the refusals of R99
and R520 with the checks of R252. -/

namespace Sys2Proof.Machine

/-! ### Reading the tables -/

/-- Valid entries of a table, by index. -/
def Part.validIn (p : Part) (t : Nat) : List Nat :=
  (p.tables.filter (fun e => e.1 / 2 ^ 24 = t ∧ e.1 % 16 = 0 ∧ e.2.toNat % 2 = 1)).map (fun e => e.1 % 2 ^ 24 / 16)

/-- A 64-bit field of two table words. -/
def Part.tq64 (p : Part) (t i w : Nat) : Nat := (p.tw t i w).toNat + 2 ^ 32 * (p.tw t i (w + 1)).toNat

/-- The FBT entry of a function at a port (R239). -/
def Part.fbtOf (p : Part) (t : Nat) (prid : BitVec 16) : Option Nat :=
  (p.validIn 0).find? (fun f => p.tf 0 f 0 3 7 == t && p.tf 0 f 1 0 16 == prid.toNat)

/-- The domain an FBT entry binds to. -/
def Part.fbtDom (p : Part) (f : Nat) : Nat := p.tf 0 f 0 10 6

/-- A domain's window that contains an address (R241, R250). -/
def Part.winOf (p : Part) (d a : Nat) : Option Nat :=
  (p.validIn 1).find? (fun w => p.tf 1 w 0 14 6 == d && decide (p.tq64 1 w 2 ≤ a ∧ a < p.tq64 1 w 2 + 2 ^ p.tf 1 w 0 20 6))

/-- A present virtual bridge (R83). -/
def Part.vbPresent (p : Part) (d vb : Nat) : Bool := p.tf 6 (128 * d + vb) 0 0 1 == 1

/-- KIND of a bridge: 0 PORT, 1 SHARED, 2 EMPTY. -/
def Part.vbKind (p : Part) (d vb : Nat) : Nat := p.tf 6 (128 * d + vb) 0 1 2

/-- Present bridges of a domain. -/
def Part.bridges (p : Part) (d : Nat) : List Nat := (List.range 128).filter (p.vbPresent d)

/-- Whether a bridge's memory or prefetchable range, as its host wrote it, holds an address (PCIe Base Specification). -/
def Part.vbHolds (p : Part) (d vb a : Nat) : Bool :=
  let fn := 2 + vb
  let mb := p.cf d fn 0x20 4 12 * 2 ^ 20
  let ml := p.cf d fn 0x20 20 12 * 2 ^ 20 + 0xFFFFF
  let pb := p.cf d fn 0x24 4 12 * 2 ^ 20 + (p.cw d fn 0x28).toNat * 2 ^ 32
  let pl := p.cf d fn 0x24 20 12 * 2 ^ 20 + 0xFFFFF + (p.cw d fn 0x2C).toNat * 2 ^ 32
  p.cf d fn 0x04 1 1 == 1 && (decide (mb ≤ a ∧ a ≤ ml) || decide (pb ≤ a ∧ a ≤ pl))

/-- Where the emulated BAR registers of bound functions are kept. -/
def vbarKey (f k : Nat) : Nat := 2 ^ 26 + f * 8 + k

/-- An emulated BAR register as the host wrote it (R246). -/
def Part.vbar (p : Part) (f k : Nat) : BitVec 32 := Sparse.get p.cfg 0 (vbarKey f k)

/-- Size of a BAR slot, 0 for an unused one. -/
def Part.slotLog2 (p : Part) (f k : Nat) : Nat := p.tf 0 f (4 + 2 * k) 0 6

/-- BAR slot `k` describes a 64-bit BAR: its size or its physical base does not fit 32 bits (R244, R246) (log entry 37, DEDUCED). -/
def Part.slotWide (p : Part) (f k : Nat) : Bool :=
  p.slotLog2 f k != 0 && (decide (31 < p.slotLog2 f k) || p.tw 0 f (5 + 2 * k) != 0)

/-- Virtual base of BAR slot `k`, of a 64-bit BAR with its upper half in the next register (log entry 37, DEDUCED). -/
def Part.vbarBase (p : Part) (f k : Nat) : Nat :=
  (p.vbar f k).toNat / 16 * 16 + (if k < 5 ∧ p.slotWide f k = true then 2 ^ 32 * (p.vbar f (k + 1)).toNat else 0)

/-- Physical base of BAR slot `k`. -/
def Part.physBase (p : Part) (f k : Nat) : Nat := p.tq64 0 f (4 + 2 * k) / 4096 * 4096

/-- The bound function of a ROLE 3 port whose BAR slot contains a physical address (R114, R409). -/
def Part.fnAt (p : Part) (lp a : Nat) : Option Nat :=
  (p.validIn 0).find? (fun f => p.tf 0 f 0 3 7 == lp && (List.range 6).any (fun k => p.slotLog2 f k != 0 &&
    decide (p.physBase f k ≤ a ∧ a < p.physBase f k + 2 ^ p.slotLog2 f k)))

/-- The bound function and slot of a SHARED bridge that hold an address (R241, R246). -/
def Part.slotHolding (p : Part) (d vb a : Nat) : Option (Nat × Nat) :=
  ((p.validIn 0).filter (fun f => p.fbtDom f == d && p.tf 0 f 0 16 7 == vb)).findSome? (fun f =>
    ((List.range 6).find? (fun k => p.slotLog2 f k != 0 && p.vbarBase f k != 0 &&
      decide (p.vbarBase f k ≤ a ∧ a < p.vbarBase f k + 2 ^ p.slotLog2 f k))).map (fun k => (f, k)))

/-! ### Claim -/

/-- Who claims a request (R241): a BAR of the Control Function with the offset in it, a window, a bridge range, a slot of a bound
function, the domain's host, a multicast group (R319), nobody, or an ACS rule that blocks it (R242). -/
inductive Claim where
  | bar (n : Nat) (off : Nat)
  | window (w : Nat)
  | bridge (vb : Nat)
  | fnSlot (f : Nat) (k : Nat)
  | host
  | group (g : Nat)
  | none_
  | acs
  deriving DecidableEq, Repr

/-- BAR0 or BAR2 base of the Control Function. -/
def Part.barBase (p : Part) (d n : Nat) : Nat :=
  (p.cw d 1 (0x10 + 4 * n)).toNat / 16 * 16 + 2 ^ 32 * (p.cw d 1 (0x14 + 4 * n)).toNat

/-- The Control Function BAR an address of the host lies in. -/
def Part.barOf (p : Part) (d a : Nat) : Option (Nat × Nat) :=
  let b0 := p.barBase d 0
  let b2 := p.barBase d 2
  if b0 ≠ 0 ∧ b0 ≤ a ∧ a < b0 + 0x1000000 then some (0, a - b0)
  else if b2 ≠ 0 ∧ b2 ≤ a ∧ a < b2 + 0x100000 then some (2, a - b2)
  else none

/-- The multicast group of the virtual switch's Multicast capability that a posted write's address names (R319; layout of the PCIe
Base Specification, log entry 12). -/
def Part.mcGroup (p : Part) (d a : Nat) : Option Nat :=
  let ctl := (p.cw d 0 0x184).toNat
  let base := (p.cw d 0 0x188).toNat / 4096 * 4096 + 2 ^ 32 * (p.cw d 0 0x18C).toNat
  let pos := (p.cw d 0 0x188).toNat % 64
  if ctl / 2 ^ 31 = 1 ∧ base ≤ a ∧ (a - base) / 2 ^ pos ≤ ctl / 2 ^ 16 % 64 then some (64 * d + (a - base) / 2 ^ pos) else none

/-- ACS Control bits of a bridge: 0 SV, 1 TB, 2 RR, 3 CR, 4 UF, 5 EC, 6 DT (log entry 12). -/
def Part.acs (p : Part) (d vb bit : Nat) : Bool := p.cf d (2 + vb) 0x164 (16 + bit) 1 == 1

/-- What ACS makes of a peer-to-peer request from below bridge `vb` to bridge `to`: pass, redirect to the host, or block. -/
def Part.acsPeer (p : Part) (d vb goal at_ : Nat) (dflt : Claim) : Claim :=
  if p.acs d vb 6 && at_ == 2 then dflt
  else if p.acs d vb 2 then .host
  else if p.acs d vb 5 && nbit (p.cw d (2 + vb) (0x168 + goal / 32 * 4)).toNat (goal % 32) then .acs
  else dflt

/-- The bridge below which a request arrives: PORT_CTL.VB of a ROLE 2 port, VB of a binding. -/
def Part.srcBridge (p : Part) (t : Nat) (fbt : Option Nat) : Option Nat :=
  match p.role t with
  | 2 => some (p.getF (.port t) PORT.PORT_CTL.VB)
  | 3 => fbt.map (fun f => p.tf 0 f 0 16 7)
  | _ => none

/-- ACS Source Validation of the bridge a request comes from: its requester ID is of a bus outside the bridge's secondary to subordinate
buses (R242; log entry 12, PRESUMED). -/
def Part.sourceBad (p : Part) (d : Nat) (vbSrc : Option Nat) (rid : BitVec 16) : Bool :=
  match vbSrc with
  | some v => p.acs d v 0 && decide (rid.toNat / 256 < p.cf d (2 + v) 0x18 8 8 ∨ p.cf d (2 + v) 0x18 16 8 < rid.toNat / 256)
  | none => false

/-- The claimant of a memory request (R241). `vbSrc` is the bridge a device's request comes from, `upstream` that it comes from
the host. A Translation Request goes to the host, and is refused from it, before any other claimant is asked (R253)
(log entries 56 and 78, DEDUCED). -/
def Part.claim (p : Part) (d : Nat) (t : Tlp) (upstream : Bool) (vbSrc : Option Nat) : Claim :=
  if t.atType = 1 then (if upstream then .acs else .host) else
  let a := t.addr.toNat
  let bar := if upstream then p.barOf d a else none
  match bar with
  | some (n, o) => .bar n o
  | none =>
    let mc := if t.kind = .memWrite then p.mcGroup d a else none
    match mc with
    | some g => .group g
    | none =>
      match p.winOf d a with
        | some w => .window w
        | none =>
          let vb := (p.bridges d).find? (fun v => p.vbHolds d v a && some v != vbSrc)
          let range := match vb with
            | some v =>
              if p.vbKind d v = 1 then (match p.slotHolding d v a with
                | some (f, k) => Claim.fnSlot f k
                | none => if upstream then .none_ else .host)
              else if p.vbKind d v = 0 then .bridge v
              else if upstream then .none_ else .host
            | none => if upstream then .none_ else .host
          match vbSrc, vb with
          | some s, some v => if p.acs d s 1 && t.atType != 0 then .acs else p.acsPeer d s v t.atType range
          | some s, none => if p.acs d s 1 && t.atType != 0 then .acs else range
          | _, _ => range

/-! ### Refusals (R99, R520) -/

/-- A TLP that goes no further leaves its port's backing: its cells return to the pool that backed them (R200); a Drone channel's to its
domain's account (R201). -/
def Part.absorb (p : Part) (ing : Ingress) (t : Tlp) (a : Nat) : Part :=
  match ing with
  | .port lp =>
    let n := cellsOf t.bytes
    let ty := if t.kind.cellKind = 3 then 0 else t.kind.cellKind
    let x := p.useBacking lp ty n (2 + (t.data.length + 255) / 256) (.acct a)
    (match x.2 with
      | .acct b => x.1.setOcc b (x.1.occOf b - n)
      | _ => x.1)
  | .drone d c => if p.bit (.drn d) (DRN.CH_BIND.ESC.ix c) then p else p.setOcc a (p.occOf a - cellsOf t.bytes)
  | .agent _ => p

/-- Answers a request directly at its source: a completion to its port, an error to its Drone channel (R99, R264). The Control Function
reports a UR or CA for a memory request of the host in its AER (R361). -/
def Part.answerReq (p : Part) (ing : Ingress) (t : Tlp) (cls fid acct : Nat) (st : CplStatus) (chan : Option (Nat × Nat × Nat)) : Part :=
  match ing, chan with
  | .port lp, _ =>
    let cid := Config.synthCompleter p.freeCtr
    let p0 := { (p.absorb ing t acct) with freeCtr := p.freeCtr + 1 }
    let p1 := if p.role lp = 1 ∧ t.kind ≠ .cfgRead ∧ t.kind ≠ .cfgWrite then
        p0.advise (p.getF (.port lp) PORT.PORT_CTL.DOMAIN) (if st = .ur then 20 else 15) (reqHeader t t.addr) else p0
    p1.queueCpl lp (mkCpl t.rid t.tag cid st t.expects (t.addr.toNat % 128) [] t.tc) cls fid acct 19 0 .cpl none
  | _, some c => ((p.absorb ing t acct).rdUse c.1 t.tag 0 true).chanRead c none true
  | _, none => p

/-- AER Unsupported Request Error of a function for a posted write R99 discards (R520), under the controls of the PCIe Base
Specification (log entry 12, PRESUMED). -/
def Part.aerUr (p : Part) (d fn : Nat) (h : List (BitVec 32)) : Part :=
  let was := p.cw d fn 0x104 != 0
  let p1 := p.setCf d fn 0x104 20 1 1
  let p2 := if was then p1 else (List.range 4).foldl (fun q i => q.setCw d fn (0x11C + 4 * i) (h.getD i 0)) p1
  let sev := p.cf d fn 0x10C 20 1
  if p.cf d fn 0x108 20 1 = 0 ∧ p.cf d fn 0x78 3 1 = 1 ∧ p.cf d fn 0x78 (1 + sev) 1 = 1 then p2.sendUp d 0 (.errMsg d fn (1 + sev)) else p2

/-- The request of a source is refused: UR to a non-posted one, the journal or the discard of R520 to a posted one (log entry 56, DEDUCED). -/
def Part.refuseReq (p : Part) (q : Looked) (st : CplStatus) (cause : Nat) (chan : Option (Nat × Nat × Nat)) : Part :=
  let p1 := if cause = 1 then p else p.count .tbl 5 1 (some q.fid)
  if q.tlp.kind.nonPosted then p1.answerReq q.ing q.tlp q.cls q.fid q.acct st chan
  else if q.tlp.kind = .msg then p1
  else
    let p2 := (p1.absorb q.ing q.tlp q.acct).refuseWrite q cause q.target
    match q.ing with
    | .drone d c => p2.chanWrote (some (256 * d + c)) true q.tlp.len
    | _ => p2

/-! ### Check -/

/-- Whether the last byte of a request lies beyond `n` bytes from offset `o` (R252, R246). -/
def beyond (o len n : Nat) : Bool := decide (n < o + max 1 len)

/-- Whether a window permits an AtomicOp's operand size: 4, 8 or 16 bytes (R249). -/
def atomOk (mask len : Nat) : Bool :=
  match len with
  | 4 => nbit mask 0
  | 8 => nbit mask 1
  | 16 => nbit mask 2
  | _ => false

/-- The cause a window's Check stage finds (R252), in the order of its items: 2 PERM, 3 SIZE (log entry 78, DEDUCED). -/
def Part.winCheck (p : Part) (w : Nat) (t : Tlp) : Option Nat :=
  let perm := match t.kind with
    | .memRead => p.tf 1 w 0 2 1
    | .atomic => p.tf 1 w 0 4 1
    | _ => p.tf 1 w 0 3 1
  if perm = 0 then some 2
  else if (t.atType = 2 ∧ p.tf 1 w 0 8 1 = 0) ∨ t.atType = 3 then some 2
  else if beyond (t.addr.toNat - p.tq64 1 w 2) t.span (2 ^ p.tf 1 w 0 20 6) then some 3
  else if sizeOf (p.tf 1 w 0 9 3) < t.span then some 3
  else if t.kind = .atomic ∧ !atomOk (p.tf 1 w 0 5 3) t.len then some 3
  else none

/-- A global target cannot be reached: an absent or disabled port here, no path to another chip, or a multicast or other request
that may not leave (R256, R319). -/
def Part.notCarriable (p : Part) (tgt cls : Nat) : Bool :=
  if tgt / 512 % 128 = p.chip then
    (match agentOf (tgt % 512) with
    | some _ => false
    | none => decide (128 ≤ tgt % 512) || p.role (tgt % 512) == 0)
  else !p.carriable tgt cls

end Sys2Proof.Machine
end

