-- ==== Sys2Proof/Machine/Capture.lean ====
section
/-! DEFINITION. Antenna: filters, sampling, the grant test, triggers, ring records and mirror copies (R464 to R473, R373,
R374). -/

namespace Sys2Proof.Machine

/-- What Antenna sees of a frame at a capture point: 0 INGRESS with the ingress port, 1 EGRESS with the egress port (no local
port for a link). -/
structure Seen where
  point : Nat
  lp : Nat
  ingress : Nat
  egress : Nat
  dom : Nat
  cls : Nat
  kind : Nat
  len : Nat
  body : Body
  mc : Bool
  abort : Bool
  deriving DecidableEq, Repr

/-- Traffic of Colony and Chitin, HIVE and TIME units, and mirror copies are never captured (R373, R471). -/
def Seen.excluded (f : Seen) (chip : Nat) : Bool :=
  let hive := fun (g : Nat) => g = chip * 512 + 258 || g = chip * 512 + 259 || g % 512 = 258 || g % 512 = 259
  hive f.ingress || (!f.mc && hive f.egress) || (match f.body with
    | .unit _ (.hive _ _) => true
    | .unit _ (.time _ _ _) => true
    | _ => false)

/-- Filter `i` matches a frame (R465) (log entry 54, DEDUCED). -/
def Part.filterHits (p : Part) (i : Nat) (f : Seen) : Bool :=
  let g := fun (x : Fld) => p.getF .ant (x.ix i)
  let port := g ANT.FILT.PORT
  g ANT.FILT.EN == 1 && g ANT.FILT.POINT == f.point &&
    (g ANT.FILT.PORT_EN == 0 || (port == f.lp && (decide (port < 128) || decide (256 ≤ port ∧ port < 272)))) &&
    (g ANT.FILT.DOM_EN == 0 || g ANT.FILT.DOM == f.dom) && nbit (g ANT.FILT.CLASS_MASK) f.cls && nbit (g ANT.FILT.KIND_MASK) f.kind

/-- The grant test of R466. -/
def Part.grantTest (p : Part) (dom : Nat) : Bool :=
  let c := p.getF .ant ANT.CTL.COLL_DOM
  dom == c || p.ant.grants.contains (dom, c)

/-- A record is lost: LOST, LOST_BEFORE, the error. -/
def Part.recLost (p : Part) (n : Nat) : Part :=
  let q := { p with ant := { p.ant with lostBefore := satAdd 16 p.ant.lostBefore 1 } }
  ((q.bumpF .ant ANT.STAT.LOST 1).count .ant n 1).err .ant 1

/-- The 128 bytes of a record (R467); `hdr` tells whether it holds the frame's first bytes (log entry 21, DESIGN CHOICE). -/
def Part.record (p : Part) (f : Seen) (filter seq : Nat) (hdr trig : Bool) : List Byte :=
  let w := f.body.wire p.freeCtr
  let head := if hdr then (w ++ List.replicate 96 0).take 96 else List.replicate 96 0
  let unit := match f.body with
    | .unit _ _ => true
    | .local _ => false
  let poison := match f.body with
    | .unit h _ => h.poison
    | .local t => t.ep
  let flags := f.point + 2 * b2n hdr + 4 * b2n (f.len < 96) + 8 * b2n trig + 16 * f.kind + 64 * b2n unit + 128 * b2n poison
    + 256 * b2n f.abort + 512 * filter
  head ++ bytesOf 8 p.ns ++ bytesOf 2 f.ingress ++ bytesOf 2 f.egress ++ bytesOf 2 (32768 * b2n f.mc + 4096 * f.cls + f.dom)
    ++ bytesOf 2 f.len ++ bytesOf 2 flags ++ bytesOf 2 p.ant.lostBefore ++ bytesOf 4 seq ++ bytesOf 8 0

/-- Words of bytes, byte 4k in bits [31:24] of word k (ANT.REC). -/
def beWords (l : List Byte) : List (BitVec 32) :=
  (List.range (l.length / 4)).map (fun k => (l.getD (4 * k) 0) ++ (l.getD (4 * k + 1) 0) ++ (l.getD (4 * k + 2) 0) ++ (l.getD (4 * k + 3) 0))

/-- A record was written: SEQ advances, marks are used up, and a STOP capture counts down (R472) (log entry 54, DEDUCED). -/
def Part.recDone (p : Part) (seq : Nat) : Part :=
  let p1 := (p.setF .ant ANT.WR.SEQ ((seq + 1) % 2 ^ 32)).count .ant 1 1
  let p2 := { p1 with ant := { p1.ant with trig := false, lostBefore := 0 }, freeCtr := p1.freeCtr + 1 }
  match p2.ant.post with
  | some n => if n ≤ 1 then
      ({ p2 with ant := { p2.ant with post := none } }.setF .ant ANT.CTL.EN 0).setF .ant ANT.STAT.RUNNING 0
    else { p2 with ant := { p2.ant with post := some (n - 1) } }
  | none => p2

/-- The claimant's target of an Antenna ring write in the collector's domain (R469). -/
def Part.ringTarget (p : Part) (d a len : Nat) : Option (Nat × Nat × Option Nat) :=
  let t := { Tlp.blank with addr := BitVec.ofNat 64 a, len := len }
  match p.claim d t false none with
  | .window w => if (p.winCheck w t).isSome then none else some (p.tf 1 w 1 8 16, p.tq64 1 w 4 + (a - p.tq64 1 w 2), some w)
  | .bridge v => some (p.gport (p.tf 6 (128 * d + v) 0 3 7), a, none)
  | .fnSlot f k => some (p.gport (p.tf 0 f 0 3 7), p.physBase f k + (a - p.vbarBase f k), none)
  | .host => if p.attached d then some (p.gport (p.uport d), a, none) else none
  | _ => none

/-- The POL_DROP policer of a droppable frame: that of its account at the station where the captured frame passed (R231, R235, log
entry 31) (log entry 31, DEDUCED). -/
def dropPol (lp a : Nat) : Option Nat := if lp < 128 then some (polKey (lp / 8) a 1) else none

/-- Queues a droppable frame of the part to a global port: the policer of R235, the admission of R203, a local frame or a unit on
VC6 (R298). Answers whether it was admitted (log entry 31, DEDUCED). -/
def Part.sendDrop (p : Part) (f : Frame) (tgt : Nat) (fid : Nat) (ipt : Inner) (len : Nat) (src : Nat) (pol : Option Nat) : Part × Bool :=
  let here := decide (tgt / 512 % 128 = p.chip)
  let bytes := if here then len else len + 32
  let n := cellsOf bytes
  let short := match pol with
    | some k => decide ((p.polOf k).1 ≠ 0 ∧ p.polTokens k < 250 * bytes)
    | none => false
  if !here && !p.carriable tgt f.cls then (p, false)
  else if here && (p.blocked (destOf (tgt % 512))).isSome then (p, false)
  else if short then (p.count (.sch (pol.getD 0 / 128)) 6 n, false)
  else match p.admitDrop f.cls 0 n with
    | (q0, false) => (q0.count .buf 1 n (some f.domf), false)
    | (q0, true) =>
      let q := match pol with
        | some k => q0.polCharge k bytes
        | none => q0
      if here then
        match ipt with
        | .tlp t => (q.queueFrame { f with body := .local t, len := len, dest := destOf (tgt % 512) } .shared, true)
        | _ => (q, true)
      else
        let h := { CocoonHdr.blank with dst := tgt, src := src, domain := fid, cls := f.cls, hops := q.hopInit }
        (q.sendUnit { f with dest := .chip (tgt / 512 % 128) } h ipt .shared, true)

/-- A ring write towards the collector host, from Drone 0 channel 255 (R469, R470). -/
def Part.hostRecord (p : Part) (f : Seen) (filter : Nat) : Part :=
  let s := p.getF .ant ANT.WR.SEQ
  let c := p.getF .ant ANT.CTL.COLL_DOM
  let next := p.setF .ant ANT.WR.SEQ ((s + 1) % 2 ^ 32)
  match p.domIdx c with
  | none => next.recLost 3
  | some d =>
    let size := 2 ^ min 25 (max 5 (p.getF .ant ANT.RING_CFG.SIZE_LOG2))
    if size ≤ (s + 2 ^ 32 - p.getF (.telv d 1) TELV1.COLL_RD.SEQ) % 2 ^ 32 then (next.count (.telv d 1) 1 1).recLost 2
    else
      let base := (p.getF .ant ANT.RING_BASE.BASE_LO) * 4096 + p.getF .ant ANT.RING_BASE.BASE_HI * 2 ^ 32
      let data := p.record f filter s true p.ant.trig
      match p.ringTarget d (base + 128 * (s % size)) 128 with
      | none => (next.count (.telv d 1) 2 1).recLost 3
      | some (tgt, a, w) =>
        let t := { Tlp.blank with addr := BitVec.ofNat 64 a, data := data, len := 128, rid := p.cfRid d }
        let fr := { Frame.blank with kind := 3, cls := p.getF .ant ANT.CTL.TEL_CLASS, srcXp := 16, srcSub := 0, acct := d, domf := c,
                                     record := some s, win := w }
        match p.sendDrop fr tgt c (.tlp t) t.bytes (p.gport 256) (dropPol f.lp d) with
        | (q, false) => ((q.setF .ant ANT.WR.SEQ ((s + 1) % 2 ^ 32)).count (.telv d 1) 2 1).recLost 3
        | (q, true) =>
          let q1 := (q.count (.telv d 1) 0 1).recDone s
          match q1.domIdx f.dom with
          | some k => if f.dom = c then q1 else q1.count (.telv k 1) 3 1
          | none => q1

/-- A record into the capture SRAM (R468). -/
def Part.chipRecord (p : Part) (f : Seen) (filter : Nat) : Part :=
  let s := p.getF .ant ANT.WR.SEQ
  let full := decide (16384 ≤ (s + 2 ^ 32 - p.getF .ant ANT.RD.SEQ) % 2 ^ 32)
  if full && !p.bit .ant ANT.CTL.FULL_POL then p.recLost 2
  else
    let p1 := if full then (p.setF .ant ANT.RD.SEQ ((s + 2 ^ 32 - 16383) % 2 ^ 32)) else p
    let w := beWords (p1.record f filter s false p1.ant.trig)
    { p1 with ant := { p1.ant with ring := Sparse.set p1.ant.ring [] (s % 16384) w } }.recDone s

/-- A trigger: the first since EN was written pulses the ANT_TRIG_OUT pins, marks the next record, and starts or stops the capture;
later ones are only counted (R472) (log entry 54, DEDUCED). -/
def Part.antTrigger (p : Part) : Part :=
  if !p.bit .ant ANT.CTL.EN then p
  else
    let p0 := p.count .ant 7 1
    if p0.bit .ant ANT.STAT.TRIGGERED then p0
    else
      let p1 := p0.setF .ant ANT.STAT.TRIGGERED 1
      let p2 := (List.range 16).foldl (fun q k => if q.pinOwner k = 4 then q.emit (.gpioPulse k) else q) p1
      let p3 := { p2 with ant := { p2.ant with trig := true } }
      match p3.getF .ant ANT.CTL.TRIG_MODE with
      | 1 => p3.setF .ant ANT.STAT.RUNNING 1
      | 2 =>
        let n := p3.getF .ant ANT.POST.RECORDS
        if n = 0 then (p3.setF .ant ANT.CTL.EN 0).setF .ant ANT.STAT.RUNNING 0
        else { p3 with ant := { p3.ant with post := some n } }
      | _ => p3

/-- A whole copy of a captured frame goes to ANT.MIRROR (R471, R374). -/
def Part.mirrorCopy (p : Part) (f : Seen) : Part :=
  let c := p.getF .ant ANT.CTL.COLL_DOM
  let fr := { Frame.blank with kind := 3, cls := p.getF .ant ANT.CTL.MIRROR_CLASS, srcXp := 19, srcSub := 1,
                               acct := (p.domIdx c).getD 0, domf := c, mirror := true }
  let ipt := match f.body with
    | .local t => Inner.tlp t
    | .unit _ i => i
  match p.sendDrop fr (p.getF .ant ANT.MIRROR.PORT) c ipt ipt.bytes (p.gport 261) (dropPol f.lp fr.acct) with
  | (q, false) => q.count .ant 5 1
  | (q, true) =>
    let q1 := q.count .ant 4 1
    match q1.domIdx f.dom with
    | some k => if f.dom = c then q1 else q1.count (.telv k 1) 4 1
    | none => q1

/-- A frame that matched filter `i` and passed the grant test advances its sample count (R465). -/
def Part.sampled (p : Part) (i : Nat) : Part :=
  let every := 2 ^ min 20 (p.getF .ant (ANT.FILT.SAMPLE_LOG2.ix i))
  { p with ant := { p.ant with nth := Sparse.set p.ant.nth 0 i ((Sparse.get p.ant.nth 0 i + 1) % every) } }

/-- A frame passes a capture point (R464 to R472): every filter that matches it keeps its own sample count, and the lowest-numbered one that
takes it for more than a trigger records or mirrors it (log entry 54, DEDUCED). Answers whether a mirror copy is due, which follows the original's
admission (R374) (log entry 21, DESIGN CHOICE). -/
def Part.capture (p : Part) (f : Seen) : Part × Bool :=
  if !p.bit .ant ANT.CTL.EN || !p.bit .pwr PWR.UNIT_STAT.ANT || f.excluded p.chip then (p, false)
  else
    let hits := (List.range 4).filter (fun i => p.filterHits i f)
    let q := if hits.any (fun i => p.getF .ant (ANT.FILT.TRIG.ix i) == 1 || p.getF .ant (ANT.FILT.ACTION.ix i) == 3) then
        p.antTrigger else p
    if hits.isEmpty then (p, false)
    else
      let q1 := q.count .ant 0 1
      if !q1.grantTest f.dom then (q1.count .ant 6 1, false)
      else
        let q2 := hits.foldl (fun (r : Part) i => r.sampled i) q1
        match hits.find? (fun i => Sparse.get p.ant.nth 0 i == 0 && p.getF .ant (ANT.FILT.ACTION.ix i) != 3) with
        | none => (q2, false)
        | some i =>
          let act := p.getF .ant (ANT.FILT.ACTION.ix i)
          if !q2.bit .ant ANT.STAT.RUNNING then (q2, false)
          else (if act = 1 then q2 else if q2.ant.mode = 1 then q2.hostRecord f i else q2.chipRecord f i, act != 0)

end Sys2Proof.Machine
end

