-- ==== Sys2Proof/Machine/Lookup.lean ====
section
/-! DEFINITION. The lookup engine: Identify, Claim, Check, Track and Translate (R239 to R259, R269 to R282, R99, R520). -/

namespace Sys2Proof.Machine

/-! ### Track and Translate -/

/-- Flow-control type: 0 posted, 1 non-posted, 2 completion. -/
def TlpKind.fc (k : TlpKind) : Nat := k.cellKind

/-- A later packet may pass an earlier one in one class queue (R220; the ordering table of the PCIe Base Specification): a posted request
passes non-posted requests and completions; a completion passes non-posted requests; a non-posted request passes completions and
non-posted requests; Relaxed Ordering, or ID-Based Ordering towards another requester, opens the rest (log entry 32, DESIGN CHOICE). -/
def mayPass (later earlier : Tlp) : Bool :=
  let loose := later.ro || (later.ido && later.rid != earlier.rid)
  match later.kind.fc, earlier.kind.fc with
  | 0, 0 => loose
  | 0, _ => true
  | 1, 0 => loose && later.kind != .atomic
  | 1, _ => true
  | 2, 0 => loose
  | 2, 1 => true
  | _, _ => later.rid != earlier.rid || later.tag != earlier.tag

/-- Requester ID towards a target port of this chip for a requester of domain `d` (R259): the device's PORT_TGT.PRID, the
requester's own ID at its own host, the Control Function of another host's domain. -/
def Part.tgtRid (p : Part) (lp d : Nat) (who : Who) (rid : BitVec 16) : BitVec 16 :=
  if 128 ≤ lp then rid
  else if p.role lp = 1 then
    let td := p.getF (.port lp) PORT.PORT_CTL.DOMAIN
    if td ≠ d then p.cfRid td
    else match who with
      | .drone _ => p.cfRid d
      | .host r => r
      | .agent _ => rid
  else BitVec.ofNat 16 (p.getF .tbl (TBL.PORT_TGT.PRID.ix lp))

/-- Crossbar port and SUB of a request's source. -/
def Ingress.at : Ingress → Nat × Nat
  | .port t => (t / 8, t % 8)
  | .drone d _ => (16 + d, 0)
  | .agent a => (Dest.agent a).at

/-- Local port of a request's source. -/
def Ingress.lp : Ingress → Nat
  | .port t => t
  | .drone d _ => 256 + d
  | .agent a => 256 + a

/-- The request leaves this chip as a Cocoon unit, or may do so as a multicast write. -/
def Looked.isUnit (q : Looked) (p : Part) : Bool :=
  match q.mc with
  | some g => p.mcLinks g != []
  | none => q.target / 512 % 128 != p.chip

/-- Takes the cells of an arrived request: from its port's backing, or from its account or the management pool (R200, R201). -/
def Part.chargeReq (p : Part) (q : Looked) : Part × Pool :=
  let n := cellsOf (q.tlp.bytes + (if q.isUnit p then 32 else 0))
  match q.ing with
  | .port t =>
    p.useBacking t (if q.tlp.kind.nonPosted then 1 else 0) n (2 + (if q.tlp.kind = .memRead then 0 else (q.tlp.span + 255) / 256))
      (.acct q.acct)
  | .drone _ _ => if q.esc then (p, .esc) else (p.chargePool (.acct q.acct) (n - cellsOf q.tlp.bytes), .acct q.acct)
  | .agent _ => (p, .mgmt)

/-- A PCIe port's rate for cut-through in 1/80 GB/s: signalling rate times width / 8 (R174). -/
def Part.portRate (p : Part) (t : Nat) : Nat :=
  [25, 50, 80, 160, 320, 640, 1280].getD (p.getF (.port t) PORT.PORT_STAT.RATE) 0 * p.getF (.port t) PORT.PORT_STAT.WIDTH

/-- The rate of a target in 1/80 GB/s: a port's own, 128 GB/s of a link, 384 GB/s of an agent (R174). -/
def Part.rateAt (p : Part) (xp sub : Nat) : Nat := if 16 ≤ xp then 30720 else if 8 ≤ sub then 10240 else p.portRate (8 * xp + sub)

/-- The rate of a frame's target; of a group, that of its fastest member here (R174, R175). -/
def Part.targetRate (p : Part) : Dest → Nat
  | .chip _ => 10240
  | .mc g => ((p.mcTargets g).map (fun t => p.rateAt t.1 t.2)).foldl max 0
  | d => p.rateAt d.at.1 d.at.2

/-- A frame start may cross before the frame's last byte has arrived (R175): from a PCIe port in FLIT mode or an agent, at a rate of at least its
target's. -/
def Part.cutThrough (p : Part) (ing : Ingress) (d : Dest) : Bool :=
  (match ing with
    | .port t => p.bit (.port t) PORT.PORT_STAT.FLIT
    | _ => true) && decide (p.targetRate d ≤ p.rateAt ing.at.1 ing.at.2)

/-- A frame is still arriving as it is queued: a request of a PCIe port that may cut through. What an agent issues is whole when it is queued, as is
a frame from the resequencer (R175) (log entry 92, DESIGN CHOICE). -/
def Part.arriving (p : Part) (ing : Ingress) (d : Dest) : Bool :=
  (match ing with
    | .port _ => true
    | _ => false) && p.cutThrough ing d

/-- A TLP with EP set that a PCIe port receives and that is forwarded (R345). -/
def Part.poisonRx (p : Part) (ing : Ingress) (m : Tlp) : Part :=
  match ing with
  | .port t => if m.ep then p.err (.port t) 7 else p
  | _ => p

/-- Forwards a request that has passed Track: a local frame, a Cocoon unit, or a multicast frame (R239, R297, R319). -/
def Part.forward (p : Part) (q : Looked) (ort : Option Nat) (slot : Option (Nat × Nat)) (gate : Option Nat)
    (chan : Option (Nat × Nat × Nat)) : Part :=
  let x := (p.poisonRx q.ing q.tlp).chargeReq q
  let src := q.ing.at
  let f := { Frame.blank with len := q.tlp.bytes + (if q.isUnit p then 32 else 0), kind := q.tlp.kind.cellKind, cls := q.cls, srcXp := src.1, srcSub := src.2, acct := q.acct,
                              domf := q.fid, ort := ort, slot := slot, win := q.win, gate := gate, chan := chan }
  let ortx := match ort, slot with
    | some i, _ => i
    | none, some (i, g) => i + 4096 * g
    | none, none => noOrtx
  let h := { CocoonHdr.blank with dst := q.target, src := p.gport q.ing.lp, domain := q.fid, cls := q.cls, hops := p.hopInit,
                                  ortx := ortx, psel := p.pselOf q.acct, poison := q.tlp.ep, ide := q.ide,
                                  ro := q.tlp.ro && !q.tlp.kind.nonPosted }
  match q.mc with
  | some g =>
    let y := match slot with
      | some s => x.1.openCombine (p.mcTargets g) (some s) none
      | none => (x.1, none)
    let body := if p.mcLinks g = [] then Body.local q.tlp else
      .unit { h with dst := 0xFFFF, mcf := true, mcg := g, ortx := match y.2 with
        | some i => i + 4096 * (y.1.cb i).gen
        | none => noOrtx } (.tlp q.tlp)
    y.1.offer { f with dest := .mc g, body := body, combine := y.2, open_ := p.arriving q.ing (.mc g) } x.2
  | none =>
    if q.target / 512 % 128 = p.chip then
      let lp := q.target % 512
      let t1 := if q.tlp.kind.nonPosted then q.tlp else { q.tlp with rid := p.tgtRid lp q.domain q.who q.tlp.rid }
      x.1.offer { f with dest := destOf lp, body := .local t1, open_ := p.arriving q.ing (destOf lp) } x.2
    else
      let esc := q.esc || (match p.frtIdx q.target q.cls with
        | some k => p.frtEsc k
        | none => false)
      let d := Dest.chip (q.target / 512 % 128)
      x.1.offer { f with dest := d, body := .unit h (.tlp q.tlp), esc := esc, open_ := p.arriving q.ing d } x.2

/-- The target agent answers with the original requester ID and tag, so no entry is opened (R258). -/
def Looked.toAgent (q : Looked) (chip : Nat) : Bool := decide (q.target / 512 % 128 = chip) && (agentOf (q.target % 512)).isSome

/-- Two requests are of one record: of one that holds it, or of one requester whose tracked write will have it (R270, R281). -/
def Part.sameRec (p : Part) (w q : Looked) : Bool :=
  w.domain == q.domain && ((w.who == q.who && w.tracked) || ((p.recHeld w.domain w.who).isSome && p.recHeld w.domain w.who == p.recHeld q.domain q.who))

/-- gate_clear of R281 against the DEVICE requests that wait at the Track stage themselves: they reached it before `q`. -/
def Part.gatePast (p : Part) (q : Looked) (fence : Bool) : Bool :=
  p.waiting.all (fun w =>
    if w.req.device && p.sameRec w.req q then
      if fence then w.req.tlp.kind.nonPosted
      else w.req.target == q.target && !(q.tlp.kind.nonPosted && !w.req.tlp.kind.nonPosted)
    else true)

/-- Why a request has to wait at Track behind those that wait there: 1 an entry or quota, 2 a slot, 3 the gate, 0 it need not (R258, R275,
R281). -/
def Part.trackBlock (p : Part) (q : Looked) (fence : Option Nat) : Nat :=
  let r := match q.who with
    | .host rid => (p.hostRec q.domain rid).map Rec.host
    | .drone s => some (.drone s)
    | .agent _ => none
  let gate := q.device && (!p.gatePast q fence.isSome || (match r with
    | some r => !p.gateClear q.domain r q.target (!q.tlp.kind.nonPosted) fence.isSome
    | none => false))
  if q.tlp.kind.nonPosted && !q.toAgent p.chip && p.ortBlocked q.acct then 1
  else if q.tracked && p.slotBlocked q.acct then 2
  else if gate then 3
  else 0

/-- What waits holds a later packet of its ingress towards a target in a class: one that waits behind a posted write for a slot goes on only
where PCIe ordering permits (R275), and so does one behind a write that the gate holds in the same flow (R279). -/
def Waiting.holds (w : Waiting) (m : Tlp) (target cls : Nat) : Bool :=
  !w.req.tlp.kind.nonPosted && (w.why != 3 || (w.req.target == target && w.req.cls == cls)) && !mayPass m w.req.tlp

/-- A request that waits before this one at its ingress holds it: one of its kind (R258, R275, R282), or a posted write that it may not pass
(R275, R279). -/
def behindWaiting (q : Looked) (before : List Waiting) : Bool :=
  before.any (fun w => w.req.ing = q.ing &&
    (w.req.tlp.kind.nonPosted == q.tlp.kind.nonPosted || (q.tlp.kind.nonPosted && w.holds q.tlp q.target q.cls)))

/-- A fence read reaches the register target and waits there for the slots in its scope (R284, R285). Code 0 FENCE, 1 + k
FENCE_CL[k], 5 FENCE_DOM (log entry 55, DEDUCED). -/
def Part.openFence (p : Part) (q : Looked) (code : Nat) : Part :=
  let r := p.recHeld q.domain q.who
  let rid := q.tlp.rid
  let scope := if code = 0 then FenceScope.rec_ else if code = 5 then .dom else .cls (code - 1)
  let inScope := fun (s : Slot) => s.used && s.domain == q.domain && (match scope with
    | .dom => true
    | .rec_ => some s.rec_ == r
    | .cls k => some s.rec_ == r && s.fclass == k)
  let wait := (p.ledger.filter (fun e => inScope e.2)).map (fun e => (e.1, e.2.gen))
  let g := match r with
    | some r => let y := p.gateOpen q.domain r q.target false; (y.1, some y.2)
    | none => (p, none)
  { (g.1.absorb q.ing q.tlp q.acct) with
    fences := p.fences ++ [Fence.mk q.domain rid q.tlp.tag q.cls q.tlp.tc r scope wait (q.tlp.len == 8) g.2] }

/-- The Track stage proper: opens the entry or slot and the gate, and forwards the request (R258, R274, R281). -/
def Part.trackPass (p : Part) (q : Looked) (fence : Option Nat) (chan : Option (Nat × Nat × Nat)) : Part :=
  match fence with
  | some code => p.openFence q code
  | none =>
    let np := q.tlp.kind.nonPosted
    let x : Part × Option Rec := if q.tracked then (let y := p.recOf q.domain q.who; (y.1, some y.2)) else (p, p.recHeld q.domain q.who)
    let g : Part × Option Nat := match q.device, x.2 with
      | true, some r => let y := x.1.gateOpen q.domain r q.target (!np); (y.1, some y.2)
      | _, _ => (x.1, none)
    if np && !q.toAgent p.chip then
      let here := decide (q.target / 512 % 128 = p.chip)
      let e : OrtEnt := { OrtEnt.empty with
        state := if here then .localE else .origin, op := ortOp q.tlp.kind, domain := q.acct, fabricId := q.fid, origRid := q.tlp.rid,
        origTag := q.tlp.tag, target := q.target, source := p.gport q.ing.lp, remain := q.tlp.expects,
        deadline := p.ns + p.ortDl q.acct, cls := q.cls, who := q.who, opened := p.ns, fbt := q.fbt, gate := g.2, psel := p.pselOf q.acct,
        lowerAddr := q.tlp.addr.toNat % 128, chan := chan, hdr := reqHeader q.tlp q.orig }
      let y := g.1.openOe e
      y.1.forward q (some y.2) none none chan
    else if !np && q.tracked then
      let ch := match q.ing with
        | .drone d c => some (256 * d + c)
        | _ => none
      let y := g.1.openSlot q.domain (x.2.getD (.host 0)) q.acct q.device q.fclass q.target q.orig q.tlp.span g.2 ch
      y.1.forward q none (some y.2) g.2 chan
    else g.1.forward q none none g.2 chan

/-- A request begins to wait at Track: the counters and the error of what it waits for. -/
def Part.beginWait (p : Part) (b : Nat) (fid : Nat) : Part :=
  match b with
  | 2 => if 4096 ≤ p.slotsUsed then p.err .ord 0 else p
  | 3 => p.count .ord 7 1 (some fid)
  | _ => p

/-- The Track stage: passes, or waits behind its limit, the gate or an earlier request (R258, R275, R281, R282) (log entry 78, DEDUCED). -/
def Part.track (p : Part) (q : Looked) (fence : Option Nat) (chan : Option (Nat × Nat × Nat)) : Part :=
  let b := p.trackBlock q fence
  if b = 0 && !behindWaiting q p.waiting then p.trackPass q fence chan
  else { p with waiting := p.waiting ++ [Waiting.mk q fence chan b p.now] }.beginWait b q.fid

/-- The `i`-th waiting request tries again after waiting for reason `why`: it goes on when no earlier one of its ingress and kind
waits and nothing blocks it, or waits for what blocks it now. -/
def Part.resume (p : Part) (i why : Nat) : Part :=
  match p.waiting[i]? with
  | none => p
  | some w =>
    if (w.why ≠ why ∧ w.why ≠ 0) ∨ behindWaiting w.req (p.waiting.take i) then p
    else
      let b := Part.trackBlock { p with waiting := p.waiting.take i } w.req w.fence
      if b = 0 then Part.trackPass { p with waiting := p.waiting.eraseIdx i } w.req w.fence w.chan
      else if b = w.why then p
      else { p with waiting := p.waiting.set i { w with why := b } }.beginWait b w.req.fid

/-! ### The stages -/

/-- The domain is in reset (R113): IN_RESET of a port of the domain is 1. -/
def Part.domReset (p : Part) (d : Nat) : Bool :=
  p.regs.any (fun e => e.2.getLsbD 16 && (match pageOf e.1 with
    | some (.port t) => decide (e.1 = (Page.port t).base + 0x104) && (p.role t == 1 || p.role t == 2) && p.getF (.port t) PORT.PORT_CTL.DOMAIN == d
    | _ => false))

/-- The domain that owns the device at a local target, for R114: PORT_CTL of a whole port, the binding of a function, which a window names by
its address. -/
def Part.ownerOf (p : Part) (lp : Nat) (fbt : Option Nat) (a : Nat) : Option Nat :=
  match p.role lp, fbt with
  | 3, some f => some (p.fbtDom f)
  | 3, none => (p.fnAt lp a).map p.fbtDom
  | 0, _ => none
  | _, _ => some (p.getF (.port lp) PORT.PORT_CTL.DOMAIN)

/-- Code of the fence register at a BAR0 offset (R284): 0 FENCE, 1 + k FENCE_CL[k], 5 FENCE_DOM. -/
def fenceCode (off : Nat) : Option Nat :=
  if 0x2100 ≤ off ∧ off < 0x2130 ∧ off % 8 = 0 then some ((off - 0x2100) / 8) else none

/-- What the Claim stage makes of a request: its claimant's target, address, type, fence class, window and binding. -/
structure Claimed where
  target : Nat
  addr : Nat
  device : Bool
  fclass : Nat
  win : Option Nat
  fbt : Option Nat
  mc : Option Nat
  ide : Bool
  deriving DecidableEq, Repr

/-- The target of a claimant (R241, R246, R250, R280); the target of a domain whose host is on another chip is not named by the
domain table, and no local port answers for it. -/
def Part.claimed (p : Part) (d a : Nat) (c : Claim) : Claimed :=
  match c with
  | .bar n o => Claimed.mk (p.gport 260) (o + n * 0x800000) true 0 none none none false
  | .window w => Claimed.mk (p.tf 1 w 1 8 16) (p.tq64 1 w 4 + (a - p.tq64 1 w 2)) (p.tf 1 w 0 1 1 == 1) (p.tf 1 w 0 12 2) (some w)
      none none (p.tf 1 w 0 26 1 == 1)
  | .bridge v => Claimed.mk (p.gport (p.tf 6 (128 * d + v) 0 3 7)) a true 0 none none none false
  | .fnSlot f k => Claimed.mk (p.gport (p.tf 0 f 0 3 7)) (p.physBase f k + (a - p.vbarBase f k)) true 0 none (some f) none false
  | .host => Claimed.mk (if p.attached d then p.gport (p.uport d) else p.gport 511) a false 0 none none none false
  | .group g => Claimed.mk 0xFFFF a false 0 none none (some g) false
  | .none_ => Claimed.mk 0xFFFF a false 0 none none none false
  | .acs => Claimed.mk 0xFFFF a false 0 none none none false

/-- DPC Trigger Status of a virtual bridge (R342; layout of log entry 12). -/
def Part.dpcOn (p : Part) (d vb : Nat) : Bool := p.cf d (2 + vb) 0x150 0 1 == 1

/-- A request of a domain is for a bound function behind a SHARED bridge of it that is in DPC (R342): the function of a slot, or at a ROLE 3 port the one
at the window's address. -/
def Part.dpcHolds (p : Part) (d : Nat) (x : Claimed) : Bool :=
  (match x.fbt with
    | some f => some f
    | none => if x.win.isSome && x.target / 512 % 128 == p.chip && p.role (x.target % 512) == 3 then p.fnAt (x.target % 512) x.addr else none).any
    (fun f => p.fbtDom f == d && p.dpcOn d (p.tf 0 f 0 16 7))

/-- Why a claimed request is refused (R99, R252, R256, R246, R114), as a completion status and a cause of R273; none when it may go on
(log entry 56, DEDUCED). -/
def Part.checkClaim (p : Part) (d : Nat) (c : Claim) (x : Claimed) (t : Tlp) (cls : Nat) : Option (CplStatus × Nat) :=
  let lp := x.target % 512
  let here := decide (x.target / 512 % 128 = p.chip)
  let first := match c with
    | .none_ => some 1
    | .acs => some 1
    | .window w => p.winCheck w t
    | .fnSlot f k => if p.tf 0 f 0 1 2 = 2 then some 1
      else if beyond (t.addr.toNat - p.vbarBase f k) t.span (2 ^ p.slotLog2 f k) then some 3 else none
    | .group _ => if t.kind = .memWrite then none else some 4
    | _ => none
  let big := match c with
    | .window _ => false
    | .bar _ _ => false
    | .group _ => false
    | _ => here && decide (lp < 128 ∧ p.mps lp < t.data.length)
  match first with
  | some k => some (.ur, k)
  | none =>
    if big then some (.ur, 3)
    else if p.dpcHolds d x then some (.ur, 5)
    else match c with
      | .group _ => none
      | _ =>
        if p.notCarriable x.target cls then some (.ur, 4)
        else if here && lp < 128 && (match p.ownerOf lp x.fbt x.addr with
          | some o => o != d && p.domReset o
          | none => false) then some (.ca, 7)
        else none

/-- A posted write discarded at a Control Function BAR, or a read answered there (R89, R99, R520). -/
def Part.barRefused (p : Part) (q : Looked) (st : CplStatus) : Part :=
  let p1 := p.count .tbl 5 1 (some q.fid)
  if q.tlp.kind.nonPosted then p1.answerReq q.ing q.tlp q.cls q.fid q.acct st none else (p1.absorb q.ing q.tlp q.acct).count .ord 3 1 (some q.fid)

/-- Header words of a memory write of the host or a device, as an AER Header Log keeps them. -/
def tlpHeader (t : Tlp) : List (BitVec 32) := mwrHeader t.span t.rid t.addr

/-- The bridge whose Bus Master Enable is clear for a request from a device (R99, R520): its own, or function 0 on the way to the
host (log entry 56, DEDUCED). -/
def Part.bmeClear (p : Part) (d : Nat) (vb : Option Nat) (c : Claim) : Option Nat :=
  match vb with
  | none => none
  | some v =>
    if p.cf d (2 + v) 0x04 2 1 = 0 then some (2 + v)
    else if c = .host ∧ p.cf d 0 0x04 2 1 = 0 then some 0 else none

/-- Claim, Check, Track of a memory request whose domain is known (R239). `vb` is the bridge it comes from (log entry 78, DEDUCED). -/
def Part.lookup (p : Part) (ing : Ingress) (d : Nat) (who : Who) (cls : Nat) (esc upstream : Bool) (vb : Option Nat) (t : Tlp)
    (chan : Option (Nat × Nat × Nat)) : Part :=
  let fid := p.fabricId d
  let c := if p.sourceBad d vb (match who with
      | .host r => r
      | _ => t.rid) then Claim.acs else p.claim d t upstream vb
  let x := p.claimed d t.addr.toNat c
  let drone := match ing with
    | .drone _ _ => true
    | _ => false
  let tracked := t.kind = .memWrite && (upstream || drone || x.win.isSome)
  let q : Looked := Looked.mk ing d fid who d cls esc { t with addr := BitVec.ofNat 64 x.addr } x.target x.device x.fclass tracked x.win x.fbt
    t.addr x.mc x.ide
  let free := p.free32
  let noTarget := decide (c = .none_ ∨ c = .acs)
  let cap := (if noTarget then free.1 else p).capture (Seen.mk 0 ing.lp (p.gport ing.lp) (if noTarget then free.2.toNat % 65536 else x.target)
    fid cls t.kind.cellKind t.bytes (.local t) x.mc.isSome false)
  let p1 := cap.1
  match c with
  | .bar n o =>
    let off := o
    if p1.cf d 1 0x04 1 1 = 0 ∨ p1.inFlr d ∨ p1.cf d 1 0x44 0 2 = 3 then
      let r := p1.barRefused q .ur
      if t.kind.nonPosted then r else r.aerUr d 1 (tlpHeader t)
    else if t.kind = .atomic then p1.barRefused q .ur
    else if ¬((t.span = 4 ∨ t.span = 8) ∧ off % t.span = 0) then (p1.barRefused q .ca).err (.cfn d) 0
    else p1.track q (if n = 0 ∧ t.kind = .memRead then fenceCode off else none) chan
  | _ =>
    match p1.bmeClear d vb c with
    | some fn => if t.kind.nonPosted then p1.refuseReq q .ur 1 chan else ((p1.absorb ing t d).count .tbl 5 1 (some fid)).aerUr d fn
          (tlpHeader t)
    | none =>
      match p1.checkClaim d c x t cls with
      | some (st, cause) => p1.refuseReq q st cause chan
      | none =>
        let p2 := p1.track q none chan
        if cap.2 then p2.mirrorCopy (Seen.mk 0 ing.lp (p.gport ing.lp) x.target fid cls t.kind.cellKind t.bytes (.local t) x.mc.isSome false)
        else p2

/-- CLASS of a TLP that arrives at a port (R219). -/
def Part.classOf (p : Part) (t tc : Nat) : Nat := p.getF (.sch (t / 8)) (SCH.TC_MAP.MAP.ix (t % 8)) / 8 ^ (tc % 8) % 8

/-- Identify for a TLP at a PCIe port (R239): the domain, the binding, the requester as its domain knows it (log entry 78, DEDUCED). -/
def Part.identify (p : Part) (t : Nat) (rid : BitVec 16) : Option (Nat × Option Nat × BitVec 16) :=
  match p.role t with
  | 1 => some (p.getF (.port t) PORT.PORT_CTL.DOMAIN, none, rid)
  | 2 => some (p.getF (.port t) PORT.PORT_CTL.DOMAIN, none, rid)
  | 3 => match p.fbtOf t rid with
    | some f => if p.tf 0 f 0 1 2 = 2 then none else some (p.fbtDom f, some f, p.vrid f)
    | none => none
  | _ => none

/-- The domain has an account and ports here: it is attached, or its host is on another chip (R76, R82). -/
def Part.domHere (p : Part) (d : Nat) : Bool := p.attached d || p.tf 5 d 1 0 1 == 1

/-- The frame a port was receiving is complete: its TLP can no longer be nullified (R176). -/
def Part.sealFrames (p : Part) (t : Nat) : Part :=
  { p with frames := p.frames.map (fun e => (e.1, e.2.map (fun f =>
      if f.srcXp = t / 8 ∧ f.srcSub = t % 8 then { f with open_ := false } else f))) }

/-- Where an ID-routed message goes: below a bridge of the domain with its target port and the device's own ID, or to the host. -/
def Part.idTarget (p : Part) (d : Nat) (id : BitVec 16) : Option (Nat × BitVec 16) :=
  let bus := id.toNat / 256
  match (p.bridges d).find? (fun v => decide (p.cf d (2 + v) 0x18 8 8 ≤ bus ∧ bus ≤ p.cf d (2 + v) 0x18 16 8) && p.cf d (2 + v) 0x18 8 8 != 0) with
  | some v =>
    if p.vbKind d v = 0 then some (p.tf 6 (128 * d + v) 0 3 7, id)
    else if p.vbKind d v = 1 then
      ((p.validIn 0).find? (fun f => p.fbtDom f == d && p.vrid f == id)).map (fun f =>
        (p.tf 0 f 0 3 7, BitVec.ofNat 16 (p.tf 0 f 1 0 16)))
    else none
  | none => if p.attached d then some (p.uport d, id) else none

/-- A message goes to one local port of its domain as an untracked posted frame (R242, R245, R253). -/
def Part.sendMsg (p : Part) (t goal d cls : Nat) (rid : BitVec 16) (m : Tlp) : Part :=
  let src := (Ingress.port t).at
  let n := cellsOf m.bytes
  let x := (p.poisonRx (.port t) m).useBacking t 0 n (2 + (m.len + 255) / 256) (.acct d)
  x.1.offer { Frame.blank with body := .local { m with rid := rid }, len := m.bytes, kind := 0, cls := cls, dest := .port goal, srcXp := src.1,
                               srcSub := src.2, acct := d, domf := p.fabricId d } x.2

/-- A message at a port (R253, R245): from a device to the root, by ID, or from the host to every device port of the domain; any
other is consumed here. -/
def Part.message (p : Part) (t d cls : Nat) (rid : BitVec 16) (m : Tlp) : Part :=
  match m.tag with
  | 0 => if p.role t ≠ 1 ∧ p.attached d then p.sendMsg t (p.uport d) d cls rid m else (p.absorb (.port t) m d).count .ord 3 1 (some (p.fabricId d))
  | 2 => match p.idTarget d m.id with
    | some (goal, id) => p.sendMsg t goal d cls rid { m with id := id }
    | none => (p.absorb (.port t) m d).count .ord 3 1 (some (p.fabricId d))
  | 3 => if p.role t = 1 then
      ((p.bridges d).filter (fun v => p.vbKind d v == 0)).foldl (fun q v => q.sendMsg t (q.tf 6 (128 * d + v) 0 3 7) d cls rid m) p
    else (p.absorb (.port t) m d).count .ord 3 1 (some (p.fabricId d))
  | _ => p.absorb (.port t) m d

/-- A message or configuration request passes the INGRESS capture point with its domain known; where it goes is not a target port of the
lookup, so the egress field of its record is a free value (R464, log entry 3). Runs `f` on it, and the mirror copy after it (R374). -/
def Part.captured (p : Part) (t d cls : Nat) (m : Tlp) (f : Part → Part) : Part :=
  let x := p.free32
  let seen := Seen.mk 0 t (p.gport t) (x.2.toNat % 65536) (p.fabricId d) cls m.kind.cellKind m.bytes (.local m) false false
  let cap := x.1.capture seen
  let p1 := f cap.1
  if cap.2 then p1.mirrorCopy seen else p1

/-- A request or message arrives at a PCIe port whose data link is up (R239). A TLP of a domain in reset is not admitted (R113), and in
MAINTENANCE and TEST nothing claims a request (R25) (log entry 91, DEDUCED). -/
def Part.receive (p : Part) (t : Nat) (m : Tlp) : Part :=
  if p.bit (.port t) PORT.CONT_STAT.ACTIVE then p.bumpF (.port t) PORT.CONT_STAT.DISCARDED 1
  else if !p.bit (.port t) PORT.PORT_STAT.DL_UP then p
  else
    let p0 := p.sealFrames t
    let cls := p0.classOf t m.tc
    match p0.identify t m.rid with
    | none =>
      let p1 := if p0.role t = 3 then (p0.count .tbl 5 1).err .tbl 0 else p0
      if m.kind.nonPosted then p1.answerReq (.port t) m cls 0 0 .ur none else p1.absorb (.port t) m 0
    | some (d, fbt, rid) =>
      if !p0.domHere d || p0.md.mode == .maintenance || p0.md.mode == .test then (if m.kind.nonPosted then p0.answerReq (.port t) m cls 0 0 .ur none else p0.absorb (.port t) m d)
      else if p0.domReset d then p0.absorb (.port t) m d
      else
        let p1 := if p0.role t = 1 then ((p0.count (.telv d 0) 0 1).count (.telv d 0) 1 m.data.length) else p0
        let p2 := if p1.role t = 3 then p1.policeTlp t d m.data.length else p1
        match m.kind with
        | .msg => p2.captured t d cls m (fun q => q.message t d cls rid m)
        | .cfgRead => p2.answerReq (.port t) m cls (p2.fabricId d) d .ur none
        | .cfgWrite => p2.answerReq (.port t) m cls (p2.fabricId d) d .ur none
        | .cpl => p2
        | _ => p2.lookup (.port t) d (.host rid) cls false (p2.role t == 1) (p2.srcBridge t fbt) m none

end Sys2Proof.Machine
end

