-- ==== Sys2Proof/Machine/Switch.lean ====
section
/-! DEFINITION. The crossbar: open states, requests, matching, cell choice, landing, and the loss and return of planes (R155 to
R187). One command matches all planes for one cell time. -/

namespace Sys2Proof.Machine

/-! ### Frames on their way -/

/-- VC of a frame at a link (R120, R298). -/
def Frame.vc (f : Frame) : Nat :=
  match f.body with
  | .unit _ (.time _ _ _) => 7
  | _ => if f.kind = 3 then 6 else f.kind + 3 * b2n f.esc

/-- The target a unicast frame crosses to: for another chip, the link chosen at its start. -/
def Frame.tgt (f : Frame) : Option (Nat × Nat) :=
  match f.dest with
  | .port t => some (t / 8, t % 8)
  | .agent a => some ((Dest.agent a).at)
  | .chip _ => f.link.map (fun l => (l / 2, 8 + l % 2))
  | .mc _ => none

/-- A frame start has crossed and the frame still has cells to send. -/
def Frame.started (f : Frame) : Bool := decide (0 < f.matched) && !f.abort

/-- Cells of a frame that have arrived at ingress: all but the last while its sender has not finished it (R167, R175)
(log entry 92, DESIGN CHOICE). -/
def Frame.arrived (f : Frame) : Nat := f.cells.length - b2n f.open_

/-- Every cell of a frame has crossed (R165). -/
def Part.crossed (p : Part) (i : Nat) (f : Frame) : Bool :=
  f.matched == f.cells.length && !p.flights.any (fun x => x.frame == i) && !p.residues.any (fun e => e.2.any (fun r => r.frame == i))

/-- The key of a target's queue: a station's class queue, or an agent's line (R218, R160). -/
def tqKey (xp sub cls : Nat) : Nat := if xp < 16 then queueKey xp sub cls else 8192 + 2 * xp + sub

/-- A target's queue. -/
def Part.queue (p : Part) (k : Nat) : List QItem := Sparse.get p.tq [] k

/-- Stores a target's queue. -/
def Part.setQueue (p : Part) (k : Nat) (l : List QItem) : Part := { p with tq := Sparse.set p.tq [] k l }

/-- All items landed at a target. -/
def Part.landedAt (p : Part) (xp sub : Nat) : List QItem :=
  if xp < 16 then (List.range 8).flatMap (fun c => p.queue (queueKey xp sub c)) else p.queue (tqKey xp sub 0)

/-- Whether a frame takes room at a target's landing region: its start has been matched there and its copy there has not left (R167, R179). -/
def Part.occupies (p : Part) (i : Nat) (f : Frame) (xp sub : Nat) : Bool :=
  f.started && (match f.dest with
    | .mc _ =>
      let due := fun (r : Residue) => r.frame == i && r.fanout.contains xp
      f.mset.contains (xp, sub) && !p.residues.any (fun e => e.2.any (fun r => due r && r.k == 0)) &&
        ((p.landedAt xp sub).any (fun x => x.frame == i) || decide (f.matched < f.cells.length) ||
          p.flights.any (fun x => x.frame == i && x.xp == xp) || p.residues.any (fun e => e.2.any due))
    | _ => f.tgt == some (xp, sub) && f.sent == 0)

/-- The frames in the part with their numbers. -/
def Part.live (p : Part) : List (Nat × Frame) := p.frames.filterMap (fun e => e.2.map (fun f => (e.1, f)))

/-- Cells of transmitted TLPs that a PCIe port's region holds until the data link acknowledges them (R160) (log entry 92, DESIGN CHOICE). -/
def Part.unackedAt (p : Part) (t : Nat) : Nat := Sparse.get p.awaited 0 t

/-- Cells landed at or reserved in a target's landing region, of every class or of one (R167, R222); over all classes the region of a
PCIe port also holds its transmitted TLPs (R160). -/
def Part.roomTaken (p : Part) (xp sub : Nat) (cls : Option Nat) : Nat :=
  ((p.live.filter (fun e => p.occupies e.1 e.2 xp sub && (match cls with
    | some c => e.2.cls == c
    | none => true))).map (fun e => e.2.cells.length)).sum + (if cls.isNone ∧ xp < 16 ∧ sub < 8 then p.unackedAt (8 * xp + sub) else 0)

/-- Landing credit of an agent in cells (R160), by crossbar port and SUB. -/
def agentCredit (xp sub : Nat) : Nat :=
  if xp < 18 then 512 else if xp = 18 then (if sub = 0 then 256 else 128) else if sub = 0 then 128 else 1024

/-- AVAIL of a VC (R136). -/
def LinkBlk.avail (b : LinkBlk) (v : Nat) : Nat :=
  match b.cum.getD v none with
  | none => 0
  | some g => (g + 65536 - b.sent.getD v 0) % 65536

/-- Cells landed at a link or on their way to it, of one VC or of all. -/
def Part.linkTaken (p : Part) (l : Nat) (vc : Option Nat) : Nat :=
  let of := fun (i : Nat) => match p.fr i, vc with
    | some f, some v => f.vc == v
    | some _, none => true
    | none, _ => false
  ((p.landedAt (l / 2) (8 + l % 2)).filter (fun x => of x.frame)).length
    + (p.flights.filter (fun x => x.xp == l / 2 && x.subs.contains (8 + l % 2) && of x.frame)).length

/-- The class limit of R222 holds for `n` more cells. -/
def Part.classRoom (p : Part) (xp sub cls n : Nat) : Bool :=
  let lim := max 18 (p.getF (.sch xp) (SCH.Q_CFG.CLASS_LIM.ix2 sub cls))
  let w := p.getF (.port (8 * xp + sub)) PORT.PORT_STAT.WIDTH
  decide (p.roomTaken xp sub (some cls) + n ≤ min (min lim 2048) (128 * w))

/-- Shows in Q_STAT whether the class limit closes a class of a PCIe target (R222): no cell more would fit (log entry 74, DEDUCED). -/
def Part.limMark (p : Part) (xp sub cls : Nat) : Part :=
  if xp < 16 ∧ sub < 8 then p.setF (.sch xp) (SCH.Q_STAT.LIM_CLOSED.ix2 sub cls) (b2n !(p.classRoom xp sub cls 1)) else p

/-- The agent at a crossbar port and SUB is declared stuck (R210). -/
def Part.stuckAgent (p : Part) (xp sub : Nat) : Bool := (List.range 6).any (fun a => (Dest.agent a).at == (xp, sub) && p.stuck.contains (.agent a))

/-- A target is open for a frame start of kind, class and `n` cells (R167); a contained port and a stuck agent take copies, which are
discarded there; `vc` is its VC at a link. -/
def Part.targetOpen (p : Part) (xp sub kind cls n vc : Nat) : Bool :=
  let e := p.planes.length
  if 16 ≤ xp then decide (p.roomTaken xp sub none + e * 18 ≤ agentCredit xp sub) || p.stuckAgent xp sub
  else if sub < 8 then
    if p.bit (.port (8 * xp + sub)) PORT.CONT_STAT.ACTIVE then true else
    let w := p.getF (.port (8 * xp + sub)) PORT.PORT_STAT.WIDTH
    decide (p.roomTaken xp sub none + e * 18 + (if kind = 2 then 0 else 36) ≤ 128 * w) && p.classRoom xp sub cls n
  else
    let l := 2 * xp + (sub - 8)
    p.linkState l == 5 && decide (p.linkTaken l (some vc) + 1 ≤ (p.lk l).avail vc) && decide (p.linkTaken l none + e ≤ 14)

/-- The mode by which an FRT entry routes; for the reserved MODE 3 the manual states none, and a constant nothing is known of stands
in (R304, R307; log entry 85, DESIGN CHOICE). -/
def Part.frtMode (p : Part) (i : Nat) : Nat :=
  let m := p.tf 2 i 0 2 2
  if m == 3 then Config.frtModeThree i else m

/-- The links a unit may leave by (R305, R307): every admitted link of its path set under SPRAY, the first ACTIVE one in the
order of the mode otherwise (log entry 85, DESIGN CHOICE). -/
def Part.linksFor (p : Part) (f : Frame) : List Nat :=
  match f.body with
  | .unit h _ =>
    match p.frtIdx h.dst h.cls with
    | none => []
    | some i =>
      if !p.frtValid i then []
      else
        let set := p.frtPath i
        let np := set.length
        let ok := fun (x : Nat × Nat) => nbit x.2 h.psel
        let inOrder := fun (s : Nat) => (((List.range np).map (fun k => set.getD ((s + k) % np) (0, 0))).filter (fun x =>
          ok x && p.linkState x.1 == 5)).map (fun x => x.1)
        match p.frtMode i with
        | 1 => (inOrder (((h.src ^^^ h.dst) ^^^ h.cls) % np)).take 1
        | 2 => (inOrder 0).take 1
        | 0 => (set.filter ok).map (fun x => x.1)
        | _ => []
  | .local _ => []

/-- An unkeyed link is open only for MCTP units between the Chitins of two chips (R397). -/
def Part.keyAllows (p : Part) (l : Nat) (f : Frame) : Bool :=
  (p.lk l).txKeyed || (match f.body with
    | .unit h (.mctp _) => h.src % 512 == 259 && h.dst % 512 == 259
    | _ => false)

/-- The open links of a unit at a crossbar port (log entry 51, DEDUCED). -/
def Part.openLinks (p : Part) (f : Frame) (xp : Nat) : List Nat :=
  (p.linksFor f).filter (fun l => l / 2 == xp && p.keyAllows l f && p.targetOpen xp (8 + l % 2) f.kind f.cls f.cells.length f.vc)

/-- The link the station takes among its open ones: the larger free credit, the lower link on a tie (R307)
(log entry 51, DEDUCED) (log entry 20, DESIGN CHOICE). -/
def Part.pickLink (p : Part) (f : Frame) (xp : Nat) : Option Nat :=
  let free := fun (l : Nat) => (p.lk l).avail f.vc - p.linkTaken l (some f.vc)
  (p.openLinks f xp).foldl (fun (b : Option Nat) l => match b with
    | none => some l
    | some m => if free m < free l then some l else some m) none

/-- A multicast and a unicast frame of one ingress port and class keep their order (R165): an earlier frame of the other sort has
not fully crossed. -/
def Part.heldBack (p : Part) (i : Nat) (f : Frame) : Bool :=
  let mc := match f.dest with
    | .mc _ => true
    | _ => false
  (p.live.filter (fun e => e.1 < i)).any (fun e => e.2.srcXp == f.srcXp && e.2.srcSub == f.srcSub && e.2.cls == f.cls &&
    (match e.2.dest with
      | .mc _ => true
      | _ => false) != mc && !p.crossed e.1 e.2)

/-- A unicast frame start is eligible towards crossbar port `j` (R167, R310). -/
def Part.startOk (p : Part) (i : Nat) (f : Frame) (j : Nat) : Bool :=
  !f.noFlow && decide (0 < f.arrived) && !p.heldBack i f && (match f.dest with
    | .chip _ => !(p.openLinks f j).isEmpty
    | .mc _ => false
    | d => d.at.1 == j && p.targetOpen d.at.1 d.at.2 f.kind f.cls f.cells.length 0)

/-- Cells of a VOQ eligible towards `j`, counted up to four: from the head frame on, while each frame crosses to `j` (R164,
R167). `o` gives the open states of cycle 0. -/
def Part.eligible (p o : Part) (ids : List Nat) (j : Nat) : Nat :=
  match ids with
  | [] => 0
  | i :: r =>
    match p.fr i with
    | none => Part.eligible p o r j
    | some f =>
      if f.cells.length ≤ f.matched then Part.eligible p o r j
      else
        let goes := if f.started then f.tgt.map (fun x => x.1) == some j else o.startOk i f j
        if goes then f.arrived - f.matched + (if f.open_ then 0 else Part.eligible p o r j) else 0

/-- The spread-group VOQs of an input. -/
def Part.inputVoqs (p : Part) (i : Nat) : List Nat :=
  (p.voqs.filter (fun e => e.1 / 2128 = i ∧ e.1 % 2128 < 2096)).map (fun e => e.1)

/-- C(i, j) of R169. -/
def Part.wants (p o : Part) (i j : Nat) : Nat := ((p.inputVoqs i).map (fun k => p.eligible o (p.voq k) j)).sum

/-! ### Multicast heads (R177 to R179) -/

/-- What an input still has to deliver for a home plane: the residue register, then the cells that a loss has given back and that are read
again before any other (R178, R181). -/
def Part.residueQ (p : Part) (i h : Nat) : List Residue := Sparse.get p.residues [] (i * 4 + h)

/-- The residue register of an input and home plane. -/
def Part.residue (p : Part) (i h : Nat) : Option Residue := (p.residueQ i h).head?

/-- Stores a residue register, or frees it. -/
def Part.setResidue (p : Part) (i h : Nat) (r : Option Residue) : Part :=
  { p with residues := Sparse.set p.residues [] (i * 4 + h) (r.toList ++ (p.residueQ i h).drop 1) }

/-- The crossbar ports that hold members of a multicast frame's set. -/
def Frame.mcXps (f : Frame) : List Nat := (f.mset.map (fun t => t.1)).eraseDups

/-- The members of its set at a crossbar port. -/
def Frame.mcSubs (f : Frame) (xp : Nat) : List Nat := (f.mset.filter (fun t => t.1 == xp)).map (fun t => t.2)

/-- Every member at a crossbar port is open for a multicast cell (R179); later cells of a frame need no open state. -/
def Part.mcOpen (p : Part) (f : Frame) (k xp : Nat) : Bool :=
  k != 0 || (f.mcSubs xp).all (fun s => p.targetOpen xp s f.kind f.cls f.cells.length f.vc &&
    (decide (s < 8 ∨ 16 ≤ xp) || p.keyAllows (2 * xp + (s - 8)) f))

/-- A multicast write with an outcome has no combine entry yet: its frame waits for one at its VOQ head (R322). -/
def Part.wantsCombine (p : Part) (f : Frame) : Bool :=
  f.combine.isNone && (f.slot.isSome || (match f.body, f.fromLink with
    | .unit h _, some _ => h.mcf && h.ortx != noOrtx && h.src / 512 != p.chip && f.kind == 0
    | _, _ => false))

/-- The frame whose next multicast cell an input reads for a home plane: the one in progress, else the first eligible head
(log entry 57, DEDUCED). -/
def Part.mcHead (p : Part) (i h : Nat) : Option (Nat × Frame) :=
  let head := fun (c : Nat) => ((p.voq (i * 2128 + 2096 + 8 * h + c)).findSome? (fun x => match p.fr x with
    | some f => if f.matched < f.cells.length then some (x, f) else none
    | none => none))
  let heads := ((List.range 8).filterMap head).filter (fun e => decide (e.2.matched < e.2.arrived))
  match heads.find? (fun e => e.2.started) with
  | some e => some e
  | none => heads.find? (fun e => !p.heldBack e.1 e.2 && !(e.2.noFlow) && !p.wantsCombine e.2)

/-- Reads the next multicast cell of an input into its residue register when that is free (R178). -/
def Part.loadResidue (p : Part) (i h : Nat) : Part :=
  match p.residue i h with
  | some _ => p
  | none =>
    match p.mcHead i h with
    | none => p
    | some (x, f) =>
      match f.dest with
      | .mc _ =>
        let q := (p.setFr x (some { f with matched := f.matched + 1 })).flyCell (f.cells.getD f.matched 0)
        q.setResidue i h (some (Residue.mk x f.matched f.mcXps))
      | _ => p

/-- The home planes a plane serves, its own first (R183). -/
def Part.homesOf (p : Part) (q : Nat) : List Nat :=
  ([q] ++ (List.range 4).filter (fun h => h != q)).filter (fun h => p.servePlane h == some q)

/-- The multicast head of an input on a plane: home plane and the crossbar ports it asks for, which are none while no member of its residual
fan-out is eligible (R169, R179); of the registers a plane serves, the first with an eligible port (R183) (log entry 57, DEDUCED). -/
def Part.mcAsk (p o : Part) (i q : Nat) : Option (Nat × List Nat) :=
  let asks := (p.homesOf q).filterMap (fun h => match p.residue i h with
    | none => none
    | some r => match p.fr r.frame with
      | some f => (match f.dest with
        | .mc _ => if r.fanout.isEmpty then none else some (h, r.fanout.filter (fun x => o.mcOpen f r.k x))
        | _ => none)
      | none => none)
  match asks.find? (fun e => !e.2.isEmpty) with
  | some e => some e
  | none => asks.head?

/-! ### Matching (R170, R171) -/

/-- A plane's matching in progress: free inputs and outputs, matches as input, output, and iteration, and the pointers. -/
structure Grid where
  ins : List Nat
  outs : List Nat
  got : List (Nat × Nat × Nat)
  a : Sparse Nat
  g : Sparse Nat
  deriving DecidableEq, Repr

/-- Numbers 0 to 19 from `s` on, wrapping. -/
def ring20 (s : Nat) : List Nat := (List.range 20).map (fun k => (s + k) % 20)

/-- One grant and accept iteration of plane `q`. -/
def Grid.iterate (x : Grid) (q it : Nat) (req : Nat → Nat → Bool) (mc : Nat → Bool) : Grid :=
  let grant := x.outs.filterMap (fun j =>
    ((ring20 (Sparse.get x.g 0 (q * 20 + j))).find? (fun i => x.ins.contains i && req i j)).map (fun i => (j, i)))
  let y := x.ins.foldl (fun (y : Grid) i =>
    let mine := (grant.filter (fun e => e.2 == i)).map (fun e => e.1)
    if mine.isEmpty then y
    else if mc i then
      { y with got := y.got ++ mine.map (fun j => (i, j, it)),
               g := if it = 1 then mine.foldl (fun g j => Sparse.set g 0 (q * 20 + j) ((i + 1) % 20)) y.g else y.g }
    else match (ring20 (Sparse.get y.a 0 (q * 20 + i))).find? (fun j => mine.contains j) with
      | none => y
      | some j =>
        { y with got := y.got ++ [(i, j, it)],
                 a := if it = 1 then Sparse.set y.a 0 (q * 20 + i) ((j + 1) % 20) else y.a,
                 g := if it = 1 then Sparse.set y.g 0 (q * 20 + j) ((i + 1) % 20) else y.g }) x
  { y with ins := y.ins.filter (fun i => !y.got.any (fun m => m.1 == i)),
           outs := y.outs.filter (fun j => !y.got.any (fun m => m.2.1 == j)) }

/-- match_plane of R170 for plane `q` of rank `r`: its matches and the moved pointers (log entry 19, DESIGN CHOICE). -/
def Part.matchPlane (p o : Part) (q r n : Nat) : Part × List (Nat × Nat × Nat) :=
  let share := min 16 (p.getF (.xbp q) XBP.MC_CTL.SHARE)
  let table := (List.range 20).map (fun i => (List.range 20).map (fun j => decide (r + 1 ≤ p.wants o i j)))
  let uni := fun (i j : Nat) => (table.getD i []).getD j false
  let asks := (List.range 20).map (fun i => p.mcAsk o i q)
  let mc := fun (i : Nat) => (asks.getD i none).isSome && (!(List.range 20).any (uni i) || decide (n % 16 < share))
  let req := fun (i j : Nat) => if mc i then (match asks.getD i none with
      | some (_, l) => l.contains j
      | none => false) else uni i j
  let x0 := Grid.mk (List.range 20) (List.range 20) [] p.arbA p.arbG
  let x := ((x0.iterate q 1 req mc).iterate q 2 req mc).iterate q 3 req mc
  let asked := (List.range 20).filter (fun j => (List.range 20).any (fun i => req i j))
  let left := (asked.filter (fun j => x.outs.contains j)).length
  let by_ := fun (k : Nat) => (x.got.filter (fun m => m.2.2 == k)).length
  let p1 := { p with arbA := x.a, arbG := x.g,
                     starved := Sparse.set p.starved 0 q (if x.got.isEmpty && !asked.isEmpty then Sparse.get p.starved 0 q + 1 else 0) }
  let p2 := (((p1.count (.xbp q) 2 (by_ 1)).count (.xbp q) 3 (by_ 2)).count (.xbp q) 4 (by_ 3)).count (.xbp q) 5 left
  (p2.count (.xbp q) 1 (x.got.filter (fun m => mc m.1)).length, x.got.map (fun m => (m.1, m.2.1, b2n (mc m.1))))

/-! ### Cell choice (R172, R173) -/

/-- The head frame of a VOQ. -/
def Part.headOf (p : Part) (k : Nat) : Option (Nat × Frame) :=
  (p.voq k).findSome? (fun i => match p.fr i with
    | some f => if f.matched < f.cells.length then some (i, f) else none
    | none => none)

/-- DEST of a cell descriptor with its MC bit above it (R157). -/
def Dest.field : Dest → Nat
  | .port t => (Dest.port t).at.1 * 16 + (Dest.port t).at.2
  | .agent a => (Dest.agent a).at.1 * 16 + (Dest.agent a).at.2
  | .chip k => 2 ^ 11 + k % 128 * 2
  | .mc g => 2 ^ 12 + g % 4096

/-- The cell after cell `k` of frame `i` in its VOQ; 0x3FFFF when none is queued (R157). -/
def Part.nextInVoq (p : Part) (i : Nat) (f : Frame) (k : Nat) : Nat :=
  match f.cells[k + 1]? with
  | some c => c
  | none => ((((p.voq f.voq).dropWhile (· != i)).drop 1).findSome? (fun j => (p.fr j).bind (fun g => g.cells.head?))).getD 0x3FFFF

/-- The 128-bit descriptor that travels with cell `k` of a frame on a plane of rank `r` (R157). -/
def Part.cellDesc (p : Part) (i : Nat) (f : Frame) (k r : Nat) : BitVec 128 :=
  let last := decide (k + 1 = f.cells.length)
  BitVec.ofNat 13 f.dest.field ++ BitVec.ofNat 3 f.cls ++ BitVec.ofNat 2 f.kind ++ BitVec.ofBool f.esc ++ BitVec.ofBool (k == 0) ++
    BitVec.ofBool last ++ BitVec.ofNat 8 (if last then f.len - 256 * k else 0) ++ BitVec.ofNat 5 f.srcXp ++ BitVec.ofNat 4 f.srcSub ++
    BitVec.ofNat 6 f.acct ++ BitVec.ofNat 12 f.domf ++ BitVec.ofNat 32 f.ts ++ BitVec.ofNat 18 (f.cells.getD k 0) ++
    BitVec.ofNat 18 (p.nextInVoq i f k) ++ BitVec.ofNat 2 r ++ BitVec.ofNat 1 0 ++ BitVec.ofBool f.nulled

/-- Sends the next cell of a unicast frame to `j` on a plane; a start towards another chip goes to the link that the open states of
cycle 0, `o`, name (R167). -/
def Part.sendCell (p o : Part) (x : Nat) (f : Frame) (j q r n : Nat) : Part :=
  let f1 := if f.matched = 0 then (match f.dest with
    | .chip _ => { f with link := o.pickLink f j }
    | _ => f) else f
  match f1.tgt with
  | none => p
  | some t =>
    let p1 := (p.setFr x (some { f1 with matched := f1.matched + 1 })).flyCell (f1.cells.getD f1.matched 0)
    { p1 with flights := p1.flights ++ [Flight.mk x f1.matched q r j [t.2] n (p.cellDesc x f1 f1.matched r)] }.limMark t.1 t.2 f1.cls

/-- The cell that input `i` sends to `j` on plane `q` of rank `r`: the oldest frame in progress with a cell eligible, a completion start, another
start round robin (R172). The rule leaves open which of several completion starts goes first: the model takes the oldest frame
(log entry 93, DESIGN CHOICE). -/
def Part.chooseCell (p o : Part) (i j q r n : Nat) : Part :=
  let ks := p.inputVoqs i
  let heads := ks.filterMap (fun k => (p.headOf k).map (fun e => (k, e.1, e.2)))
  let going := heads.filter (fun h => h.2.2.started && decide (h.2.2.matched < h.2.2.arrived) && h.2.2.tgt.map (fun x => x.1) == some j)
  let starts := heads.filter (fun h => !h.2.2.started && o.startOk h.2.1 h.2.2 j)
  let oldest := fun (l : List (Nat × Nat × Frame)) => l.foldl (fun (b : Option (Nat × Nat × Frame)) h => match b with
    | none => some h
    | some c => if h.2.1 < c.2.1 then some h else some c) none
  match oldest going with
  | some h => p.sendCell o h.2.1 h.2.2 j q r n
  | none =>
    match oldest (starts.filter (fun h => h.2.2.kind == 2)) with
    | some h => p.sendCell o h.2.1 h.2.2 j q r n
    | none =>
      let v := Sparse.get p.arbV 0 (i * 20 + j)
      let after := starts.filter (fun h => v ≤ h.1 % 2128)
      match after ++ starts with
      | [] => p
      | h :: _ => ({ p with arbV := Sparse.set p.arbV 0 (i * 20 + j) (h.1 % 2128 + 1) }).sendCell o h.2.1 h.2.2 j q r n

/-- Delivers the multicast head of an input to one matched crossbar port of a plane. -/
def Part.sendMc (p o : Part) (i j q r n : Nat) : Part :=
  match p.mcAsk o i q with
  | none => p
  | some (h, _) =>
    match p.residue i h with
    | none => p
    | some res =>
      match p.fr res.frame with
      | none => p
      | some f =>
        match f.dest with
        | .mc _ =>
          let l := res.fanout.erase j
          let p1 := p.setResidue i h (if l.isEmpty then none else some { res with fanout := l })
          { p1 with flights := p1.flights ++ [Flight.mk res.frame res.k q r j (f.mcSubs j) n (p.cellDesc res.frame f res.k r)] }
        | _ => p

/-- The unit's combine entry as the chips below see it: index and generation in ORTX (R299). -/
def Part.withCombine (p : Part) (b : Body) (i : Nat) : Body :=
  match b with
  | .unit h x => .unit { h with ortx := i + 4096 * (p.cb i).gen } x
  | b => b

/-- A multicast frame takes a combine entry when there is one free; a branch chip's names the chip above (R322). -/
def Part.takeCombine (p : Part) (i : Nat) (f : Frame) : Part :=
  let up := match f.slot, f.body, f.fromLink with
    | none, .unit h _, some l => some { h with src := p.getF (.smw l) SMW.LINK_STAT.PEER_CHIP * 512 + 260 }
    | _, _, _ => none
  let x := p.openCombine f.mset f.slot up
  match x.2 with
  | none => p
  | some c => x.1.setFr i (some { f with combine := some c, body := x.1.withCombine f.body c })

/-- A frame that waited for a send flow entry, or a multicast frame for a combine entry, takes one when there is room (R310, R322). -/
def Part.giveEntry (p : Part) (i : Nat) : Part :=
  match p.fr i with
  | none => p
  | some f =>
    match f.dest, p.wantsCombine f, f.body with
    | .mc _, true, _ => p.takeCombine i f
    | _, _, .unit h ipt =>
      if !f.noFlow then p
      else
        let k := flowKey h.src h.dst (if h.mcf then h.mcg else 0) h.cls
        let e := p.txf k
        if !e.used && decide (32768 ≤ p.txUsed) then p
        else
          let n := cellsOf (32 + ipt.bytes)
          let p1 := if !e.used || decide (p.flowIdle / 2 ≤ p.now - e.last) then
              (let q := p.openProbe { f with cells := [], noFlow := false } h e.next
               let l := q.voq f.voq
               q.setVoq f.voq (l.dropLast.flatMap (fun x => if x = i then (l.getLast?.toList ++ [x]) else [x])))
            else p
          (p1.setTxf k (TxFlow.mk true ((e.next + n) % 2 ^ 24) p.now true)).setFr i
            (some { f with noFlow := false, body := .unit { h with fseq := e.next } ipt })
    | _, _, _ => p

/-- VOQ heads whose start at a PCIe port of station `xp` its class limit refuses in this cell time (R222, R237). -/
def Part.limRefused (p : Part) (xp : Nat) : Nat :=
  (p.voqs.filter (fun e => match p.headOf e.1 with
    | some (_, f) => (match f.dest with
      | .port t => t / 8 == xp && !f.started && !p.classRoom xp (t % 8) f.cls f.cells.length
      | _ => false)
    | none => false)).length

/-- One cell time (R168 to R172): every enabled plane matches, the inputs choose cells in ascending rank, and the counter advances.
The ramp limiter caps the matches (R440). -/
def Part.cellTimeStep (p : Part) : Part :=
  let p0 := p.live.foldl (fun q e => q.giveEntry e.1) p
  let l := p0.planes
  let e := l.length
  let n := p0.cellTime
  let rank := fun (r : Nat) => l.getD ((n % max 1 e + r) % max 1 e) 0
  let o := (List.range 20).foldl (fun q i => (List.range 4).foldl (fun q2 h => q2.loadResidue i h) q) p0
  let m := (List.range e).foldl (fun (x : Part × List (Nat × Nat × Nat × Nat × Nat)) r =>
    let y := x.1.matchPlane o (rank r) r n
    (y.1, x.2 ++ y.2.map (fun z => (z.1, z.2.1, z.2.2, rank r, r)))) (o, [])
  let sorted := (List.range 20).flatMap (fun i => m.2.filter (fun z => z.1 == i))
  let q := (sorted.take m.1.ffy.cap).foldl (fun q z =>
    if z.2.2.1 = 1 then q.sendMc o z.1 z.2.1 z.2.2.2.1 z.2.2.2.2 n else q.chooseCell o z.1 z.2.1 z.2.2.2.1 z.2.2.2.2 n) m.1
  let back := fun (h : Nat) => !((List.range 20).any (fun i => (q.residue i h).isSome ||
    (List.range 8).any (fun c => !(q.voq (i * 2128 + 2096 + 8 * h + c)).isEmpty)))
  let q1 := { q with cellTime := n + 1, joining := q.joining.filter (fun j => !(j.2 == 0 && back j.1)) }
  let q2 := (List.range 16).foldl (fun r xp => r.count (.sch xp) 4 (o.limRefused xp)) q1
  (List.range 4).foldl (fun r k =>
    let key := r.getF (.xbp k) XBP.VOQ_SEL.XP * 2128 + r.getF (.xbp k) XBP.VOQ_SEL.VOQ
    let ok := match o.headOf key with
      | some (x, f) => (f.started && decide (f.matched < f.arrived)) || (List.range 20).any (fun j => o.startOk x f j)
      | none => false
    r.setF (.xbp k) XBP.VOQ_STAT.HEAD_ELIG (b2n ok)) q2

/-! ### Landing (R160, R161, R173, R176) -/

/-- Cell `a` comes before cell `b` of the same ingress port and VOQ (R173). -/
def Part.comesBefore (p : Part) (a b : QItem) : Bool :=
  (decide (a.frame < b.frame) || (a.frame == b.frame && decide (a.k < b.k))) && (match p.fr a.frame, p.fr b.frame with
    | some f, some g => f.voq == g.voq
    | _, _ => false)

/-- A cell that a broken link has returned to its VOQ after it landed there (R229, R377). -/
def Part.returned (p : Part) (x : QItem) : Bool := (p.fr x.frame).any (fun f => decide (x.k < f.charged))

/-- Adds an item to a target's queue: last, but before those of its own VOQ that come after it (R173), and a returned cell at a link before all
that are not (R377). -/
def Part.land (p : Part) (xp sub cls : Nat) (x : QItem) : Part :=
  let l := p.queue (tqKey xp sub cls)
  let ahead := fun (y : QItem) => !p.comesBefore x y && (xp ≥ 16 || sub < 8 || !p.returned x || p.returned y)
  p.setQueue (tqKey xp sub cls) (l.takeWhile ahead ++ [x] ++ l.dropWhile ahead)

/-- The frame is done here: no copy waits anywhere and no commit is to come. -/
def Part.tidy (p : Part) (i : Nat) : Part :=
  match p.fr i with
  | none => p
  | some f =>
    if p.crossed i f && f.sent == 0 && !p.tq.any (fun e => e.2.any (fun x => x.frame == i)) then p.forget i else p

/-- A frame has landed whole at a PCIe port or agent: one marked ABORT is discarded (R176), another joins the queue; a write is committed
by an agent that takes it (R271, but the register target, which commits as it applies the write). -/
def Part.landFrame (p : Part) (i : Nat) (f : Frame) (xp sub : Nat) : Part :=
  let q := p.land xp sub f.cls (QItem.mk i 0)
  if f.nulled then (if 16 ≤ xp then f.cells.foldl (fun (r : Part) c => r.decRef c) p else p)
  else if xp < 16 ∧ p.bit (.port (8 * xp + sub)) PORT.CONT_STAT.ACTIVE then
    let q1 := p.bumpF (.port (8 * xp + sub)) PORT.CONT_STAT.DISCARDED 1
    match f.combine with
    | some c => q1.combinePart c none (some (if p.getF (.port (8 * xp + sub)) PORT.CONT_STAT.CAUSE = 4 then 6 else 5))
    | none => q1
  else if 16 ≤ xp ∧ p.stuckAgent xp sub then
    let q1 := f.cells.foldl (fun (r : Part) c => r.decRef c) p
    match f.combine with
    | some c => q1.combinePart c none (some 6)
    | none => q1
  else if 16 ≤ xp ∧ f.kind = 0 ∧ ¬(xp = 19 ∧ sub = 0) then
    let g := { f with slot := none, gate := none }
    (q.count .ord 1 1 (some f.domf)).setFr i (some g) |>.writeOutcome f none
  else q

/-- The frames at the head of a VOQ that have landed whole leave it and join their target's queue, in VOQ order (R173). -/
def Part.settleVoq (p : Part) (k : Nat) (ids : List Nat) : Part :=
  match ids with
  | [] => p
  | i :: r =>
    match p.fr i with
    | none => Part.settleVoq p k r
    | some f =>
      match f.dest with
      | .mc _ => if p.crossed i f then ((p.setVoq k ((p.voq k).filter (· != i))).tidy i).settleVoq k r else p
      | .chip _ =>
        if f.landed = f.cells.length then (p.setVoq k ((p.voq k).filter (· != i))).settleVoq k r else p
      | d =>
        if f.landed = f.cells.length then
          (let q := (p.setVoq k ((p.voq k).filter (· != i))).landFrame i f d.at.1 d.at.2
           (if f.nulled then q.tidy i else q).settleVoq k r)
        else p

/-- Cells taken again from a pool for those already released, and the others QUEUED again, from cell `k` on (R191, R194)
(log entry 51, DEDUCED). -/
def Part.retake (p : Part) (i k : Nat) (f : Frame) (pool : Pool) (xp : Nat) : Part × List Nat :=
  (f.cells.zipIdx).foldl (fun (x : Part × List Nat) c =>
    if c.2 < k then (x.1, x.2 ++ [c.1])
    else match (x.1.cr c.1).state with
      | .queued => (x.1, x.2 ++ [c.1])
      | .inFlight => if x.1.flying i c.2 then (x.1, x.2 ++ [c.1]) else (x.1.requeueCell c.1, x.2 ++ [c.1])
      | .free =>
        let y := (x.1.chargePool pool 1).takeCell pool f.acct 1 xp
        (y.1, x.2 ++ [y.2.getD c.1])) (p, [])

/-- A frame landed at a link that is no longer ACTIVE returns to the head of its fabric VOQ at the landing station and is
dispatched again whole, from the link's return cells (R167, R194); the flow sequence removes what is sent twice (log entry 51, DEDUCED). -/
def Part.returnFrame (p : Part) (i : Nat) (xp : Nat) : Part :=
  match p.fr i with
  | none => p
  | some f =>
    if p.flights.any (fun x => x.frame == i) then p
    else
      let p1 := (p.unqueue i).setVoq f.voq ((p.voq f.voq).filter (· != i))
      let x := p1.retake i 0 f (match f.link with
        | some l => .ret l
        | none => f.pool) xp
      let k := xp * 2128 + voqIdx f.dest f.cls
      (x.1.setFr i (some { f with cells := x.2, matched := 0, landed := 0, sent := 0, charged := max f.charged f.landed, link := none, srcXp := xp,
                                  voq := k })).setVoq k
        (i :: x.1.voq k)

/-- A multicast copy towards a branch link that is not ACTIVE has no way on: its outcome is NOT_CARRIABLE (log entry 34)
(log entry 57, DEDUCED). -/
def Part.branchLost (p : Part) (l : Nat) (f : Frame) : Part :=
  match f.combine with
  | some i => p.combinePart i (some l) (some 4)
  | none => p

/-- One matched cell lands good at its targets (R161). -/
def Part.landCell (p : Part) (x : Flight) : Part :=
  match p.fr x.frame with
  | none => p
  | some f =>
    let c := f.cells.getD x.k 0
    if f.abort then
      let p1 := if (p.cr c).state = .free ∨ p.flying x.frame x.k then p else p.freeCell c
      if p1.flights.any (fun y => y.frame == x.frame) then p1 else (p1.unqueue x.frame).forget x.frame
    else
      let p1 := if 16 ≤ x.xp then p else x.subs.foldl (fun q _ => q.decRef c) p
      match f.dest with
      | .mc _ =>
        let p2 := x.subs.foldl (fun q s =>
          if x.xp < 16 ∧ 8 ≤ s then
            (if q.linkState (2 * x.xp + (s - 8)) = 5 then q.land x.xp s f.cls (QItem.mk x.frame x.k)
             else if x.k + 1 = f.cells.length then q.branchLost (2 * x.xp + (s - 8)) f else q)
          else if x.k + 1 = f.cells.length then q.landFrame x.frame f x.xp s else q) p1
        p2.settleVoq f.voq (p2.voq f.voq)
      | .chip _ =>
        let p2 := (p1.setFr x.frame (some { f with landed := f.landed + 1 })).land x.xp (x.subs.headD 8) f.cls (QItem.mk x.frame x.k)
        let p3 := p2.settleVoq f.voq (p2.voq f.voq)
        if p3.linkState (2 * x.xp + (x.subs.headD 8 - 8)) = 5 then p3 else p3.returnFrame x.frame x.xp
      | _ =>
        let p2 := p1.setFr x.frame (some { f with landed := f.landed + 1 })
        p2.settleVoq f.voq (p2.voq f.voq)

/-! ### Losing and returning a plane (R180 to R185) -/

/-- The frames of a VOQ from its first frame with a lost cell on go back: that frame to its first lost cell, later ones to their
start or, at a link, to the first cell it has not committed (R181). Answers how many cells are dispatched again (log entry 52, DEDUCED). -/
def Part.moveBack (p : Part) (lost : List Flight) (ids : List Nat) (after : Bool) : Part × Nat :=
  match ids with
  | [] => (p, 0)
  | i :: r =>
    match p.fr i with
    | none => Part.moveBack p lost r after
    | some f =>
      let mine := (lost.filter (fun x => x.frame == i)).map (fun x => x.k)
      let here := after || !mine.isEmpty
      let goal := if after then f.sent else mine.foldl min f.cells.length
      let out := match f.dest with
        | .chip _ => false
        | _ => after && f.sent != 0
      if !here || f.abort || out || f.matched ≤ goal then Part.moveBack p lost r here
      else
        let p0 := { p with flights := p.flights.filter (fun x => !(x.frame == i && goal ≤ x.k)),
                           tq := (p.tq.map (fun (e : Nat × List QItem) =>
                             (e.1, e.2.filter (fun (x : QItem) => !(x.frame == i && decide (goal ≤ x.k)))))).filter (fun e => !e.2.isEmpty) }
        let x := p0.retake i goal f f.pool f.srcXp
        let p1 := x.1.setFr i (some { f with cells := x.2, matched := goal, landed := min f.landed goal, link := if goal = 0 then none else f.link })
        let y := Part.moveBack p1 lost r here
        (y.1, y.2 + (f.matched - goal))

/-- A crossbar port that did not receive a cell returns to the fan-out of that cell, which is read again in its order (R181 step 5). -/
def residueJoin (l : List Residue) (x : Flight) : List Residue :=
  if l.any (fun r => r.frame == x.frame && r.k == x.k) then
    l.map (fun r => if r.frame = x.frame ∧ r.k = x.k then { r with fanout := r.fanout ++ [x.xp] } else r)
  else
    let earlier := fun (r : Residue) => decide (r.frame < x.frame) || (r.frame == x.frame && decide (r.k < x.k))
    l.takeWhile earlier ++ [Residue.mk x.frame x.k [x.xp]] ++ l.dropWhile earlier

/-- A multicast cell lost on a plane returns to the residue register of its home plane (R181 step 5). -/
def Part.residueBack (p : Part) (x : Flight) : Part :=
  match p.fr x.frame with
  | none => p
  | some f =>
    match f.dest with
    | .mc g => { p with residues := Sparse.set p.residues [] (f.srcXp * 4 + g % 4) (residueJoin (p.residueQ f.srcXp (g % 4)) x) }
    | _ => p

/-- A plane that has been lost and has not rejoined (R184, R185), whatever test it runs meanwhile. -/
def Part.planeOut (p : Part) (q : Nat) : Bool := p.planeState q != 3 && p.getF (.xbp q) XBP.PLANE_STAT.LOST_CAUSE != 0

/-- Plane `q` is declared lost with a cause, seen by crossbar port `xp` (R180, R181, R184) (log entries 25 and 52, DEDUCED). -/
def Part.losePlane (p : Part) (q cause xp : Nat) : Part :=
  let pg := Page.xbp q
  let was := p.planeState q
  let lost := p.flights.filter (fun x => x.plane == q)
  let keys := (lost.filterMap (fun x => (p.fr x.frame).map (fun f => f.voq))).eraseDups
  let p0 := { p with flights := p.flights.filter (fun x => x.plane != q), joining := p.joining.filter (fun j => j.1 != q),
                     starved := Sparse.set p.starved 0 q 0 }
  let p1 := lost.foldl (fun r x => r.residueBack x) p0
  let y := keys.foldl (fun (a : Part × Nat) k =>
    let z := a.1.moveBack (lost.filter (fun x => match a.1.fr x.frame with
      | some f => (match f.dest with
        | .mc _ => false
        | _ => true)
      | none => false)) (a.1.voq k) false
    (z.1, a.2 + z.2)) (p1, 0)
  let p2 := (((y.1.setF pg XBP.PLANE_STAT.STATE 4).setF pg XBP.PLANE_STAT.BIST_PASS 0).setF pg XBP.PLANE_STAT.LOST_CAUSE cause).setF pg
    XBP.PLANE_STAT.DET_XP xp
  let shared := (lost.filter (fun x => match p.fr x.frame with
    | some f => (match f.dest with
      | .mc _ => true
      | _ => false)
    | none => false)).length
  let p3 := ((p2.setF pg XBP.LOST_AT.D (p.cellTime % 2 ^ 32)).err pg 4).count pg 6 (y.2 + shared)
  let p4 := p3.setF .pwr PWR.UNIT_STAT.PLANE (p3.getF .pwr PWR.UNIT_STAT.PLANE &&& (15 - 2 ^ q))
  if was = 3 ∨ was = 2 then
    let other := (List.range 4).any (fun k => k != q && p.planeOut k)
    let fence := other || p.minimalSet
    let p5 := if p4.planes.isEmpty ∧ fence = true then p4.setF .glb GLB.FENCE_STAT.OUT 0xFFFF else p4
    p5.trigger (if fence then .fenced 1 else .degraded 0)
  else p4

/-- A landing is acknowledged on plane `q`: 0 good, 1 uncorrectable, 2 RANK mismatch, 3 corrected and good (R161, R173, R180).
The plane's oldest cell on its way is meant. -/
def Part.landingAck (p : Part) (q result : Nat) : Part :=
  match p.flights.find? (fun x => x.plane == q) with
  | none => p
  | some x =>
    let pg := Page.xbp q
    if result = 1 then (p.err pg 1).losePlane q 1 x.xp
    else if result = 2 then (p.err pg 6).losePlane q 6 x.xp
    else
      let p1 := if result = 3 then (p.count pg 7 1).err pg 0 else p
      ({ p1 with flights := p1.flights.erase x }.count pg 0 1).landCell x

/-- The watchdog of R180 (log entry 22, DESIGN CHOICE). -/
def Part.planeWatchdog (p : Part) (q : Nat) : Part :=
  if max 16 (p.getF (.xbp q) XBP.WD_CTL.CELLTIMES) ≤ Sparse.get p.starved 0 q ∧ p.planeState q = 3 then
    (p.free32.1.err (.xbp q) 3).losePlane q 3 (p.free32.2.toNat % 20)
  else p

/-- A plane's own check finds an error: 1 data, 2 control parity, 6 RANK (R180). -/
def Part.planeFault (p : Part) (q cause xp : Nat) : Part :=
  if p.planeState q ≠ 3 then p
  else if cause = 1 ∨ cause = 2 ∨ cause = 6 then (p.err (.xbp q) cause).losePlane q cause xp
  else p

/-- BIST_GO (R185): ignored unless STATE is OFF or LOST; an unpowered plane is enabled under the load-step rule. -/
def Part.bistGo (p : Part) (q : Nat) : Part :=
  let s := p.planeState q
  if s = 0 ∨ s = 4 then
    let p1 := (p.setF (.xbp q) XBP.PLANE_STAT.STATE 1).setF (.xbp q) XBP.PLANE_STAT.BIST_PASS 0
    if nbit (p1.getF .pwr PWR.UNIT_STAT.PLANE) q then p1 else p1.announce (.plane q)
  else p

/-- The built-in test ends (R185): STATE OFF with its result, a failed one being a declaration of loss with cause 5 (R180); in BOOT plane 0 becomes ACTIVE when it passes (log entry 52, DEDUCED). -/
def Part.bistEnd (p : Part) (q : Nat) (pass : Bool) : Part :=
  if p.planeState q ≠ 1 ∨ !nbit (p.getF .pwr PWR.UNIT_STAT.PLANE) q then p
  else
    let p1 := (p.setF (.xbp q) XBP.PLANE_STAT.STATE 0).setF (.xbp q) XBP.PLANE_STAT.BIST_PASS (b2n pass)
    if !pass then
      (((p1.setF (.xbp q) XBP.PLANE_STAT.LOST_CAUSE 5).setF (.xbp q) XBP.LOST_AT.D (p.cellTime % 2 ^ 32)).err (.xbp q) 7).err (.xbp q) 4
    else if q = 0 ∧ p.md.mode = .boot then p1.setF (.xbp q) XBP.PLANE_STAT.STATE 3
    else p1

/-- REJOIN (R185) (log entry 52, DEDUCED). -/
def Part.rejoin (p : Part) (q : Nat) : Part :=
  if !p.bit (.xbp q) XBP.PLANE_STAT.BIST_PASS then p.err (.xbp q) 5
  else if p.planeState q = 0 then
    { (p.setF (.xbp q) XBP.PLANE_STAT.STATE 2) with joining := p.joining ++ [(q, p.cellTime + 16)] }
  else p

/-- The announced cell time of a new plane list comes: the plane is ACTIVE, and its substitute serves its multicast VOQs until
they are empty (R185) (log entry 52, DEDUCED). -/
def Part.joinApply (p : Part) : Part :=
  let due := p.joining.filter (fun j => j.2 != 0 && decide (j.2 ≤ p.cellTime))
  due.foldl (fun q j => { (q.setF (.xbp j.1) XBP.PLANE_STAT.STATE 3) with
    joining := (q.joining.erase j) ++ [(j.1, 0)] }) p

end Sys2Proof.Machine
end

