-- ==== Sys2Proof/Machine/LinkTx.lean ====
section
/-! DEFINITION. The transmitter of a Smiwaven link: headers, new parcels, resends, groups and their TAGs, link control, failover
resends, NULL parcels (R122 to R151). -/

namespace Sys2Proof.Machine

/-- WINDOW as it acts (SMWA.LINK_CTL). -/
def Part.txWindow (p : Part) (l : Nat) : Nat := min 896 (max 16 (p.getF (.smw l) SMW.LINK_CTL.WINDOW))

/-- ACK_MAP: the parcels beyond ACK that the receiver holds (R122). -/
def LinkBlk.ackMap (b : LinkBlk) : Nat :=
  bitsOf ((List.range 16).map (fun i => b.rxHeld.any (fun h => h.hdr.seq == (b.rxAck + 1 + i) % 2 ^ 20)))

/-- The VCs of credit slots A and B of the next header, with the pointers moved (R129). `lastCum` above 16 bits marks a VC no
header has carried. -/
def LinkBlk.slots (b : LinkBlk) : LinkBlk × Nat × Nat :=
  let differs := fun (v : Nat) => b.granted.getD v 0 != b.lastCum.getD v 0
  let a := (((List.range 8).map (fun k => (b.ptrA + k) % 8)).find? differs).getD b.ptrA
  let c := if b.ptrB = a then (b.ptrB + 1) % 8 else b.ptrB
  ({ b with ptrA := (a + 1) % 8, ptrB := (c + 1) % 8,
            lastCum := (b.lastCum.set a (b.granted.getD a 0)).set c (b.granted.getD c 0), changed := false }, a, c)

/-- The next header of a link with the reverse fields as they stand (R127, R129); its credit slots move on. Only the fields a parcel
type has differ from 0. -/
def Part.nextHdr (p : Part) (l : Nat) (h : ParcelHdr) : Part × ParcelHdr :=
  let x := (p.lk l).slots
  let b := x.1
  (p.setLk l { b with lastHdr := p.now },
    { h with epoch := p.getF (.smw l) SMW.LINK_STAT.EPOCH_TX, ack := b.rxAck, ackMap := b.ackMap, craVc := x.2.1,
             craCum := b.granted.getD x.2.1 0, crbVc := x.2.2, crbCum := b.granted.getD x.2.2 0, rsv := 0 })

/-- A header of a parcel type on a VC: the base of new parcels. -/
def hdrOf (ptype vc : Nat) : ParcelHdr where
  ptype := ptype
  vc := vc
  cfirst := false
  clast := false
  cbytes := 0
  epoch := 0
  seq := 0
  ack := 0
  ackMap := 0
  craVc := 0
  craCum := 0
  crbVc := 0
  crbCum := 0
  fo := false
  foc := false
  rsv := 0

/-- The key of the group that a parcel opens, or of the group it continues (R140, R398): the programmed key from the switch sequence on. -/
def LinkBlk.keyFor (b : LinkBlk) : Nat :=
  if b.group = 0 then (if b.switchSeq = some b.txNext then b.nextKey else b.txKey) else b.grpKey

/-- The tag of the open group (R140): over the headers of its parcels in SEQ order and their encrypted payloads, under the group's key
and IV. -/
def Part.groupTag (p : Part) (l : Nat) : BitVec 128 :=
  let b := p.lk l
  let mine := b.unacked.drop (b.unacked.length - b.group)
  let key := b.keyFor
  Config.gcmTag key (groupIv key (p.getF (.smw l) SMW.LINK_STAT.EPOCH_TX) b.grpWraps b.groupSeq) (mine.flatMap (fun s => s.hdr.bytes))
    (mine.flatMap TxSlot.body)

/-- Sends a new sequenced parcel (R126, R131, R137, R140): it takes the next SEQ and TXO, is kept for replay, costs a credit unless
it is a TAG or a failover resend against the reserve, and a TAG closes the group. -/
def Part.sendNew (p : Part) (l : Nat) (h : ParcelHdr) (load : Payload) (unit : Option (Body × Nat)) (of_ : Option Nat) : Part :=
  let seq := (p.lk l).txNext
  let key := (p.lk l).keyFor
  let x := p.nextHdr l { h with seq := seq }
  let b := x.1.lk l
  let slot := TxSlot.mk seq b.txo x.2 load unit of_ false p.now key
    (groupIv key (p.getF (.smw l) SMW.LINK_STAT.EPOCH_TX) b.grpWraps b.groupSeq) b.group p.freeCtr
  let q := x.1.sendParcel l x.2 load slot.body
  let c := q.lk l
  let tag := decide (h.ptype = 3)
  let cost := !tag && (!h.fo || h.foc)
  let wraps := c.wraps + b2n (seq + 1 = 2 ^ 20)
  let here := decide (c.switchSeq = some seq)
  let q1 := { q with freeCtr := q.freeCtr + 1 }
  q1.setLk l { c with
    txNext := (seq + 1) % 2 ^ 20, wraps := wraps, txo := c.txo + 1, unacked := c.unacked ++ [slot],
    sent := if cost then c.sent.set h.vc ((c.sent.getD h.vc 0 + 1) % 65536) else c.sent,
    group := if tag then 0 else c.group + 1, groupSeq := if tag then (seq + 1) % 2 ^ 20 else c.groupSeq,
    grpWraps := if tag then wraps else c.grpWraps, grpKey := key,
    txKey := if here then c.nextKey else c.txKey,
    groups := if here then b2n tag else c.groups + b2n tag,
    keyAt := if here then p.now else c.keyAt,
    switchSeq := if here then none else c.switchSeq }

/-- Sends a kept parcel again with its SEQ and content, encrypted again from the plaintext to the same bytes (R126, R131, R134)
(log entry 59, DEDUCED). -/
def Part.sendAgain (p : Part) (l seq : Nat) : Part :=
  match (p.lk l).unacked.find? (fun s => s.seq == seq) with
  | none => p
  | some s =>
    let q := p.sendParcel l s.hdr s.load s.body
    let b := q.lk l
    q.setLk l { b with lastHdr := p.now, txo := b.txo + 1, unacked := b.unacked.map (fun y =>
      if y.seq = seq then { y with txo := b.txo, time := p.now } else y) }

/-- Closes the group with a TAG (R140). -/
def Part.sendTag (p : Part) (l : Nat) : Part := p.sendNew l (hdrOf 3 7) (.tag (p.groupTag l)) none none

/-- The TAG that R140 asks for after the 31st parcel of a group, or that a key switch asks for at S - 1 (R398). -/
def Part.tagDue (p : Part) (l : Nat) : Bool :=
  let b := p.lk l
  decide (31 ≤ b.group) || (match b.switchSeq with
    | some s => b.txNext == (s + 2 ^ 20 - 1) % 2 ^ 20
    | none => false)

/-- Parcels that the window and the replay slots leave for new parcels (R133, R134). -/
def Part.txLeft (p : Part) (l : Nat) : Nat := min (p.txWindow l) (p.replaySlots l) - (p.lk l).unacked.length

/-- A DATA or LCTL parcel may take a place in the window: one place stays for the TAG that closes its group, and none is taken while a
sleep handshake waits for its answer (R140, R146) (log entry 59, DEDUCED). -/
def Part.txRoom (p : Part) (l : Nat) : Bool := decide (2 ≤ p.txLeft l) && !(p.lk l).sleeping

/-- A frame number that no frame of the part has: marks a VC that is in the middle of a redispatched frame (R346). -/
def passedFrame : Nat := 2 ^ 64

/-- The last parcel passed from a broken link has been sent on its twin `l` (R152): FO_STAT.TIME_NS of the broken link. -/
def Part.foSent (p : Part) (l : Nat) : Part :=
  match (p.lk l).foFrom with
  | some o => if (p.lk l).foq.any (fun s => s.hdr.fo) then p
      else p.setF (.smw o) SMW.FO_STAT.TIME_NS (min 0xFFFFF (p.now - (p.lk o).brokenAt))
  | none => p

/-- Sends the first passed parcel (R151, R346): a failover resend against the reserve while FO_AVAIL lasts, then with FOC and a
credit of its VC; a redispatched cell with a credit, its frame's cells together on the VC (R308). None while it must wait. -/
def Part.sendFo (p : Part) (l : Nat) : Option Part :=
  let b := p.lk l
  match b.foq with
  | [] => none
  | s :: r =>
    let v := s.hdr.vc
    if s.hdr.fo then
      if 0 < b.foAvail then
        some (((p.setLk l { b with foq := r, foAvail := b.foAvail - 1, foUsed := b.foUsed + 1 }).sendNew l
          { s.hdr with foc := false } s.load s.unit s.of_).foSent l)
      else if 0 < b.avail v then
        some (((p.setLk l { b with foq := r }).sendNew l { s.hdr with foc := true } s.load s.unit s.of_).foSent l)
      else none
    else
      let other := b.txOpen.any (fun x => x.1 == v && x.2.1 != passedFrame)
      if 0 < b.avail v ∧ !other then
        let rest := b.txOpen.filter (fun x => x.1 != v)
        some ((p.setLk l { b with foq := r, txOpen := if s.hdr.clast then rest else rest ++ [(v, passedFrame, 0)] }).sendNew l
          s.hdr s.load s.unit none)
      else none

/-- The time stamps a link control message takes as it is sent (R326) (log entry 59, DEDUCED). -/
def Part.stamp (p : Part) : Payload → Payload
  | .lctlTimeReq e _ => .lctlTimeReq e p.ftime
  | .lctlTimeResp e t1 t2 _ => .lctlTimeResp e t1 t2 p.ftime
  | c => c

/-- An LCTL BREAK is the first message that waits (R150). -/
def LinkBlk.breakFirst (b : LinkBlk) : Bool :=
  match b.ctlq with
  | .lctlBreak _ _ _ :: _ => true
  | _ => false

/-- Sends the first link control message with its credit. -/
def Part.sendCtl (p : Part) (l : Nat) : Option Part :=
  let b := p.lk l
  match b.ctlq with
  | c :: r => if 0 < b.avail 7 then some ((p.setLk l { b with ctlq := r }).sendNew l (hdrOf 4 7) (p.stamp c) none none) else none
  | [] => none

/-- What goes ahead of scheduled cells on a link: a TAG that is due, without which no further parcel of the group may go (R140, R398); an LCTL
BREAK (R150); a resend (R131); a link control message; a passed parcel (R151). None when none of them can go. -/
def Part.sendAhead (p : Part) (l : Nat) : Option Part :=
  let b := p.lk l
  let tag := p.tagDue l && decide (1 ≤ p.txLeft l)
  if tag && b.breakFirst then some (p.sendTag l)
  else match (if b.breakFirst && p.txRoom l && !p.tagDue l then p.sendCtl l else none) with
  | some q => some q
  | none =>
    match b.resend with
    | s :: r => some ((p.setLk l { b with resend := r }).sendAgain l s)
    | [] =>
      if tag then some (p.sendTag l)
      else if !p.txRoom l || p.tagDue l then none
      else match p.sendCtl l with
        | some q => some q
        | none => p.sendFo l

/-- Queues a link control message. -/
def Part.lctl (p : Part) (l : Nat) (m : Payload) : Part :=
  let b := p.lk l
  p.setLk l { b with ctlq := b.ctlq ++ [m] }

/-- The frame whose cells VC `v` of a link is in the middle of, and its next cell (R308). -/
def LinkBlk.openOn (b : LinkBlk) (v : Nat) : Option (Nat × Nat) := (b.txOpen.find? (fun x => x.1 == v)).map (fun x => x.2)

/-- A cell that comes before this one from the same ingress port and VOQ is still on its way to the link (R173). -/
def Part.overtakes (p : Part) (l : Nat) (x : QItem) : Bool :=
  p.flights.any (fun y => y.xp == l / 2 && y.subs.contains (8 + l % 2) && p.comesBefore (QItem.mk y.frame y.k) x)

/-- A link can commit a cell now: the next cell of the frame its VC has open, or a frame start for all of whose cells the VC has credit
(R308), no earlier cell of its VOQ being on its way (R173). -/
def Part.commits (p : Part) (l : Nat) (x : QItem) : Bool :=
  match p.fr x.frame with
  | none => false
  | some f =>
    let b := p.lk l
    !p.overtakes l x && match b.openOn f.vc with
    | some o => o.1 == x.frame && o.2 == x.k
    | none => x.k == 0 && !f.abort && decide (f.cells.length ≤ b.avail f.vc)

/-- The landing station picks the link of a frame of which none of its links has committed a cell, when both of them belong to its path set: the
one with the larger free credit, the lower on a tie (R167, R307) (log entry 51, DEDUCED). -/
def Part.repickOne (p : Part) (n i : Nat) : Part :=
  match p.fr i with
  | none => p
  | some f =>
    match f.dest, f.link with
    | .chip _, some m =>
      let set := p.linksFor f
      let here := fun (l : Nat) => p.queue (tqKey n (8 + l % 2) f.cls)
      let mine := (here m).filter (fun x => x.frame == i)
      let n0 := mine.length + (p.flights.filter (fun x => x.frame == i)).length
      let free := fun (l : Nat) => (p.lk l).avail f.vc + (if l = m then n0 else 0) - p.linkTaken l (some f.vc)
      let nl := if free (2 * n) < free (2 * n + 1) then 2 * n + 1 else 2 * n
      if m / 2 ≠ n ∨ f.sent ≠ 0 ∨ f.abort = true ∨ nl = m ∨ 14 < p.linkTaken nl none + n0 ∨
          !([2 * n, 2 * n + 1].all (fun l => set.contains l && p.keyAllows l f && p.linkState l == 5)) then p
      else
        let p1 := { p with flights := p.flights.map (fun (x : Flight) => if x.frame = i then { x with subs := [8 + nl % 2] } else x) }
        let p2 := (p1.setFr i (some { f with link := some nl })).setQueue (tqKey n (8 + m % 2) f.cls) ((here m).filter (fun x => x.frame != i))
        mine.foldl (fun (q : Part) x => q.land n (8 + nl % 2) f.cls x) p2
    | _, _ => p

/-- Every choice of a link that station `n` can still make (R167). -/
def Part.repick (p : Part) (n : Nat) : Part := (p.live.map (fun e => e.1)).foldl (fun q i => q.repickOne n i) p

/-- Commits a cell of a frame to a link as a DATA parcel (R122, R125, R308). -/
def Part.commitCell (p : Part) (l : Nat) (x : QItem) : Part :=
  match p.fr x.frame with
  | none => p
  | some f =>
    let n := f.cells.length
    let last := decide (x.k + 1 = n) || f.abort
    let bytes := if x.k + 1 = n then (f.len - 256 * x.k) % 256 else 0
    let v := f.vc
    let h := { hdrOf 1 v with cfirst := x.k == 0, clast := last, cbytes := bytes }
    let branch := match f.dest with
      | .mc _ => x.k == 0
      | _ => false
    let p1 := (if branch then p.count .fab 2 1 else p).sendNew l h (.cell (if x.k = 0 then some f.body else none)) (some (f.body, x.k)) none
    let b := p1.lk l
    let rest := b.txOpen.filter (fun y => y.1 != v)
    let p2 := p1.setLk l { b with txOpen := if last then rest else rest ++ [(v, x.frame, x.k + 1)] }
    match f.dest with
    | .chip _ => if last then (p2.unqueue x.frame).forget x.frame else p2.setFr x.frame (some { f with sent := x.k + 1 })
    | _ => if f.abort then (if p2.link.any (fun e => e.2.txOpen.any (fun y => y.2.1 == x.frame)) then p2 else p2.forget x.frame) else p2.tidy x.frame

/-- A DATA, TAG or LCTL parcel can go on a link now (R128). -/
def Part.txReady (p : Part) (l : Nat) : Bool :=
  let items := (List.range 8).flatMap (fun c => p.queue (queueKey (l / 2) (8 + l % 2) c))
  (p.sendAhead l).isSome || (decide (0 < (p.lk l).group) && decide (1 ≤ p.txLeft l)) ||
    (p.txRoom l && items.any (fun x => p.commits l x))

/-- A NULL parcel (R125, R128, R141): sent while nothing sequenced can go, when the reverse fields have changed since the last header or
256 ns have passed without one. It carries the null counter and a tag over its header and that counter. -/
def Part.sendNull (p : Part) (l : Nat) : Part :=
  let b := p.lk l
  if p.linkState l = 5 ∧ !p.txReady l ∧ (b.changed = true ∨ 256 ≤ p.now - b.lastHdr) then
    let x := p.nextHdr l { hdrOf 2 7 with seq := b.txNext }
    let tag := Config.gcmTag b.txKey (nullIv b.txKey x.2.epoch b.nullCtr) (x.2.bytes ++ bytesOf 8 b.nullCtr) []
    let load := Payload.null b.nullCtr tag
    (x.1.setLk l { x.1.lk l with nullCtr := b.nullCtr + 1 }).sendParcel l x.2 load (load.plain 0 none)
  else p

end Sys2Proof.Machine
end

