-- ==== Sys2Proof/Machine/Reach.lean ====
section
/-! DEFINITION. Who owns a target: ownership records and grants as Chitin keeps them (R406, R410), and the checks that a PCIe
egress makes of window requests, of Colony's requests and of mirror copies (R401, R409, R471). -/

namespace Sys2Proof.Machine

/-- The state of a resource's record; none is FREE (R406). -/
def Trust.ownOf (t : Trust) (r : Res) : Option Own := (t.own.find? (fun e => e.1 = r)).map (fun e => e.2)

/-- The domain that owns or quarantines a resource. -/
def Own.dom : Own → Nat
  | .owned d => d
  | .quarantined d => d

/-- The ranges of a pool port that have a record. -/
def Trust.rangesAt (t : Trust) (lp : Nat) : List (Nat × Nat) :=
  t.own.filterMap (fun e => match e.1 with
    | .range q b l => if q = lp then some (b, l) else none
    | _ => none)

/-- The resource that an address at a local port belongs to: a range of a pool port, a function of a ROLE 3 port, or the port. -/
def Part.resAt (p : Part) (t : Trust) (lp a : Nat) : Option Res :=
  match (if t.pools.contains lp then (t.rangesAt lp).find? (fun e => decide (e.1 ≤ a ∧ a < e.1 + 2 ^ e.2)) else none) with
  | some e => some (.range lp e.1 e.2)
  | none => if p.role lp = 3 then (p.fnAt lp a).map (fun f => Res.fn lp (BitVec.ofNat 16 (p.tf 0 f 1 0 16))) else some (.port lp)

/-- The fabric domain owns the resource: the record is OWNED by the local index that has this fabric ID (R409). -/
def Part.ownsRes (p : Part) (t : Trust) (r : Option Res) (fid : Nat) : Bool :=
  match r.bind t.ownOf with
  | some (.owned d) => p.fabricId d == fid && (p.tf 5 d 0 0 1 == 1 || p.tf 5 d 1 0 1 == 1)
  | _ => false

/-- Bit of PERM an access needs: read, write, atomic. -/
def permBit (k : TlpKind) : Nat :=
  match k with
  | .memRead => 0
  | .atomic => 2
  | _ => 1

/-- A RANGE grant on this chip covers an access of a fabric domain (R409, R410). -/
def Part.granted (p : Part) (t : Trust) (lp fid : Nat) (m : Tlp) : Bool :=
  t.grants.any (fun e => match e.2 with
    | some g => e.1 != 0 && g.kind == 0 && g.grantee == fid && g.target == p.gport lp && nbit g.perm (permBit m.kind) &&
        decide (g.base ≤ m.addr.toNat ∧ m.addr.toNat + m.span ≤ g.base + 2 ^ g.log2) && (m.atType != 2 || g.atsOk)
    | none => false)

/-- The ownership check of a window's request at a PCIe egress (R409). -/
def Part.mayReach (p : Part) (t : Trust) (lp fid : Nat) (m : Tlp) : Bool :=
  p.ownsRes t (p.resAt t lp m.addr.toNat) fid || p.granted t lp fid m

/-- The check of Colony's requests (R401): a FREE resource, or a configuration read. -/
def Part.colonyMay (p : Part) (t : Trust) (lp : Nat) (m : Tlp) : Bool :=
  m.kind == .cfgRead || (match (p.resAt t lp m.addr.toNat).bind t.ownOf with
    | none => true
    | some _ => false)

/-- Why a frame at the PCIe egress `lp` may not be emitted: 1 a window request without ownership or grant, 2 Colony beyond its reach,
3 a mirror copy to a port its collector does not own. -/
def Part.egressDenied (p : Part) (t : Trust) (lp : Nat) (f : Frame) : Option Nat :=
  let req := fun (m : Tlp) => m.kind == .memRead || m.kind == .memWrite || m.kind == .atomic || m.kind == .dmWr
  if f.mirror then (if p.ownsRes t (some (.port lp)) (p.getF .ant ANT.CTL.COLL_DOM) then none else some 3)
  else match f.body with
    | .local m => if f.win.isSome && req m && !p.mayReach t lp f.domf m then some 1 else none
    | .unit h (.tlp m) =>
      if m.kind = .cpl ∨ m.kind = .msg then none
      else if h.src % 512 = 258 then (if p.colonyMay t lp m then none else some 2)
      else if h.src / 512 ≠ p.chip ∧ !h.mcf ∧ req m ∧ !p.mayReach t lp h.domain m then some 1 else none
    | _ => none

end Sys2Proof.Machine
end

