-- ==== Sys2Proof/Machine/Egress.lean ====
section
/-! DEFINITION. Egress: the head each class queue offers (R220, R221), deficit round robin (R224, R225), what a PCIe port emits
(R258, R259, R300), refills, and credit advertisements (R199, R200, R226 to R235). -/

namespace Sys2Proof.Machine

/-! ### What may leave a PCIe port -/

/-- The packet of a frame, if it is one. -/
def Body.tlp : Body → Option Tlp
  | .local t => some t
  | .unit _ (.tlp t) => some t
  | _ => none

/-- The request of a frame came from another chip and opens a FAR entry here (R258). -/
def Part.fromFar (p : Part) (f : Frame) : Bool :=
  match f.body with
  | .unit h (.tlp t) => t.kind.nonPosted && h.src / 512 != p.chip
  | _ => false

/-- Tags bound at a target port (R259, R262). -/
def Part.tagsAt (p : Part) (t : Nat) : List Nat :=
  (p.ort.filter (fun e => e.2.state ≠ .free ∧ e.2.tagBound ∧ e.2.target = p.gport t)).map (fun e => e.2.tgtTag)

/-- The lowest free tag of a target port (log entry 20, DESIGN CHOICE). -/
def Part.freeTag (p : Part) (t : Nat) : Nat := firstFree (p.tagsAt t) (p.tagSpace t) 0

/-- A non-posted request has no tag at its target port, or no FAR entry (R258). -/
def Part.noTag (p : Part) (t : Nat) (f : Frame) (m : Tlp) : Bool :=
  (m.kind.nonPosted && decide (p.tagSpace t ≤ p.freeTag t)) ||
    (p.fromFar f && (decide (p.farMax ≤ p.ortFar) || decide (131072 ≤ p.ortOpen)))

/-- A frame waits for the device's credit of its type, a tag, or a FAR entry (R220, R258). `fc` has bit 0, 1, 2 set while the
device grants posted, non-posted, completion credit. -/
def Part.noCredit (p : Part) (t fc : Nat) (f : Frame) (m : Tlp) : Bool :=
  !nbit fc m.kind.fc || p.noTag t f m

/-- The first frame of a queue that may leave: the head, or a later one that may pass every blocked one before it (R220)
(log entry 32, DESIGN CHOICE). -/
def Part.portHead (p : Part) (t fc : Nat) (before : List Tlp) (l : List QItem) : Option QItem :=
  match l with
  | [] => none
  | x :: r =>
    match p.fr x.frame with
    | none => Part.portHead p t fc before r
    | some f =>
      match f.body.tlp with
      | none => some x
      | some m =>
        if before.all (mayPass m) && !p.noCredit t fc f m && (f.cfg || !p.ideHeld t m.kind) then some x
        else Part.portHead p t fc (before ++ [m]) r

/-- The first cell of a link's class queue that can leave in landing order: behind a frame start that its VC cannot take only cells of other VCs
pass, and a VC in the middle of a frame takes that frame's next cell (R221, R308) (log entry 59, DEDUCED). -/
def Part.firstCommit (p : Part) (l : Nat) (shut : List Nat) (q : List QItem) : Option QItem :=
  match q with
  | [] => none
  | x :: r =>
    match p.fr x.frame with
    | none => Part.firstCommit p l shut r
    | some f =>
      if p.commits l x && !shut.contains f.vc then some x
      else Part.firstCommit p l (if ((p.lk l).openOn f.vc).isNone then f.vc :: shut else shut) r

/-- What a link's class queue offers while the link has room for a parcel (R221). -/
def Part.linkHead (p : Part) (l : Nat) (q : List QItem) : Option QItem := if p.txRoom l then p.firstCommit l [] q else none

/-- What queue `c` of target `t` of station `n` offers (log entry 74, DEDUCED). -/
def Part.headAt (p : Part) (n t fc c : Nat) : Option QItem :=
  let q := p.queue (queueKey n t c)
  if t < 8 then p.portHead (8 * n + t) fc [] q else p.linkHead (2 * n + (t - 8)) q

/-- The charge of an item (R223), and whether it passes without one: a cell that a broken link has returned (R229, R377). -/
def Part.chargeOf (p : Part) (n t : Nat) (x : QItem) : Nat × Bool :=
  let ovh := p.getF (.sch n) (SCH.PORT_CFG.OVH.ix t)
  match p.fr x.frame with
  | none => (ovh, true)
  | some f => if t < 8 then ((match f.body.tlp with
      | some m => m.bytes
      | none => 0) + ovh, false) else (if p.returned x then (0, true) else (256 + ovh, false))

/-! ### Deficit round robin (R224) -/

/-- QUANTUM in bytes: 0 acts as 1 (R236). -/
def Part.quantum (p : Part) (n t q : Nat) : Nat := 64 * max 1 (p.getF (.sch n) (SCH.Q_CFG.QUANTUM.ix2 t q))

/-- Deficit of a queue. -/
def Part.deficitOf (p : Part) (k : Nat) : Nat := Sparse.get p.deficit 0 k

/-- Stores a deficit. -/
def Part.setDeficit (p : Part) (k v : Nat) : Part := { p with deficit := Sparse.set p.deficit 0 k v }

/-- end_turn. -/
def Part.endTurn (p : Part) (k : Nat) : Part :=
  let p1 := if (p.queue k).isEmpty then p.setDeficit k 0 else p
  { p1 with stale := Sparse.set p1.stale false k false }

/-- One pass over the queues in order: the queue that sends, if any. `el` gives the charge of each eligible queue. -/
def Part.drrPass (p : Part) (n t : Nat) (el : Nat → Option Nat) (qs : List Nat) : Part × Option Nat :=
  match qs with
  | [] => (p, none)
  | q :: r =>
    let k := queueKey n t q
    match el q with
    | none => Part.drrPass (p.endTurn k) n t el r
    | some c =>
      let p1 := if Sparse.get p.stale false k then p else
        { p.setDeficit k (p.deficitOf k + p.quantum n t q) with stale := Sparse.set p.stale false k true }
      if c ≤ p1.deficitOf k then (p1.setDeficit k (p1.deficitOf k - c), some q) else Part.drrPass (p1.endTurn k) n t el r

/-- fast_forward. -/
def Part.fastForward (p : Part) (n t : Nat) (el : Nat → Option Nat) : Part :=
  let qs := (List.range 8).filterMap (fun q => (el q).map (fun c => (q, c)))
  let turns := fun (e : Nat × Nat) =>
    let z := p.quantum n t e.1
    (e.2 - p.deficitOf (queueKey n t e.1) + z - 1) / z
  let kmin := (qs.map turns).foldl (fun (b : Option Nat) k => match b with
    | none => some k
    | some m => some (min m k)) none
  qs.foldl (fun r e => r.setDeficit (queueKey n t e.1) (r.deficitOf (queueKey n t e.1) + (kmin.getD 1 - 1) * r.quantum n t e.1)) p

/-- choose: the queue that sends next, with deficits, flags and counter 2 as the procedure leaves them. -/
def Part.choose (p : Part) (n t : Nat) (el : Nat → Option Nat) : Part × Option Nat :=
  if (List.range 8).all (fun q => (el q).isNone) then (p, none)
  else
    let ptr := p.getF (.sch n) (SCH.PORT_CFG.PTR.ix t)
    let order := (List.range 8).map (fun k => (ptr + k) % 8)
    let x := p.drrPass n t el order
    match x.2 with
    | some _ => x
    | none => ((x.1.fastForward n t el).count (.sch n) 2 1).drrPass n t el order

/-! ### Emission at a PCIe port -/

/-- Global port a frame came in at: the SRC of a unit, or the local port or agent it was queued from. -/
def Part.ingressOf (p : Part) (f : Frame) : Nat :=
  match f.body with
  | .unit h _ => h.src
  | .local _ => p.gport (if f.srcXp < 16 then 8 * f.srcXp + f.srcSub else
      [256, 257, 258, 260].getD (f.srcXp - 16) 260 + (if 18 ≤ f.srcXp then f.srcSub else 0))

/-- Binds a tag and requester ID for a request of this chip, or opens the FAR entry of a request of another (R258, R259). Answers the
packet as emitted. -/
def Part.bindReq (p : Part) (t : Nat) (f : Frame) (m : Tlp) : Part × Tlp :=
  let tag := p.freeTag t
  match f.ort with
  | some i =>
    let e := p.oe i
    let rid := p.tgtRid t e.domain e.who e.origRid
    (p.setOe i { e with tgtTag := tag, tagBound := true, tgtRid := rid }, { m with rid := rid, tag := tag })
  | none =>
    match f.body with
    | .unit h (.tlp _) =>
      let d := (p.domIdx h.domain).getD 64
      let rid := p.tgtRid t d (.host m.rid) m.rid
      let e : OrtEnt := { OrtEnt.empty with
        state := .far, op := ortOp m.kind, fabricId := h.domain, origRid := m.rid, origTag := m.tag, target := p.gport t, tgtTag := tag,
        tagBound := true, source := h.src, remain := m.expects, deadline := p.ns + p.farDl, originChip := h.src / 512,
        originIdx := h.ortx, tgtRid := rid, cls := f.cls, who := .host m.rid, opened := p.ns,
        fbt := if p.role t = 3 then p.fnAt t m.addr.toNat else none, psel := h.psel, lowerAddr := m.addr.toNat % 128 }
      ((p.openOe e).1, { m with rid := rid, tag := tag })
    | .local _ => (p, m)
    | _ => (p, m)

/-- The packet a port emits for a frame: no Cocoon header, EP for a poisoned unit, the requester ID and tag of R259. -/
def Part.wireTlp (p : Part) (t : Nat) (f : Frame) (m : Tlp) : Part × Tlp :=
  let m1 := match f.body with
    | .unit h _ => { m with ep := m.ep || h.poison }
    | .local _ => m
  if m.kind.nonPosted then p.bindReq t f m1
  else if m.kind = .cpl then (p, m1)
  else match f.body with
    | .unit h _ => (p, { m1 with rid := p.tgtRid t ((p.domIdx h.domain).getD 64) (.host m.rid) m.rid })
    | .local _ => (p, m1)

/-- A frame that an egress check refuses is discarded and answered (R401, R409, R471). -/
def Part.denyEgress (p : Part) (i : Nat) (f : Frame) (why : Nat) : Part :=
  let p1 := match why with
    | 2 => p.err .mbx 2
    | 3 => (p.count .ant 5 1).err .ant 2
    | _ => p
  (p1.discard i).owe f .ur 2

/-- Emits a frame at a PCIe port: checks, capture, samples, the packet, and what follows it: the replay buffer keeps it until it is acknowledged
(R160), and a write waits for its commit (R271). -/
def Part.emitFrame (p : Part) (tr : Trust) (t i : Nat) : Part :=
  match p.fr i with
  | none => p
  | some f =>
    match f.body.tlp with
    | none => (p.discard i).owe f .ur 4
    | some m =>
      match p.egressDenied tr t f with
      | some why => p.denyEgress i f why
      | none =>
        let seen := Seen.mk 1 t (p.ingressOf f) (p.gport t) f.domf f.cls f.kind f.len f.body (match f.dest with
          | .mc _ => true
          | _ => false) false
        let cap := if f.mirror then (p, false) else p.capture seen
        let ts := match f.body with
          | .unit h _ => h.ts
          | .local _ => f.ts
        let p1 := cap.1.samplePort 0 t f.cls (cap.1.age ts)
        let p2 := if p1.role t = 1 then
            let d := p1.getF (.port t) PORT.PORT_CTL.DOMAIN
            (p1.count (.telv d 0) 2 1).count (.telv d 0) 3 m.data.length
          else p1
        let x := p2.wireTlp t f m
        let p3 := { x.1 with awaited := Sparse.set x.1.awaited 0 t (x.1.unackedAt t + f.cells.length) }.emit (.tlp t x.2)
        let awaits := m.kind == .memWrite && (f.kind == 0 || f.record.isSome)
        let p4 := if awaits then p3.setFr i (some { f with sent := f.sent + 1 }) else p3.tidy i
        if cap.2 then p4.mirrorCopy seen else p4

/-- A write's TLP has been given its data-link sequence number at a PCIe port: the commit point (R271). A ring write advances
COLL_WR (R469). -/
def Part.commitWrite (p : Part) (i : Nat) : Part :=
  match p.fr i with
  | none => p
  | some f =>
    match f.dest with
    | .chip _ => p
    | _ =>
      if f.sent = 0 ∨ f.abort then p
      else
        let g := { f with sent := f.sent - 1 }
        let p1 := (p.setFr i (some g)).count .ord 1 1 (some f.domf)
        let p2 := match f.record with
          | some s => p1.setF (.telv f.acct 1) TELV1.COLL_WR.SEQ ((s + 1) % 2 ^ 32)
          | none => if f.kind = 0 then p1.writeOutcome f none else p1
        p2.tidy i

/-- What Antenna sees of a frame whose first cell the scheduler has chosen at a link, which is no local port (R464, R465); a mirror copy is not
captured (log entry 54, DEDUCED). -/
def Part.linkSeen (p : Part) (x : QItem) : Option Seen :=
  match p.fr x.frame with
  | some f => if x.k ≠ 0 ∨ f.mirror = true then none
    else some (Seen.mk 1 512 (p.ingressOf f) (match f.body with
      | .unit h _ => h.dst
      | .local _ => 0xFFFF) f.domf f.cls f.kind f.len f.body (match f.dest with
      | .mc _ => true
      | _ => false) f.abort)
  | none => none

/-- Commits the cell chosen at a link, the EGRESS capture point before it and a mirror copy after it (R464, R374). -/
def Part.sendChosen (p : Part) (l : Nat) (x : QItem) : Part :=
  let send := fun (q : Part) => (match q.fr x.frame with
    | some f => q.setFr x.frame (some { f with charged := max f.charged (x.k + 1) })
    | none => q).commitCell l x
  match p.linkSeen x with
  | none => send p
  | some seen =>
    let cap := p.capture seen
    if cap.2 then (send cap.1).mirrorCopy seen else send cap.1

/-! ### One choice -/

/-- A PCIe port can take a frame now. -/
def Part.portSends (p : Part) (t : Nat) : Bool := p.bit (.port t) PORT.PORT_STAT.DL_UP && !p.bit (.port t) PORT.CONT_STAT.ACTIVE

/-- Shows what a choice found in Q_STAT (R224) (log entry 74, DEDUCED). -/
def Part.showQueue (p : Part) (n t q : Nat) (elig hold : Bool) : Part :=
  let pg := Page.sch n
  ((p.setF pg (SCH.Q_STAT.ELIG.ix2 t q) (b2n elig)).setF pg (SCH.Q_STAT.SHP_HOLD.ix2 t q) (b2n hold)).limMark n t q

/-- The scheduler's choice at target `t` of station `n` (R224): what goes ahead of scheduled cells at a link, else the chosen frame or
cell with its charges, else the TAG that closes a link's group. -/
def Part.schedule (p : Part) (tr : Trust) (n t fc : Nat) : Part :=
  let l := 2 * n + (t - 8)
  let up := if t < 8 then p.portSends (8 * n + t) else p.linkState l == 5
  if !up then p
  else match (if t < 8 then none else p.sendAhead l) with
    | some p1 => p1
    | none =>
      let p := if t < 8 then p else p.repick n
      let heads := (List.range 8).map (fun q => p.headAt n t fc q)
      let charges := heads.map (fun h => h.map (p.chargeOf n t))
      let pays := fun (q : Nat) (c : Nat × Bool) => c.2 || decide (250 * c.1 ≤ p.shpTok (queueKey n t q))
      let el := fun (q : Nat) => match charges.getD q none with
        | some c => if pays q c then some c.1 else none
        | none => none
      let hold := fun (q : Nat) => match charges.getD q none with
        | some c => !pays q c
        | none => false
      let x := p.choose n t el
      let p2 := match x.2, (x.2.bind (fun q => heads.getD q none)), (x.2.bind (fun q => charges.getD q none)) with
        | some q, some it, some c =>
          let k := queueKey n t q
          let p1 := x.1.setQueue k ((x.1.queue k).erase it)
          let p2 := if c.2 then p1 else p1.takeTok k c.1
          let p3 := (p2.count (.sch n) 0 1).count (.sch n) 1 c.1
          let p4 := if (p3.queue k).isEmpty then (p3.endTurn k).setF (.sch n) (SCH.PORT_CFG.PTR.ix t) ((q + 1) % 8)
            else p3.setF (.sch n) (SCH.PORT_CFG.PTR.ix t) q
          if t < 8 then p4.emitFrame tr (8 * n + t) it.frame
          else p4.sendChosen l it
        | _, _, _ => if 8 ≤ t ∧ 0 < (x.1.lk l).group ∧ 1 ≤ x.1.txLeft l then x.1.sendTag l else x.1
      (List.range 8).foldl (fun r q => r.showQueue n t q (el q).isSome (hold q)) p2

/-- Deficits, flags, pointer and shapers of a target that goes down (R225) (log entry 74, DEDUCED). -/
def Part.resetTarget (p : Part) (n t : Nat) : Part :=
  let p1 := (List.range 8).foldl (fun q c =>
    let k := queueKey n t c
    { q.setDeficit k 0 with stale := Sparse.set q.stale false k false }) p
  (p1.setF (.sch n) (SCH.PORT_CFG.PTR.ix t) 0).fillShp n t

/-- The chip-wide refill instant (R226, R228, R231, R234): every bucket whose settings or tokens can differ from their reset. -/
def Part.refillAll (p : Part) : Part :=
  let shp := (List.range 16).flatMap (fun n => (List.range 10).flatMap (fun t => (List.range 8).map (fun c => queueKey n t c)))
  let pol := (List.range 16).flatMap (fun n => (List.range 128).map (fun i => n * 128 + i))
  let p1 := shp.foldl (fun q k => q.refillShp k) p
  pol.foldl (fun q k => q.refillPol k) p1

/-! ### Credit advertisement (R199, R200, R233) -/

/-- The accounts whose backing a port asks for: its domain's, or every account bound at a ROLE 3 port. -/
def Part.portAccts (p : Part) (t : Nat) : List Nat :=
  match p.role t with
  | 0 => []
  | 3 => (((p.validIn 0).filter (fun f => p.tf 0 f 0 3 7 == t)).map p.fbtDom).eraseDups
  | _ => [p.getF (.port t) PORT.PORT_CTL.DOMAIN]

/-- Backing cells a port holds for a credit type: 0 posted, 1 non-posted, 2 completion. -/
def Part.backingAt (p : Part) (t ty : Nat) : Nat := ((Sparse.get p.backing [] (t * 3 + ty)).map (fun b => b.cells)).sum

/-- Backing a port may still ask for: up to 72 cells per lane (R199). -/
def Part.backingRoom (p : Part) (t ty : Nat) : Nat := 72 * p.getF (.port t) PORT.PORT_STAT.WIDTH - p.backingAt t ty

/-- The pool that backs a port's credit of a type, for an account. -/
def backPool (ty a : Nat) : Pool := if ty = 2 then .cpl else .acct a

/-- BACKING_REQUEST: a port asks for `need` cells of a type against an account; completions are backed by the completion pool
(R199, R202). The cells are held as backing with no credit outstanding on them yet (log entry 79, DEDUCED). -/
def Part.askBacking (p : Part) (t ty a need : Nat) : Part :=
  if need = 0 ∨ p.backingRoom t ty < need ∨ !p.bit (.port t) PORT.PORT_STAT.DL_UP ∨ !(p.portAccts t).contains a then p
  else
    let x := if ty = 2 then (if p.poolUsed .cpl + need ≤ p.getF .buf BUF.CPL_RSV.CELLS then (p, true) else (p.count .buf 6 1, false))
      else p.admitAccount a need
    if x.2 then
      let key := t * 3 + ty
      { x.1 with backing := Sparse.set x.1.backing [] key (Sparse.get x.1.backing [] key ++ [Backing.mk (backPool ty a) need 0]) }
    else x.1.count (.telv a 0) 7 1

/-- Backing of a port and type on which no credit is outstanding, in cells (log entry 79, DEDUCED). -/
def Part.freeBacking (p : Part) (t ty : Nat) : Nat :=
  ((Sparse.get p.backing [] (t * 3 + ty)).map (fun b => b.cells - b.cost)).sum

/-- Lets credit of a cost rest on the oldest backing that has room for it. -/
def restOn (l : List Backing) (cost : Nat) : List Backing :=
  match l with
  | [] => []
  | b :: r =>
    let k := min cost (b.cells - b.cost)
    Backing.mk b.pool b.cells (b.cost + k) :: restOn r (cost - k)

/-- A request waits at Track for an entry or a slot: its port withholds credit of the type (R258, R275). -/
def Part.heldAtTrack (p : Part) (t ty : Nat) : Bool :=
  p.waiting.any (fun w => w.req.ing == .port t && ((w.req.tlp.kind.nonPosted && ty == 1) || (!w.req.tlp.kind.nonPosted && ty == 0)))

/-- With one plane enabled a station's ports advertise no more than 96 B for each ns (R183): the bytes advertised so far are worth the time up to
`credAt`, in 1/96 ns (log entry 92, DESIGN CHOICE). -/
def Part.planeHeld (p : Part) (n : Nat) : Bool := decide (p.planes.length = 1 ∧ 96 * p.now < Sparse.get p.credAt 0 n)

/-- Counts the bytes of an advertisement against the rate of the one plane. -/
def Part.planeCharge (p : Part) (n bytes : Nat) : Part :=
  if p.planes.length = 1 then { p with credAt := Sparse.set p.credAt 0 n (max (Sparse.get p.credAt 0 n) (96 * p.now) + bytes) } else p

/-- A port's outstanding credit of a type rests on no cell: its device holds no header credit of it (R375). -/
def Part.noHeader (p : Part) (t ty : Nat) : Bool := (Sparse.get p.backing [] (t * 3 + ty)).all (fun b => b.cost == 0)

/-- A posted advertisement waits behind a non-posted one that can be made, while the host holds no non-posted header credit (R375). -/
def Part.readFirst (p : Part) (t ty : Nat) : Bool :=
  ty == 0 && p.role t == 1 && p.noHeader t 1 && decide (2 ≤ p.freeBacking t 1) && !p.heldAtTrack t 1

/-- CREDIT_ADVERTISE: a port advertises `h` header and `d` data credits of a type (R199, R233): the free backing must cover them at 2
cells a header and 1 for every 16 data credits, nothing of the type may wait at Track, no account at a ROLE 3 port may be in
debt, and at a ROLE 1 or 2 port the policer must hold 24h + 16d bytes, which are charged (log entry 79, DEDUCED). To a host without non-posted
header credit one is advertised alone as soon as the policer holds 24 bytes (R375). -/
def Part.advertise (p : Part) (t ty h d : Nat) : Part :=
  let n := t / 8
  let cost := 2 * h + (d + 15) / 16
  let bytes := 24 * h + 16 * d
  if !p.bit (.port t) PORT.PORT_STAT.DL_UP ∨ p.readFirst t ty = true ∨ h + d = 0 ∨ p.freeBacking t ty < cost ∨ (ty < 2 ∧ p.heldAtTrack t ty) ∨ p.planeHeld n = true then p
  else
    let key := t * 3 + ty
    let put := fun (q : Part) (cost bytes h d : Nat) =>
      ({ q with backing := Sparse.set q.backing [] key (restOn (Sparse.get q.backing [] key) cost) }.planeCharge n bytes).emit (.credit t ty h d)
    let give := fun (q : Part) => put q cost bytes h d
    if ty = 2 then give p
    else if p.role t = 3 then (if p.portDebt t then p.count (.sch n) 5 1 else give p)
    else
      let a := p.getF (.port t) PORT.PORT_CTL.DOMAIN
      let k := polKey n a 0
      if (p.polOf k).1 = 0 then { give p with withheld := Sparse.set p.withheld false (n * 64 + a) false }
      else if p.polEff k < bytes then p
      else if p.polTokens k < 250 * bytes ∧ ty = 1 ∧ p.role t = 1 ∧ p.noHeader t 1 = true ∧ 0 < h ∧ 250 * 24 ≤ p.polTokens k then
        { (put p 2 24 1 0).polCharge k 24 with withheld := Sparse.set p.withheld false (n * 64 + a) false }
      else if p.polTokens k < 250 * bytes then
        (({ p with withheld := Sparse.set p.withheld false (n * 64 + a) true }).count (.sch n) 5 1).count (.telv a 0) 7 1
      else { (give p).polCharge k bytes with withheld := Sparse.set p.withheld false (n * 64 + a) false }

/-- A port that has more than 72 cells per lane of backing of a type returns what no credit rests on (R200) (log entry 79, DEDUCED). -/
def Part.trimBacking (p : Part) (t ty : Nat) : Part :=
  let overs := p.backingAt t ty - 72 * p.getF (.port t) PORT.PORT_STAT.WIDTH
  let key := t * 3 + ty
  let x := (Sparse.get p.backing [] key).foldl (fun (x : Part × Nat × List Backing) b =>
    let k := min x.2.1 (b.cells - b.cost)
    let q := match b.pool with
      | .acct a => x.1.setOcc a (x.1.occOf a - k)
      | _ => x.1
    (q, x.2.1 - k, x.2.2 ++ (if b.cells - k = 0 then [] else [Backing.mk b.pool (b.cells - k) b.cost]))) (p, overs, [])
  { x.1 with backing := Sparse.set x.1.backing [] key x.2.2 }

/-- At a change of a port's role, domain or bindings, backing beyond the outstanding credit returns to its pool (R521). -/
def Part.releaseFreeBacking (p : Part) (t ty : Nat) : Part :=
  let key := t * 3 + ty
  let x := (Sparse.get p.backing [] key).foldl (fun (x : Part × List Backing) b =>
    let k := b.cells - b.cost
    let q := match b.pool with
      | .acct a => x.1.setOcc a (x.1.occOf a - k)
      | _ => x.1
    (q, x.2 ++ (if b.cost = 0 then [] else [Backing.mk b.pool b.cost b.cost]))) (p, [])
  { x.1 with backing := Sparse.set x.1.backing [] key x.2 }

/-! ### Commands -/

/-- SCHEDULER_CHOOSE (R224) at target `sub` of station `xp`; `fc` is the device's credit by type (log entry 32). -/
def execSchedulerChoose (xp : Fin 16) (sub : Fin 10) (fc : Fin 8) (s : State) := s.via (fun p => p.schedule s.trust xp.val sub.val fc.val)

/-- SHAPER_REFILL (R226). -/
def execShaperRefill (s : State) := s.via Part.refillAll

/-- CREDIT_ADVERTISE (R199). -/
def execCreditAdvertise (t : Fin 128) (type : Fin 3) (h d : Nat) (s : State) := s.via (fun p => p.advertise t.val type.val h d)

/-- BACKING_REQUEST (R202). -/
def execBackingRequest (t : Fin 128) (type : Fin 3) (a : Fin 64) (need : Nat) (s : State) :=
  s.via (fun p => p.askBacking t.val type.val a.val need)

/-- DROPPABLE_ADMIT (R203): a telemetry write of Antenna towards a global port. -/
def execDroppableAdmit (tgt : BitVec 16) (cls : Fin 8) (a : Fin 64) (n : Fin 16) (tlp : Tlp) (s : State) :=
  s.via (fun p => (p.sendDrop { Frame.blank with kind := 3, cls := cls.val, srcXp := 19, srcSub := 1, acct := a.val, domf := p.fabricId a.val }
    tgt.toNat (p.fabricId a.val) (.tlp tlp) tlp.bytes (p.gport 261) (some (polKey n.val a.val 1))).1)

/-- WRITE_COMMIT (R271). -/
def execWriteCommit (f : Nat) (s : State) := s.via (fun p => p.commitWrite f)

/-- NULL_PARCEL (R128). -/
def execNullParcel (l : Fin 32) (s : State) := s.via (fun p => p.sendNull l.val)

end Sys2Proof.Machine
end

