-- ==== Sys2Proof/Machine/Time.lean ====
section
/-! DEFINITION. Fabric time and the fabric root (R326 to R330): the exchange with the parent link, the root's TIME units, the
election and the heartbeat. -/

namespace Sys2Proof.Machine

/-- The link a child exchanges time on: the parent link, or its twin when the parent link is not ACTIVE (R326). -/
def Part.parentLink (p : Part) : Option Nat :=
  if !p.bit .fab FAB.TIME_CTL.PARENT_EN then none
  else
    let l := p.getF .fab FAB.TIME_CTL.PARENT
    if p.linkState l = 5 then some l
    else match p.twinNamed l with
      | some m => if p.linkState m = 5 then some m else none
      | none => none

/-- TIME_REQ: a child starts an exchange. -/
def Part.timeReq (p : Part) : Part :=
  match p.parentLink with
  | some l =>
    let e := (p.time.exch + 1) % 65536
    ({ p with time := { p.time with exch := e } }).lctl l (.lctlTimeReq e p.ftime)
  | none => p

/-- A TIME REQ arrives on link `l`: a RESP with T1, the time of arrival and the time it is sent (R326). -/
def Part.timeReqRx (p : Part) (l exch t1 : Nat) : Part :=
  if p.linkState l = 5 then p.lctl l (.lctlTimeResp exch t1 p.ftime p.ftime) else p

/-- OFFSET of TIME_STAT: units of 1/16 ns, two's complement, saturating. -/
def offsetWord (o : Int) : Nat := ((max (-32768) (min 32767 (o / 16))) % 65536).toNat

/-- A RESP arrives for the exchange in progress (R327): the offset is slewed up to 1 us in magnitude, else the clock is stepped. -/
def Part.timeResp (p : Part) (exch t1 t2 t3 : Nat) : Part :=
  if !p.bit .fab FAB.TIME_CTL.PARENT_EN ∨ exch ≠ p.time.exch then p
  else
    let o : Int := ((t2 : Int) - t1 - ((p.ftime : Int) - t3)) / 2
    let near := decide (o.natAbs ≤ 512)
    let small := if near then min 8 (p.time.small + 1) else 0
    let p1 := { p with time := { p.time with small := small } }
    let p2 := (((p1.setF .fab FAB.TIME_STAT.OFFSET (offsetWord o)).setF .fab FAB.TIME_STAT.LOCKED (b2n (small = 8))).setF .fab
      FAB.TIME_STAT.HOLDOVER 0).count .fab 5 1
    if o.natAbs ≤ 256000 then { p2 with slew := o }
    else { ((p2.setF .fab FAB.TIME_STAT.STEP 1).err .fab 3) with ftime := ((p2.ftime : Int) + o).toNat, slew := 0 }

/-- No parent has answered for four periods (R327, TIME_STAT.HOLDOVER). -/
def Part.holdover (p : Part) : Part :=
  if p.bit .fab FAB.TIME_CTL.PARENT_EN then (p.setF .fab FAB.TIME_STAT.HOLDOVER 1).err .fab 5 else p

/-- The recorded root chip (FAB.ROOT_STAT): a change is counted and reported. -/
def Part.setRoot (p : Part) (chip epoch : Nat) : Part :=
  let was := p.getF .fab FAB.ROOT_STAT.ROOT_CHIP
  let changed := decide (was ≠ chip)
  let p1 := ((p.setF .fab FAB.ROOT_STAT.ROOT_CHIP chip).setF .fab FAB.ROOT_STAT.ROOT_VALID 1).setF .fab FAB.ROOT_STAT.ROOT_EPOCH epoch
  if changed then (p1.count .fab 6 1).err .fab 6 else p1

/-- A unit that an agent of this chip sends to a local port of another chip (R305: PSEL 0). -/
def Part.sendFrom (p : Part) (lp dst cls : Nat) (i : Inner) (pool : Pool) : Part :=
  let esc := match p.frtIdx dst cls with
    | some k => p.frtEsc k
    | none => false
  p.sendUnit { Frame.blank with kind := i.cellKind, cls := cls, esc := esc, dest := .chip (dst / 512 % 128), srcXp := (destOf lp).at.1,
                                srcSub := (destOf lp).at.2 }
    { CocoonHdr.blank with dst := dst, src := p.gport lp, cls := cls, hops := p.hopInit } i pool

/-- TIME_UNIT_SEND: the root sends every chip it can reach a TIME unit (R328); the unit's class and ports are the model's (log
entry 33) (log entry 33, DESIGN CHOICE). -/
def Part.timeUnits (p : Part) : Part :=
  if p.md.role ≠ some .fabricRoot then p
  else ((List.range 128).filter (fun k => k != p.chip && p.carriable (k * 512 + 260) 0)).foldl (fun q k =>
    q.sendFrom 260 (k * 512 + 260) 0 (.time q.ftime (q.getF .fab FAB.ROOT_STAT.ROOT_EPOCH) q.chip) .cpl) p

/-- ROOT_HEARTBEAT: the root sends its standby a HIVE heartbeat (R329), whose type and content no rule gives (log entry 33). -/
def Part.heartbeat (p : Part) : Part :=
  if p.md.role = some .fabricRoot ∧ p.bit .fab FAB.ROOT_STAT.STANDBY_VALID then
    let x := p.free32
    let k := p.getF .fab FAB.ROOT_STAT.STANDBY_CHIP
    if p.carriable (k * 512 + 258) 0 then
      x.1.sendFrom 258 (k * 512 + 258) 0 (.hive (x.2.toNat % 65536) [x.2.extractLsb' 16 8, x.2.extractLsb' 24 8]) .mgmt
    else p
  else p

/-- HEARTBEAT_MISS: the standby root becomes root with the epoch incremented (R330), and the standby root is consumed (R22). -/
def Part.promote (p : Part) : Part :=
  if p.md.standbyRoot ∧ p.md.role = some .fabricMember then
    let p1 := (p.setRoot p.chip ((p.getF .fab FAB.ROOT_STAT.ROOT_EPOCH + 1) % 65536)).setF .fab FAB.ROOT_STAT.STANDBY_VALID 0
    ({ p1 with md := { p1.md with standbyRoot := false } }).trigger (.role .fabricRoot 0xB) |>.trigger (.degraded 3)
  else p

/-- HANDOVER: the root passes the role to its standby with the epoch incremented (R330). -/
def Part.handover (p : Part) : Part :=
  if p.md.role = some .fabricRoot ∧ p.bit .fab FAB.ROOT_STAT.STANDBY_VALID then
    let k := p.getF .fab FAB.ROOT_STAT.STANDBY_CHIP
    ((p.setRoot k ((p.getF .fab FAB.ROOT_STAT.ROOT_EPOCH + 1) % 65536)).setF .fab FAB.ROOT_STAT.STANDBY_VALID 0).trigger
      (.role .fabricMember 0xB)
  else p

/-- Epoch `a` is greater than epoch `b` (R329). -/
def epochAbove (a b : Nat) : Bool := decide (1 ≤ (a + 65536 - b) % 65536) && decide ((a + 65536 - b) % 65536 ≤ 32767)

/-- Key `a` takes precedence over key `b` (R329). -/
def RootKey.above (a b : RootKey) : Bool :=
  epochAbove a.epoch b.epoch || (!epochAbove b.epoch a.epoch &&
    (decide (b.prio < a.prio) || (a.prio == b.prio && decide (a.id < b.id))))

/-- The key of highest precedence. -/
def bestKey : List RootKey → Option RootKey
  | [] => none
  | k :: r => match bestKey r with
    | none => some k
    | some b => if b.above k then some b else some k

/-- The chip's own identifier as a number: GLB.DEVICE_ID. -/
def ownId : Nat := Config.deviceId.toNat

/-- FABRIC_DISCOVERY (R22, R296, R329): Hive has found other chips over an active link, with the given keys; the part takes the
fabric's epoch, the root and the standby are elected, and the role follows. `later` tells that another chip has this chip's number
and this chip is the later one, which Hive withdraws (log entry 33, DESIGN CHOICE). -/
def Part.discovery (p : Part) (found : List RootKey) (later : Bool) : Part :=
  let role := p.md.role
  let up := (List.range 32).any (fun l => p.linkState l == 5)
  if later then (if role = some .fabricMember ∨ role = some .fabricRoot then p.trigger (.role .partitioned 0xB) else p)
  else match bestKey found with
  | none => p
  | some top =>
    if !up ∨ !(role = some .partitioned ∨ role = some .fabricMember ∨ role = some .fabricRoot) then p
    else
      let mine := p.getF .fab FAB.ROOT_STAT.ROOT_EPOCH
      let me := RootKey.mk (if role = some .partitioned then top.epoch else mine) (p.getF .fab FAB.ROOT_CTL.PRIO) ownId p.chip
      match bestKey (me :: found) with
      | none => p
      | some root =>
        let next := bestKey ((me :: found).filter (fun k => k != root))
        let p1 := (p.setRoot root.chip root.epoch)
        let p2 := (p1.setF .fab FAB.ROOT_STAT.STANDBY_CHIP ((next.map (fun k => k.chip)).getD 0)).setF .fab FAB.ROOT_STAT.STANDBY_VALID
          (b2n next.isSome)
        let goal := if root = me then Mode.fabricRoot else .fabricMember
        let p3 := if role = some goal then p2 else p2.trigger (.role goal 0xB)
        { p3 with md := { p3.md with standbyRoot := goal == .fabricMember && next == some me } }

/-- TIME_REQ (R326). -/
def execTimeReq (s : State) := s.via (fun p => p.timeReq)

/-- TIME_REQ_RECEIVE (R326): a TIME REQ with exchange number `exch` and T1 arrives on link `l`. -/
def execTimeReqReceive (l : Fin 32) (exch : BitVec 16) (t1 : BitVec 64) (s : State) :=
  s.via (fun p => p.timeReqRx l.val exch.toNat t1.toNat)

/-- TIME_RESP_RECEIVE (R327): a TIME RESP arrives on a link. -/
def execTimeRespReceive (l : Fin 32) (exch : BitVec 16) (t1 t2 t3 : BitVec 64) (s : State) :=
  s.via (fun p => if p.linkState l.val = 5 then p.timeResp exch.toNat t1.toNat t2.toNat t3.toNat else p)

/-- TIME_HOLDOVER (R327). -/
def execTimeHoldover (s : State) := s.via (fun p => p.holdover)

/-- TIME_UNIT_SEND (R328). -/
def execTimeUnitSend (s : State) := s.via (fun p => p.timeUnits)

/-- TIME_UNIT_RECEIVE (R328): a chip records the root; the unit adjusts no clock. -/
def execTimeUnitReceive (_now : BitVec 64) (epoch : BitVec 16) (chip : Fin 128) (s : State) :=
  s.via (fun p => p.setRoot chip.val epoch.toNat)

/-- ROOT_HEARTBEAT (R329). -/
def execRootHeartbeat (s : State) := s.via (fun p => p.heartbeat)

/-- HEARTBEAT_MISS (R330): the third heartbeat is missed. -/
def execHeartbeatMiss (s : State) := s.via (fun p => p.promote)

/-- HANDOVER (R330): a write of ROOT_CTL.HANDOVER. -/
def execHandover (req : Requester) (s : State) := s.via (fun p => p.ifPermitted req .fab 0x124 (fun q => q.handover))

/-- FABRIC_DISCOVERY (R22, R329). -/
def execFabricDiscovery (found : List RootKey) (later : Bool) (s : State) := s.via (fun p => p.discovery found later)

end Sys2Proof.Machine
end

