-- ==== Sys2Proof/Machine/LinkBreak.lean ====
section
/-! DEFINITION. Declaring a Smiwaven link broken, failover to its twin, and the loss of a link or pair without one (R148 to R153,
R316, R346, R347); training, pairing, sleep and wake (R143 to R148, R197). -/

namespace Sys2Proof.Machine

/-- A frame in place of a discarded cell's unit, to answer it (R346). -/
def Part.ghost (p : Part) (h : CocoonHdr) (i : Inner) : Frame :=
  let own := decide (h.src / 512 = p.chip) && decide (h.ortx ≠ noOrtx) && !h.mcf
  let kind := i.cellKind
  { Frame.blank with
    body := .unit h i, kind := kind, cls := h.cls, dest := .chip (h.dst / 512 % 128), domf := h.domain,
    ort := if own && kind == 1 then some h.ortx else none,
    slot := if own && kind == 0 then some (h.ortx % 4096, h.ortx / 4096) else none,
    combine := none }

/-- Answers the unit of a discarded cell at link `l` (R346): a multicast unit fails for the branch. -/
def Part.answerLost (p : Part) (l : Nat) : Body → Part
  | .unit h i =>
    if h.mcf then (if h.ortx = noOrtx then p else p.combinePart (h.ortx % 1024) (some l) (some 4))
    else p.owe (p.ghost h i) .ur 4
  | .local _ => p

/-- Another open link of a unit's path set that admits its PSEL (R346). -/
def Part.otherLink (p : Part) (lost : List Nat) (h : CocoonHdr) : Option Nat :=
  if h.mcf then none
  else match p.frtIdx h.dst h.cls with
    | none => none
    | some i =>
      if !p.frtValid i then none
      else ((p.frtPath i).find? (fun x => nbit x.2 h.psel && p.linkState x.1 == 5 && !lost.contains x.1 && (p.lk x.1).txKeyed)).map
        (fun x => x.1)

/-- The FENCE_PROBE RESUME that goes before a VC's first passed continuation cell (R316). -/
def resumeSlot (h : CocoonHdr) (k : Nat) (s : TxSlot) (fo : Bool) : TxSlot :=
  let u := Body.unit { h with kind := 6, fseq := (h.fseq + k) % 2 ^ 24, ilen := 8, ortx := noOrtx, ro := false, ide := false,
                              poison := false } (.probe 3 k 0)
  { s with hdr := { hdrOf 1 s.hdr.vc with cfirst := true, clast := true, cbytes := 40, fo := fo }, load := .cell (some u),
           unit := none, of_ := none }

/-- The parcels of a link as the other link takes them, in SEQ order; `seen` are the VCs that have passed one (R150, R316). -/
def passOn (fo : Bool) (seen : List Nat) : List TxSlot → List TxSlot
  | [] => []
  | s :: r =>
    let x := { s with hdr := { s.hdr with fo := fo, foc := false }, of_ := some s.seq }
    let here := match s.unit with
      | some (.unit h _, k) => if !seen.contains s.hdr.vc && !s.hdr.cfirst then [resumeSlot h k s fo, x] else [x]
      | _ => [x]
    here ++ passOn fo (s.hdr.vc :: seen) r

/-- Whether a kept parcel carries a cell of a unit. -/
def TxSlot.isCell (s : TxSlot) : Bool := decide (s.hdr.ptype = 1) && s.unit.isSome

/-- Redispatches or discards the cells of a lost link `l` (R346); answers whether any was discarded (log entries 34 and 51, DEDUCED). -/
def Part.redispatch (p : Part) (lost : List Nat) (l : Nat) (cells : List TxSlot) : Part × Bool :=
  let route := fun (s : TxSlot) => match s.unit with
    | some (.unit h _, _) => p.otherLink lost h
    | _ => none
  let p1 := (List.range 32).foldl (fun (q : Part) m =>
    let mine := cells.filter (fun s => route s == some m)
    if mine.isEmpty then q else q.setLk m { q.lk m with foq := (q.lk m).foq ++ passOn false [] mine }) p
  let gone := cells.filter (fun s => (route s).isNone)
  let units := (gone.filterMap (fun s => s.unit.map (fun u => u.1))).eraseDups
  (units.foldl (fun q u => q.answerLost l u) p1, !gone.isEmpty)

/-- Clears a link's machine as it leaves ACTIVE (R150 step 3, R197): held parcels and credit counters go, the cells it charged stay
charged to the former allotment until they drain. `keep` are the parcels whose data stays for the twin's acknowledgement. -/
def Part.clearLink (p : Part) (l : Nat) (keep : List TxSlot) : Part :=
  let b := p.lk l
  let cells := p.cell.map (fun (e : Nat × CellRec) => (e.1, match e.2.pool with
    | .link m v => if m = l then { e.2 with pool := .link (32 + l) v } else e.2
    | _ => e.2))
  { p with cell := cells }.setLk l { LinkBlk.reset with
    unacked := keep, arrived := b.arrived, rxCtx := b.rxCtx, since := b.since, brokenAt := b.brokenAt, rxAck := b.rxAck, pairRsv := 0,
    txNext := b.txNext, wakeTries := b.wakeTries, barred := b.barred, foUsed := b.foUsed, dropped := b.dropped }

/-- Frames on their way out by a link that has left ACTIVE: unicast frames return to their fabric VOQs, a truncated frame ends, the
copies of multicast frames are lost (R167, R312, log entry 34). -/
def Part.emptyLink (p : Part) (l : Nat) : Part :=
  let xp := l / 2
  let sub := 8 + l % 2
  let items := (List.range 8).flatMap (fun c => p.queue (tqKey xp sub c))
  let mine := ((items.map (fun x => x.frame)) ++ (p.frames.filterMap (fun e => match e.2 with
    | some f => (match f.dest with
      | .chip _ => if f.link = some l then some e.1 else none
      | _ => none)
    | none => none))).eraseDups
  let p1 := mine.reverse.foldl (fun (q : Part) i => match q.fr i with
    | none => q
    | some f => match f.dest with
      | .chip _ => if f.abort then (q.unqueue i).forget i else q.returnFrame i xp
      | _ => if items.any (fun x => x.frame == i && x.k + 1 == f.cells.length) then q.branchLost l f else q) p
  let p2 := (List.range 8).foldl (fun (q : Part) c => q.setQueue (tqKey xp sub c) []) p1
  mine.foldl (fun q i => q.tidy i) p2

/-- Every link to other chips is lost: the recorded fabric role ends (R22). A link in SLEEP is not broken (log entry 15, DEDUCED). -/
def Part.fabricExit (p : Part) : Part :=
  let left := (List.range 32).any (fun l => p.linkState l == 5 || p.linkState l == 7)
  match p.md.role with
  | some r => if r.isFabric && !left then p.trigger (.role .partitioned 6) else p
  | none => p

/-- Station and link of a link as its own side numbers them, for LCTL BREAK. -/
def breakMsg (l cause : Nat) : Payload := .lctlBreak (l / 2) (l % 2) cause

/-- Declares an ACTIVE link broken (R149, R150, R153, R346, R347). -/
def Part.breakActive (p : Part) (l cause : Nat) : Part :=
  let b := p.lk l
  let data := b.unacked.filter (fun s => s.isCell)
  let p1 := (((p.err (.smw l) 7).setF (.smw l) SMW.LINK_STAT.BREAK_CAUSE cause).setF (.smw l) SMW.FO_STAT.TIME_NS 0).setF (.smw l)
    SMW.LINK_STAT.STATE 6
  let p2 := p1.sendTrain l 6
  let done := fun (q : Part) (kept : List TxSlot) =>
    let r := (q.clearLink l kept).setLk l { (q.clearLink l kept).lk l with brokenAt := q.now, since := q.now }
    (r.emptyLink l).resetTarget (l / 2) (8 + l % 2) |>.fabricExit
  match b.foFrom with
  | some o =>
    -- the twin breaks while it carries the resends of link `o`: the pair is lost
    let p3 := (p2.setLk o { p2.lk o with unacked := [] }).setF (.smw o) SMW.LINK_STAT.FO_BUSY 0
    let x := p3.redispatch [l, o] o ((p2.lk o).unacked.filter (fun s => s.isCell))
    let y := x.1.redispatch [l, o] l (data.filter (fun s => !s.hdr.fo))
    (done y.1 []).err (.smw l) 8 |>.trigger (if x.2 || y.2 then .fenced 2 else .degraded 1)
  | none =>
    match p.twin l with
    | some m =>
      let q := p2.unpair l m
      let t := q.lk m
      let q1 := q.setLk m { t with ctlq := breakMsg l cause :: t.ctlq, foq := passOn true [] data ++ t.foq,
                                   foFrom := if data.isEmpty then none else some l }
      let q2 := (q1.setF (.smw l) SMW.FO_STAT.RESENT data.length).setF (.smw l) SMW.LINK_STAT.FO_BUSY (b2n !data.isEmpty)
      (done q2 (data.map (fun s => { s with held := false }))).trigger (.degraded 1)
    | none =>
      let x := (p2.err (.smw l) 8).redispatch [l] l data
      done x.1 []

/-- A link is declared broken with a cause (R149, R150): a link already BROKEN stays as it is; a link that is not ACTIVE is disabled
when EN is 0 (log entries 25 and 34, DEDUCED). -/
def Part.linkBreak (p : Part) (l cause : Nat) : Part :=
  let st := p.linkState l
  if st = 5 then p.breakActive l cause
  else if st = 6 ∨ st = 0 then p
  else if cause = 6 ∧ !p.bit (.smw l) SMW.LINK_CTL.EN then (p.setLinkState l 0)
  else p

/-- An acknowledgement on a link covers failover resends: their data leaves the broken link's replay slots (R151). -/
def Part.foAcked (p : Part) (l : Nat) (done : List TxSlot) : Part :=
  match (p.lk l).foFrom with
  | none => p
  | some o =>
    let gone := done.filterMap (fun s => if s.hdr.fo then s.of_ else none)
    let rest := (p.lk o).unacked.filter (fun s => !gone.contains s.seq)
    let p1 := p.setLk o { p.lk o with unacked := rest }
    if rest.isEmpty then
      (p1.setLk l { p1.lk l with foFrom := none }).setF (.smw o) SMW.LINK_STAT.FO_BUSY 0
    else p1

/-- Frames that a link leaves open as it leaves BROKEN: the cells of a transit frame that no orphans have continued go (R315). -/
def Part.dropOpen (p : Part) (l : Nat) : Part :=
  let b := p.lk l
  let taken := (List.range 32).flatMap (fun m => if m = l then [] else (p.lk m).rxCtx.flatMap (fun e => e.2.cells))
  let cells := (b.rxCtx.flatMap (fun e => e.2.cells)).filter (fun c => !taken.contains c)
  (p.setLk l { b with rxCtx := [] }).freeCells cells

/-- A link leaves BROKEN (R143): for CLOCK_WAIT with EN 1, unless Chitin bars it (R399), else DISABLED. Frames left open on it end
as they stand (log entry 34). -/
def Part.brokenExit (p : Part) (l : Nat) : Part :=
  if p.linkState l ≠ 6 then p
  else
    let tw := (List.range 32).find? (fun m => (p.lk m).foFrom == some l)
    let p1 := match tw with
      | some m => p.setLk m { p.lk m with foFrom := none }
      | none => p
    let b := p1.lk l
    let p2 := (p1.setLk l { b with unacked := [] }).setF (.smw l) SMW.LINK_STAT.FO_BUSY 0
    let p3 := p2.dropOpen l
    if p3.bit (.smw l) SMW.LINK_CTL.EN ∧ !b.barred then p3.enterWait l else p3.setLinkState l 0

end Sys2Proof.Machine
end

