-- ==== Sys2Proof/Machine/Links.lean ====
section
/-! DEFINITION. A Smiwaven link's receiver, training, pairing, keys, sleep and wake (R124, R130 to R132, R139, R143 to R148, R197, R397,
R398), and the commands of the family. -/

namespace Sys2Proof.Machine

/-! ### The transmitter acts on a header (R131, R136) -/

/-- A credit slot of a received header (R136): a count that would run backwards or give more than 32,767 credits is ignored. -/
def Part.creditIn (p : Part) (l v cum : Nat) : Part :=
  let b := p.lk l
  let avail := (cum + 65536 - b.sent.getD v 0) % 65536
  let back := match b.cum.getD v none with
    | some g => decide (32768 ≤ (cum + 65536 - g) % 65536)
    | none => false
  if 32767 < avail ∨ back = true then p.err (.smw l) 5
  else p.setLk l { b with cum := b.cum.set v (some cum), cumAt := if b.cum.getD v none = some cum then b.cumAt else p.now }

/-- A resend is queued, in SEQ order from the oldest unacknowledged SEQ `base`. -/
def insertSeq (base s : Nat) : List Nat → List Nat
  | [] => [s]
  | x :: r =>
    if x = s then x :: r
    else if (s + 2 ^ 20 - base) % 2 ^ 20 < (x + 2 ^ 20 - base) % 2 ^ 20 then s :: x :: r else x :: insertSeq base s r

/-- ACK and ACK_MAP of a received header (R131). -/
def Part.txOnHeader (p : Part) (l a m : Nat) : Part :=
  let b := p.lk l
  let old := match b.unacked with
    | s :: _ => s.seq
    | [] => b.txNext
  let d := (a + 1 + 2 ^ 20 - old) % 2 ^ 20
  let adv := decide (0 < d) && decide (d ≤ b.unacked.length)
  let n := if adv then d else 0
  let done := b.unacked.take n
  let rest := (b.unacked.drop n).map (fun s =>
    let k := (s.seq + 2 ^ 20 - (a + 1)) % 2 ^ 20
    { s with held := decide (k < 16) && nbit m k })
  let h := (List.range 16).foldl (fun x i => if nbit m i then i else x) 0
  let top := (rest.find? (fun s => s.seq == (a + 1 + h) % 2 ^ 20)).map (fun s => s.txo)
  let again := if m = 0 then [] else (rest.filter (fun s =>
    let k := (s.seq + 2 ^ 20 - (a + 1)) % 2 ^ 20
    decide (k < h) && !nbit m k && (match top with
      | some t => decide (s.txo < t)
      | none => false))).map (fun s => s.seq)
  let keep := b.resend.filter (fun s => rest.any (fun y => y.seq == s))
  let p1 := p.setLk l { b with unacked := rest, retry := if adv then 0 else b.retry,
                               resend := again.foldl (fun r s => insertSeq ((a + 1) % 2 ^ 20) s r) keep }
  p1.foAcked l done

/-- The reverse fields of a header: ACK, ACK_MAP and both credit slots (R130). -/
def Part.reverse (p : Part) (l : Nat) (h : ParcelHdr) : Part :=
  ((p.txOnHeader l h.ack h.ackMap).creditIn l h.craVc h.craCum).creditIn l h.crbVc h.crbCum

/-! ### The receiver (R124, R125, R130, R142) -/

/-- A released DATA cell takes its buffer cell: from the failover reserve of the pair, or from the allotment of its VC. -/
def Part.releaseCell (p : Part) (l : Nat) (h : RxHeld) : Part :=
  let m := match p.twinNamed l with
    | some m => min l m
    | none => l
  let pool := if h.hdr.fo ∧ !h.hdr.foc then Pool.fo m else .link l h.hdr.vc
  let x := p.takeCell pool 0 1 (l / 2)
  let b := x.1.lk l
  x.1.setLk l { b with arrived := b.arrived ++ [Arrived.mk h.hdr h.load x.2],
                       foHeld := if h.hdr.fo && !h.hdr.foc then b.foHeld - 1 else b.foHeld }

/-- The VC a parcel is charged to (R125, R130): none for a TAG and for a failover resend against the reserve; an LCTL costs a credit of VC7
whatever its header says. -/
def ParcelHdr.chargedVc (h : ParcelHdr) : Option Nat :=
  if h.ptype = 3 ∨ (h.fo ∧ !h.foc) then none else some (if h.ptype = 4 then 7 else h.vc)

/-- A credit of a VC is given back for a parcel without a cell (R137). -/
def Part.creditBack (p : Part) (l v : Nat) : Part := p.setLk l ((p.lk l).giveBack v)

/-- The peer announces its carved failover reserve (R151): FO_AVAIL is that size less what has been used since the pair formed. -/
def Part.foRsv (p : Part) (l cells : Nat) : Part :=
  let b := p.lk l
  p.setLk l { b with foAvail := min cells 896 - b.foUsed }

/-- A released link control message is acted on (R125). -/
def Part.lctlIn (p : Part) (l : Nat) (m : Payload) : Part :=
  match m with
  | .lctlBreak stn k cause =>
    let named := (List.range 32).find? (fun x => p.bit (.smw x) SMW.LINK_STAT.PEER_VALID && p.getF (.smw x) SMW.LINK_STAT.PEER_STN == stn &&
      p.getF (.smw x) SMW.LINK_STAT.PEER_LINK == k && p.getF (.smw x) SMW.LINK_STAT.PEER_CHIP == p.getF (.smw l) SMW.LINK_STAT.PEER_CHIP)
    let _ := cause
    match named with
    | some x => if x = l then p else p.linkBreak x 5
    | none => p
  | .lctlTimeReq e t1 => p.timeReqRx l e t1
  | .lctlTimeResp e t1 t2 t3 => p.timeResp e t1 t2 t3
  | .lctlFoRsv c => p.foRsv l c
  | _ => p.err (.smw l) 13

/-- The parcels of the group after ACK, when all of them up to its TAG are held; the TAG is the last (R130). -/
def groupOf (held : List RxHeld) (fuel seq : Nat) : Option (List RxHeld) :=
  match fuel with
  | 0 => none
  | f + 1 =>
    match held.find? (fun h => h.hdr.seq == seq) with
    | none => none
    | some h => if h.hdr.ptype = 3 then some [h] else (groupOf held f ((seq + 1) % 2 ^ 20)).map (fun r => h :: r)

/-- Releases the groups that are complete and verified; a tag that fails breaks the link with cause IDE (R130, R142). -/
def Part.releaseGroups (p : Part) (l fuel : Nat) : Part :=
  match fuel with
  | 0 => p
  | n + 1 =>
    let b := p.lk l
    match groupOf b.rxHeld (b.rxHeld.length + 1) ((b.rxAck + 1) % 2 ^ 20) with
    | none => p
    | some g =>
      let rest := b.rxHeld.filter (fun h => !g.contains h)
      if g.any (fun h => h.hdr.ptype == 3 && !h.ok) then
        let p1 := g.foldl (fun q h => match h.hdr.chargedVc with
          | some v => q.creditBack l v
          | none => q)
          (p.setLk l { b with rxHeld := rest, foHeld := b.foHeld - (g.filter (fun h => h.hdr.fo && !h.hdr.foc)).length })
        (p1.err (.smw l) 6).linkBreak l 7
      else
        let p1 := p.setLk l { b with rxHeld := rest, rxAck := (b.rxAck + g.length) % 2 ^ 20, changed := true }
        let p2 := g.foldl (fun q h =>
          if h.hdr.ptype = 3 then q
          else if h.hdr.ptype = 4 then (q.creditBack l 7).lctlIn l h.load
          else q.releaseCell l h) p1
        p2.releaseGroups l n

/-- The checks and the procedure of R124 and R130 for a parcel whose CRC has been judged. -/
def Part.rxChecked (p : Part) (l : Nat) (h : ParcelHdr) (load : Payload) (crcOk tagOk : Bool) : Part :=
  let pg := Page.smw l
  if !crcOk then p.err pg 0
  else if h.ptype = 0 ∨ 4 < h.ptype then p.err pg 1
  else if h.epoch ≠ p.getF pg SMW.LINK_STAT.EPOCH_RX then p.err pg 2
  else
    let p1 := if h.rsv ≠ 0 then p.err pg 3 else p
    if h.ptype = 2 then (if tagOk then p1.reverse l h else p1.err pg 6)
    else
      let b := p1.lk l
      let d := (h.seq + 2 ^ 20 - b.rxAck) % 2 ^ 20
      if d = 0 ∨ 2 ^ 19 ≤ d ∨ b.rxHeld.any (fun x => x.hdr.seq == h.seq) then
        (p1.setLk l { b with dups := b.dups + 1 }).reverse l h
      else if 896 < d then p1.err pg 4
      else
        let cost := h.chargedVc.isSome
        let v := h.chargedVc.getD 0
        let p2 := p1.setLk l { b with
          rxHeld := b.rxHeld ++ [RxHeld.mk h load tagOk], changed := true,
          received := if cost then b.received.set v ((b.received.getD v 0 + 1) % 65536) else b.received,
          charged := if cost then b.charged.set v (b.charged.getD v 0 + 1) else b.charged,
          foHeld := b.foHeld + b2n (h.fo && !h.foc && decide (h.ptype ≠ 3)) }
        let p3 := p2.reverse l h
        p3.releaseGroups l 897

/-- The 35 data blocks of a parcel arrive with valid sync headers on the lanes that carry them (R63, R66). -/
def Part.parcelHeaders (p : Part) (l : Nat) : Part :=
  let at_ := (p.lk l).rxLane
  let q := (List.range 35).foldl (fun (x : Part) i => x.syncHeader (x.streamLane l (at_ + i)) true) p
  q.setLk l { q.lk l with rxLane := (at_ + 35) % 8 }

/-- A parcel arrives at an ACTIVE link (R123, R124, R130): its 16 header bytes, its payload as transmitted and its CRC. `load` is the payload
decrypted, `tagOk` tells that the tag of a NULL verifies, or of the group a TAG closes (log entry 86, DEDUCED). -/
def Part.rxParcel (p : Part) (l : Nat) (bits : BitVec 128) (body : List Byte) (crc : BitVec 64) (load : Payload) (tagOk : Bool) : Part :=
  let h := ParcelHdr.unpack bits.toNat
  if p.linkState l ≠ 5 then p else (p.parcelHeaders l).rxChecked l h load (crc == crc64 (bytesOf 16 bits.toNat ++ body)) tagOk

/-! ### Timers (R132, R139) -/

/-- REPLAY_TIMEOUT (R132). -/
def Part.replayTimeout (p : Part) (l : Nat) : Part :=
  let b := p.lk l
  if p.linkState l ≠ 5 ∨ b.unacked = [] then p
  else if max 1 (p.getF (.smw l) SMW.REPLAY_CTL.LIMIT) < b.retry + 1 then p.linkBreak l 3
  else p.setLk l { b with retry := b.retry + 1, resend := (b.unacked.filter (fun s => !s.held)).map (fun s => s.seq) }

/-- A VC of a link has pending traffic without credit (R139): a cell waits that may leave on it and on no other link of its path set that has
credit. -/
def Part.creditStuck (p : Part) (l v : Nat) : Bool :=
  (p.lk l).avail v == 0 &&
    p.frames.any (fun e => match e.2 with
      | none => false
      | some f => match f.dest with
        | .chip _ => f.vc == v && !f.abort && (match f.link with
          | some m => m == l
          | none => (p.linksFor f).contains l && !(p.linksFor f).any (fun m => m != l && p.linkState m == 5 && decide (0 < (p.lk m).avail v)))
        | _ => false)

/-- CREDIT_TIMEOUT (R139). -/
def Part.creditTimeout (p : Part) (l : Nat) : Part :=
  if p.linkState l = 5 ∧ (List.range 8).any (fun v => p.creditStuck l v) then p.linkBreak l 4 else p

/-! ### Training (R143 to R145, R197) -/

/-- VC_ALLOC as it acts: VC7 at least 4 (R135). -/
def Part.vcAlloc (p : Part) (l v : Nat) : Nat :=
  let n := p.getF (.smw l) (SMW.VC_ALLOC.CELLS.ix v)
  if v = 7 then max 4 n else n

/-- Carves a link's allotments and its 14 return cells out of their pools (R197); ALLOT_FAIL when a pool has too few free cells
(log entry 59, DEDUCED). -/
def Part.carveLink (p : Part) (l : Nat) : Part :=
  let a := (List.range 8).map (fun v => p.vcAlloc l v)
  let of := fun (v : Nat) => a.getD v 0
  let others := fun (v w : Nat) => (p.link.map (fun e => e.2.allot.getD v 0 + e.2.allot.getD w 0)).sum
  let fits := decide (of 0 + of 1 + of 6 + of 7 + 14 ≤ p.sharedFree) &&
    decide (of 2 + of 5 + others 2 5 + p.poolUsed .cpl ≤ p.getF .buf BUF.CPL_RSV.CELLS) &&
    decide (of 3 + of 4 + others 3 4 + p.poolUsed .esc ≤ p.getF .buf BUF.ESC_RSV.CELLS)
  if fits then p.setLk l { p.lk l with allot := a } else p.err .buf 3

/-- TS1_IDENTIFIED (R143, R145, R197): 8 identical TS1; the part's own chip number holds the link in IDENT. -/
def Part.ts1 (p : Part) (l chip link stn epoch : Nat) : Part :=
  if p.linkState l ≠ 3 then p
  else if chip = p.chip ∧ p.md.mode ≠ .test then p.err (.smw l) 10
  else
    let pg := Page.smw l
    let q := ((((p.setF pg SMW.LINK_STAT.EPOCH_RX epoch).setF pg SMW.LINK_STAT.PEER_CHIP chip).setF pg SMW.LINK_STAT.PEER_STN stn).setF
      pg SMW.LINK_STAT.PEER_LINK link).setF pg SMW.LINK_STAT.PEER_VALID 0
    ((q.setLinkState l 4).sendTrain l 2).carveLink l

/-- The link's allotments are carved and its machine starts afresh in ACTIVE (R127, R136, R397). -/
def Part.enterActive (p : Part) (l : Nat) : Part :=
  let b := p.lk l
  let q := (p.setLinkState l 5).setF (.smw l) SMW.LINK_STAT.PEER_VALID 1
  q.setLk l { LinkBlk.reset with
    allot := b.allot, granted := b.allot, lastCum := List.replicate 8 65536, since := p.now, brokenAt := b.brokenAt,
    lastHdr := p.now, cumAt := p.now, arrived := b.arrived, keyAt := p.now, changed := true, rev := b.rev }

/-- TS2_CONFIRMED (R143): 8 TS2 received and 16 sent. -/
def Part.ts2 (p : Part) (l : Nat) : Part :=
  if p.linkState l ≠ 4 then p
  else
    let q := if (p.lk l).allot = [] then p.carveLink l else p
    if (q.lk l).allot = [] then q else q.enterActive l

/-- TRAIN_TMO (R143): a link that makes no progress towards ACTIVE starts again. -/
def Part.trainTmo (p : Part) (l : Nat) : Part :=
  let st := p.linkState l
  if 1 ≤ st ∧ st ≤ 4 then ((p.setLk l { p.lk l with allot := [] }).err (.smw l) 9).enterWait l else p

/-- LINK_ENABLE (R143): EN 1 trains the link, EN 0 breaks it with cause 6 and disables it. -/
def Part.linkEnable (p : Part) (l : Nat) (en : Bool) : Part :=
  let q := p.setF (.smw l) SMW.LINK_CTL.EN (b2n en)
  if en then
    let q1 := q.setLk l { q.lk l with barred := false }
    if q1.linkState l = 0 ∧ q1.linkPresent l then q1.enterWait l else q1
  else (q.linkBreak l 6)

/-- How the lanes of a link stand to the peer's, from the lane numbers of its ALIGN blocks: straight, reversed, or neither, which is not
supported (R57). -/
def laneOrder (meas : List LaneMeas) : Option Bool :=
  let peers := meas.map (fun m => m.peer)
  if peers = [0, 1, 2, 3, 4, 5, 6, 7] then some false else if peers = [7, 6, 5, 4, 3, 2, 1, 0] then some true else none

/-- Skew between the earliest and the latest data lane of a link, in ps (R59). -/
def laneSkew (meas : List LaneMeas) : Nat :=
  let ts := meas.map (fun m => m.arrival)
  ts.foldl max 0 - ts.foldl min (ts.foldl max 0)

/-- The steps of the lock sequence end on the last lane (R60): initial adaptation and inversion of each data lane (R51, R57), LOCKED, and lane
alignment with the order of the lanes. Skew beyond 4 ns sets DESKEW_OVF, and lanes in an order that is not supported do not align either:
the link stays in LOCK (R57, R59, R74) (log entry 90, DEDUCED). -/
def Part.lockDone (p : Part) (l : Nat) (meas : List LaneMeas) : Part :=
  if p.linkState l ≠ 2 then p
  else
    let n := l / 2
    let q := ((linkLanes l).zip meas).foldl (fun (x : Part) e => x.startLane n e.1 6 (some e.2)) p
    if 4000 < laneSkew meas then q.err (.serdes n) 6
    else match laneOrder meas with
      | none => q
      | some rev => (q.setLk l { q.lk l with rev := rev }).setLinkState l 3

/-- A stable forwarded clock is received (R60, R143), on a clock lane that the station's configuration powers (R34). -/
def Part.clockStable (p : Part) (l : Nat) : Part :=
  if !p.linkPresent l then p
  else
    let q := p.setF (.serdes (l / 2)) (if l % 2 = 0 then SERDES.CLK_STAT.CLKA_PRESENT else SERDES.CLK_STAT.CLKB_PRESENT) 1
    if q.linkState l = 1 then q.setLinkState l 2 else q

/-- A forwarded clock is lost (R62), on a clock lane that the station's configuration powers (R34) (log entry 59, DEDUCED). -/
def Part.clockLoss (p : Part) (l : Nat) : Part :=
  if !p.linkPresent l then p
  else
    let pg := Page.serdes (l / 2)
    let a := decide (l % 2 = 0)
    let q := ((p.setF pg (if a then SERDES.CLK_STAT.CLKA_PRESENT else SERDES.CLK_STAT.CLKB_PRESENT) 0).setF pg
      (if a then SERDES.CLK_STAT.CLKA_LOSS else SERDES.CLK_STAT.CLKB_LOSS) 1).bumpF pg SERDES.CLK_STAT.LOSS_CNT 1
    (q.err pg 2).linkBreak l 1

/-- A data lane of a link loses block lock (R63) (log entry 59, DEDUCED). -/
def Part.lockLoss (p : Part) (l lane : Nat) : Part :=
  let pg := Page.serdes (l / 2)
  ((p.setF pg (SERDES.LANE_STAT.LOCKED.ix (8 * (l % 2) + lane)) 0).err pg 1).linkBreak l 2

/-- A block that is no data block arrives on a data lane of a link (R60, R63, R64, R67): lane `k` of the stream. An invalid sync header counts in
SYNC_HDR, and 16 of 64 on a lane lose its block lock; 64 valid ones in a row lock a lane while the link is in LOCK. A control block of a
reserved type counts in CTL_UNKNOWN and is an IDLE; the next block of the stream comes on the next lane. What TRAIN and ALIGN blocks say
comes with the commands of the training states (log entry 90, DEDUCED). -/
def Part.controlBlock (p : Part) (l k : Nat) (b : Block) : Part :=
  let pg := Page.serdes (l / 2)
  let c := p.streamLane l k
  let lane := c % 16
  let valid := decide (b.hdr = 1 ∨ b.hdr = 2)
  let p1 := p.syncHeader c valid
  let p2 := p1.setLk l { p1.lk l with rxLane := (k + 1) % 8 }
  if !valid then
    let p3 := p2.err pg 3
    if 16 ≤ p3.badHeaders c ∧ p3.bit pg (SERDES.LANE_STAT.LOCKED.ix lane) then p3.lockLoss l (lane % 8) else p3
  else
    let p3 := if p2.linkState l = 2 ∧ (Sparse.get p2.laneRx LaneRx.reset c).good = 64 then p2.setF pg (SERDES.LANE_STAT.LOCKED.ix lane) 1 else p2
    let ty := b.byte 0
    if b.hdr = 2 ∧ ty ≠ 0x1E ∧ ty ≠ 0x4B ∧ ty ≠ 0x55 then p3.err pg 7 else p3

/-! ### Pairs (R148, R151, R197) -/

/-- The failover reserve a pair wants: the larger of the links' values (SMWA.FO_RSV). -/
def Part.foWant (p : Part) (l m : Nat) : Nat :=
  min 896 (max (p.getF (.smw l) SMW.FO_RSV.CELLS) (p.getF (.smw m) SMW.FO_RSV.CELLS))

/-- Carves what the pair of lower link `l` and link `m` still lacks of the reserve fixed when it formed, as far as free cells go, and announces a grown size on both links
(R151, R197) (log entry 59, DEDUCED). -/
def Part.growReserve (p : Part) (l m : Nat) (first : Bool) : Part :=
  let have_ := (p.lk l).pairRsv
  let add := min ((p.lk l).pairWant - have_) p.sharedFree
  if add = 0 ∧ !first then p
  else
    let q := p.setLk l { p.lk l with pairRsv := have_ + add }
    (q.lctl l (.lctlFoRsv (have_ + add))).lctl m (.lctlFoRsv (have_ + add))

/-- TWIN_PAIR_FORM (R148, R397): two keyed ACTIVE links that name each other and report the same peer chip become a pair
(log entry 59, DEDUCED). -/
def Part.pairForm (p : Part) (l : Nat) : Part :=
  match p.twinNamed l with
  | none => p
  | some m =>
    let keyed := fun (x : Nat) => (p.lk x).txKeyed && (p.lk x).rxKeyed
    if m ≠ l ∧ p.twinNamed m = some l ∧ p.linkState l = 5 ∧ p.linkState m = 5 ∧
        p.getF (.smw l) SMW.LINK_STAT.PEER_CHIP = p.getF (.smw m) SMW.LINK_STAT.PEER_CHIP ∧ keyed l = true ∧ keyed m = true ∧
        !p.bit (.smw l) SMW.LINK_STAT.TWIN_ACTIVE then
      let q := (p.setF (.smw l) SMW.LINK_STAT.TWIN_ACTIVE 1).setF (.smw m) SMW.LINK_STAT.TWIN_ACTIVE 1
      let again := fun (x : Part) (k : Nat) =>
        let b := x.lk k
        x.setLk k { b with foAvail := b.foAvail + b.foUsed, foUsed := 0 }
      let q1 := again (again q l) m
      let q2 := q1.setLk (min l m) { q1.lk (min l m) with pairWant := q1.foWant l m }
      q2.growReserve (min l m) (max l m) true
    else p

/-- A reserve carved in part is completed as cells free (R197). -/
def Part.growPairs (p : Part) : Part :=
  (p.link.filter (fun e => decide (e.2.pairRsv < e.2.pairWant))).foldl (fun (q : Part) e => match q.twin e.1 with
    | some m => if e.1 < m then q.growReserve e.1 m false else q
    | none => q) p

/-- TWIN_RESTORED (R153): a link of a pair that has stayed ACTIVE for 10 ms without a break. -/
def Part.twinRestored (p : Part) (l : Nat) : Part :=
  if p.linkState l = 5 ∧ p.bit (.smw l) SMW.LINK_STAT.TWIN_ACTIVE then p.setLk l { p.lk l with twinOk := true } else p

/-! ### Keys (R397 to R399) -/

/-- LINK_KEYING (R397, R399): the two Chitins key both directions, or the peer fails the check and the link is broken and not trained
again until EN is written. -/
def Part.linkKeying (p : Part) (l : Nat) (ok : Bool) : Part :=
  if p.linkState l ≠ 5 ∨ !p.boot.chitin then p
  else if ok then
    let q := p.setLk l { p.lk l with txKeyed := true, rxKeyed := true, keyAt := p.now, groups := 0, txKey := p.freeCtr + 1 }
    { q with freeCtr := q.freeCtr + 1 }
  else
    let q := p.linkBreak l 6
    q.setLk l { q.lk l with barred := true }

/-- UNKEYED_TIMEOUT (R397). -/
def Part.unkeyedTimeout (p : Part) (l : Nat) : Part :=
  let b := p.lk l
  if p.linkState l = 5 ∧ !(b.txKeyed && b.rxKeyed) then p.linkBreak l 6 else p

/-- REKEY (R398): Chitin chooses a switch sequence at least 64 above TX_NEXT. -/
def Part.rekey (p : Part) (l ahead : Nat) : Part :=
  let b := p.lk l
  if p.linkState l = 5 ∧ b.txKeyed ∧ p.boot.chitin then
    p.setLk l { b with switchAsk := some ((b.txNext + max 64 (min ahead (2 ^ 19))) % 2 ^ 20) }
  else p

/-- KEY_SWITCH (R398): the peer's Chitin has acknowledged the proposed sequence; one that TX_NEXT has reached is proposed anew. -/
def Part.keySwitch (p : Part) (l : Nat) : Part :=
  let b := p.lk l
  match b.switchAsk with
  | none => p
  | some s =>
    let left := (s + 2 ^ 20 - b.txNext) % 2 ^ 20
    if 1 ≤ left ∧ left ≤ 2 ^ 19 then
      { p.setLk l { b with switchAsk := none, switchSeq := some s, nextKey := p.freeCtr + 1 } with freeCtr := p.freeCtr + 1 }
    else p.setLk l { b with switchAsk := some ((b.txNext + 64) % 2 ^ 20) }

/-! ### Sleep and wake (R146, R147, R153) -/

/-- A side may sleep: no unacknowledged parcel, nothing held or due on any VC (R146), and the twin it names is ACTIVE (R153). -/
def Part.maySleep (p : Part) (l : Nat) : Bool :=
  let b := p.lk l
  b.unacked.isEmpty && b.charged.all (fun n => n == 0) && (match p.twinNamed l with
    | some m => p.linkState m == 5
    | none => true)

/-- The link enters SLEEP (R146): it takes no part in failover. -/
def Part.enterSleep (p : Part) (l : Nat) : Part :=
  let q := match p.twin l with
    | some m => p.unpair l m
    | none => p
  ((q.clearLink l []).setLinkState l 7).emptyLink l

/-- SLEEP_REQ (R146). -/
def Part.sleepReq (p : Part) (l : Nat) : Part :=
  if p.linkState l = 5 ∧ p.bit (.smw l) SMW.LINK_CTL.SLEEP_REQ ∧ p.maySleep l then
    (p.setLk l { p.lk l with sleeping := true }).sendTrain l 3
  else p

/-- SLEEP_REQ_RECEIVE (R146, R153). -/
def Part.sleepReqRx (p : Part) (l : Nat) : Part :=
  if p.linkState l ≠ 5 then p
  else if p.maySleep l then (p.sendTrain l 4).enterSleep l
  else p.sendTrain l 5

/-- SLEEP_ACK (R146): the side enters SLEEP while its own condition still holds; else it gives the handshake up (log entry 59, DEDUCED). -/
def Part.sleepAck (p : Part) (l : Nat) : Part :=
  if p.linkState l = 5 ∧ (p.lk l).sleeping then
    (if p.maySleep l then p.enterSleep l else p.setLk l { p.lk l with sleeping := false })
  else p

/-- SLEEP_NAK (R146). -/
def Part.sleepNak (p : Part) (l : Nat) : Part :=
  if p.linkState l = 5 then p.setLk l { p.lk l with sleeping := false } else p

/-- WAKE (R147): the wake pattern goes out and the link enters CLOCK_WAIT. -/
def Part.wakeLink (p : Part) (l : Nat) : Part :=
  if p.linkState l = 7 ∨ p.linkState l = 1 then
    let q := (p.emit (.wakePattern l)).enterWait l
    q.setLk l { q.lk l with wakeTries := 1 }
  else p

/-- WAKE_RETRY (R147): the pattern again, up to three times, then WAKE_FAIL. -/
def Part.wakeRetry (p : Part) (l : Nat) : Part :=
  let b := p.lk l
  if p.linkState l = 5 ∨ b.wakeTries = 0 then p
  else if b.wakeTries ≤ 3 then (p.setLk l { b with wakeTries := b.wakeTries + 1 }).emit (.wakePattern l)
  else (p.setLk l { b with wakeTries := 0 }).err (.smw l) 11

/-- A wake pattern is qualified on a clock lane (R143, R424): it wakes a sleeping link, and the part from SENTINEL or STANDBY. -/
def Part.wakePatternIn (p : Part) (l : Nat) : Part :=
  if p.md.mode.core then
    let q := if p.entering ∧ p.bit .ffy FFY.WAKE_EN.SMW ∧ p.linkState l = 7 then p.wakeEvent 3 (256 + l) else p
    if p.linkState l = 7 then q.enterWait l else q
  else if p.bit .ffy FFY.WAKE_EN.SMW ∧ p.ffy.watchL.contains l = true then p.wakeEvent 3 (256 + l) else p

/-! ### Commands -/

/-- RX_PARCEL (R130). -/
def execRxParcel (l : Fin 32) (hdr : BitVec 128) (body : List Byte) (crc : BitVec 64) (load : Payload) (tagOk : Bool) (s : State) :=
  s.via (fun p => p.rxParcel l.val hdr body crc load tagOk)

/-- REPLAY_TIMEOUT (R132). -/
def execReplayTimeout (l : Fin 32) (s : State) := s.via (fun p => p.replayTimeout l.val)

/-- CREDIT_TIMEOUT (R139). -/
def execCreditTimeout (l : Fin 32) (s : State) := s.via (fun p => p.creditTimeout l.val)

/-- LINK_BREAK (R150) by a cause of R149; cause 5 is two TRAIN BREAK groups of the peer. -/
def execLinkBreak (l : Fin 32) (cause : Fin 8) (s : State) :=
  s.via (fun p => if 1 ≤ cause.val then p.linkBreak l.val cause.val else p)

/-- FORCE_BREAK (R149). -/
def execForceBreak (req : Requester) (l : Fin 32) (s : State) :=
  s.via (fun p => p.ifPermitted req (.smw l.val) 0x100 (fun q => q.linkBreak l.val 6))

/-- BROKEN_EXIT (R143). -/
def execBrokenExit (l : Fin 32) (s : State) := s.via (fun p => p.brokenExit l.val)

/-- LINK_ENABLE (R143). -/
def execLinkEnable (req : Requester) (l : Fin 32) (en : Bool) (s : State) :=
  s.via (fun p => p.ifPermitted req (.smw l.val) 0x100 (fun q => q.linkEnable l.val en))

/-- FORWARDED_CLOCK_STABLE (R143). -/
def execForwardedClockStable (l : Fin 32) (s : State) := s.via (fun p => p.clockStable l.val)

/-- LOCK_DONE (R60, R143): what the eight data lanes measured, lane 0 first. -/
def execLockDone (l : Fin 32) (meas : List LaneMeas) (s : State) := s.via (fun p => p.lockDone l.val meas)

/-- RX_CONTROL_BLOCK (R64, R67): a block on lane `k` of the link's stream. -/
def execRxControlBlock (l : Fin 32) (k : Fin 8) (b : Block) (s : State) := s.via (fun p => p.controlBlock l.val k.val b)

/-- TS1_IDENTIFIED (R145): the peer's chip, station, link and epoch. -/
def execTs1Identified (l : Fin 32) (chip : Fin 128) (stn : Fin 16) (link : Fin 2) (epoch : Fin 16) (s : State) :=
  s.via (fun p => p.ts1 l.val chip.val link.val stn.val epoch.val)

/-- TS2_CONFIRMED (R143). -/
def execTs2Confirmed (l : Fin 32) (s : State) := s.via (fun p => p.ts2 l.val)

/-- TRAIN_TMO (R143). -/
def execTrainTmo (l : Fin 32) (s : State) := s.via (fun p => p.trainTmo l.val)

/-- FORWARDED_CLOCK_LOSS (R62). -/
def execForwardedClockLoss (l : Fin 32) (s : State) := s.via (fun p => p.clockLoss l.val)

/-- BLOCK_LOCK_LOSS (R63). -/
def execBlockLockLoss (l : Fin 32) (lane : Fin 8) (s : State) := s.via (fun p => p.lockLoss l.val lane.val)

/-- SLEEP_REQ (R146). -/
def execSleepReq (l : Fin 32) (s : State) := s.via (fun p => p.sleepReq l.val)

/-- SLEEP_REQ_RECEIVE (R146). -/
def execSleepReqReceive (l : Fin 32) (s : State) := s.via (fun p => p.sleepReqRx l.val)

/-- SLEEP_ACK (R146). -/
def execSleepAck (l : Fin 32) (s : State) := s.via (fun p => p.sleepAck l.val)

/-- SLEEP_NAK (R146). -/
def execSleepNak (l : Fin 32) (s : State) := s.via (fun p => p.sleepNak l.val)

/-- WAKE (R147). -/
def execWake (l : Fin 32) (s : State) := s.via (fun p => p.wakeLink l.val)

/-- WAKE_RETRY (R147). -/
def execWakeRetry (l : Fin 32) (s : State) := s.via (fun p => p.wakeRetry l.val)

/-- SMIWAVEN_WAKE_PATTERN (R424). -/
def execSmiwavenWakePattern (l : Fin 32) (s : State) := s.via (fun p => p.wakePatternIn l.val)

/-- TWIN_PAIR_FORM (R148). -/
def execTwinPairForm (l : Fin 32) (s : State) := s.via (fun p => p.pairForm l.val)

/-- TWIN_RESTORED (R153). -/
def execTwinRestored (l : Fin 32) (s : State) := s.via (fun p => p.twinRestored l.val)

/-- LINK_KEYING (R397): whether the peer passes Chitin's check. -/
def execLinkKeying (l : Fin 32) (ok : Bool) (s : State) := s.via (fun p => p.linkKeying l.val ok)

/-- UNKEYED_TIMEOUT (R397). -/
def execUnkeyedTimeout (l : Fin 32) (s : State) := s.via (fun p => p.unkeyedTimeout l.val)

/-- KEY_SWITCH (R398). -/
def execKeySwitch (l : Fin 32) (s : State) := s.via (fun p => p.keySwitch l.val)

/-- REKEY (R398): Chitin's choice of the switch sequence, counted from TX_NEXT. -/
def execRekey (l : Fin 32) (ahead : Nat) (s : State) := s.via (fun p => p.rekey l.val ahead)

end Sys2Proof.Machine
end

