-- ==== Sys2Proof/Machine/Signals.lean ====
section
/-! DEFINITION. The interrupts of a domain: MSI-X of the Control Function, the INTx wires and the state bits behind them (R91 to R98), and
what a channel slot of a domain is bound to (R104). -/

namespace Sys2Proof.Machine

/-! ### Drone channels of a domain (R104) -/

/-- The channels of a domain with their slots. -/
def Part.chansOf (p : Part) (d : Nat) : List (Nat × Nat) :=
  (List.range 512).filterMap (fun c =>
    let pg := Page.drn (c / 256)
    let i := c % 256
    if p.getF pg (DRN.CH_BIND.VALID.ix i) = 1 ∧ p.getF pg (DRN.CH_BIND.DOMAIN.ix i) = d then some (c, p.getF pg (DRN.CH_BIND.SLOT.ix i)) else none)

/-! ### Sources and MSI-X (R91, R93) -/

/-- C(v) of R93. -/
def Part.vecLevel (p : Part) (d v : Nat) : Bool := (p.sourcesOn d).any (fun k => p.getF (.cfn d) (CFN.VEC_MAP.VEC.ix k) == v)

/-- The Control Function is in D3hot (R86): it sends no interrupt, claims no memory request and starts no channel
(log entry 12, PRESUMED). -/
def Part.inD3 (p : Part) (d : Nat) : Bool := p.cf d 1 0x44 0 2 == 3

/-- MSI-X Enable. -/
def Part.msixOn (p : Part) (d : Nat) : Bool := p.cf d 1 0x50 31 1 == 1 && !p.inFlr d

/-- A vector is masked: Function Mask, its own Mask bit, Bus Master Enable 0 (R93), or D3hot (log entry 12, PRESUMED). -/
def Part.vecMasked (p : Part) (d v : Nat) : Bool :=
  p.cf d 1 0x50 30 1 == 1 || p.cf d 1 0x04 2 1 == 0 || p.inD3 d || (p.rd ((Page.msixTbl d (v / 256)).base + v % 256 * 16 + 12)).getLsbD 0

/-- A vector's bit of the pending bit array. -/
def Part.pbaBit (p : Part) (d v : Nat) : Bool := (p.rd ((Page.pba d).base + v / 32 * 4)).getLsbD (v % 32)

/-- Sets or clears a vector's bit of the pending bit array. -/
def Part.setPba (p : Part) (d v : Nat) (b : Bool) : Part :=
  let a := (Page.pba d).base + v / 32 * 4
  p.wr a ((Fld.mk 0 (v % 32) 1 0 0).into (p.rd a) (b2n b))

/-- The message of a vector goes out, or waits in its PBA bit while the vector is masked (R93) (log entry 13, DESIGN CHOICE). -/
def Part.vecFire (p : Part) (d v : Nat) : Part :=
  if p.vecMasked d v then p.setPba d v true else p.sendUp d 4 (.msix d v)

/-- Stores the level of a vector as last seen. -/
def Part.setLevel (p : Part) (d v : Nat) (b : Bool) : Part := { p with msix := Sparse.set p.msix false (d * 2048 + v) b }

/-- Compares C(v) with the level last seen: a rise fires the vector, a fall clears its PBA bit (R93) (log entry 68, DEDUCED). -/
def Part.vecEdge (p : Part) (d v : Nat) : Part :=
  let was := Sparse.get p.msix false (d * 2048 + v)
  let now := p.vecLevel d v
  if was = now then p
  else
    let q := p.setLevel d v now
    if !q.msixOn d then q else if now then q.vecFire d v else q.setPba d v false

/-- A pending vector that is no longer masked sends its message (R93). -/
def Part.vecUnmask (p : Part) (d v : Nat) : Part :=
  if p.msixOn d ∧ p.pbaBit d v ∧ !p.vecMasked d v then (p.setPba d v false).sendUp d 4 (.msix d v) else p

/-- The pending vectors of a domain. -/
def Part.pending (p : Part) (d : Nat) : List Nat :=
  (List.range 64).flatMap (fun w => let x := p.rd ((Page.pba d).base + w * 4)
    if x = 0 then [] else (List.range 32).filterMap (fun i => if x.getLsbD i then some (32 * w + i) else none))

/-- Every pending vector of a domain that is no longer masked sends (R93). -/
def Part.vecUnmaskAll (p : Part) (d : Nat) : Part := (p.pending d).foldl (fun q v => q.vecUnmask d v) p

/-- MSI-X Enable changes from 0 to 1: every vector whose C(v) is 1 counts as a rise (R93). -/
def Part.msixEnabled (p : Part) (d : Nat) : Part :=
  let vs := ((p.sourcesOn d).map (fun k => p.getF (.cfn d) (CFN.VEC_MAP.VEC.ix k))).eraseDups
  vs.foldl (fun q v => (q.setLevel d v true).vecFire d v) p

/-! ### INTx (R94 to R98) -/

/-- The wires of a domain that a function's pins drive, from its state bits, its device number at its bridge and the bridge (R97). -/
def Part.wiresOf (p : Part) (d vb bits vdev : Nat) : List Nat :=
  let dev := if p.cf d (2 + vb) 0x98 5 1 = 1 then 0 else vdev
  ((List.range 4).filter (fun pin => nbit bits pin)).map (fun pin => ((pin + dev) % 4 + vb / 8) % 4)

/-- The wires that devices of a domain drive: whole ports by their own routing IDs, bound functions by VDEVFN (R96, R97). -/
def Part.deviceWires (p : Part) (d : Nat) : List Nat :=
  (p.intx.flatMap (fun e =>
    let t := e.1 / 65536
    if p.role t = 2 ∧ p.getF (.port t) PORT.PORT_CTL.DOMAIN = d then
      p.wiresOf d (p.getF (.port t) PORT.PORT_CTL.VB) e.2 (e.1 % 65536 / 8 % 32) else []))
  ++ ((p.validIn 0).filter (fun f => p.fbtDom f == d)).flatMap (fun f =>
    p.wiresOf d (p.tf 0 f 0 16 7) (p.tf 0 f 2 0 4) (p.tf 0 f 0 26 5))

/-- The wires INTA to INTD of a domain as a mask (R95). -/
def Part.wireMask (p : Part) (d : Nat) : Nat :=
  let dev := p.deviceWires d
  bitsOf ((List.range 4).map (fun w => dev.contains w || (w == 0 && p.cfContrib d)))

/-- Sends the messages for the wires that have changed since the last look (R95) (log entry 68, DEDUCED). -/
def Part.wireEdges (p : Part) (d : Nat) : Part :=
  let was := p.getF (.cfn d) CFN.INTX_STAT.UP_WIRE
  let now := p.wireMask d
  if was = now ∨ !p.attached d then p
  else
    let q := p.setF (.cfn d) CFN.INTX_STAT.UP_WIRE now
    if q.bit (.port (q.uport d)) PORT.PORT_STAT.DL_UP then
      (List.range 4).foldl (fun r w => if nbit was w = nbit now w then r else r.sendUp d 0 (.intx d (bdf (r.busB d) 0) w (nbit now w))) q
    else q

/-- The upstream link enters DL_Active: Assert_INTx for every wire that is 1 (R95). -/
def Part.wiresAgain (p : Part) (d : Nat) : Part :=
  let now := p.getF (.cfn d) CFN.INTX_STAT.UP_WIRE
  (List.range 4).foldl (fun r w => if nbit now w then r.sendUp d 0 (.intx d (bdf (r.busB d) 0) w true) else r) p

/-- An INTx message of a function at a port (R96): its state bit, and the wires that follow. A message of an unbound requester is discarded and
noted in ERR_STAT.INTX_UNBOUND of the port's page (R345); no rule names the counter of that page which counts it (log entry 13, DESIGN CHOICE). -/
def Part.intxMsg (p : Part) (t : Nat) (rid : BitVec 16) (pin : Nat) (on : Bool) : Part :=
  let set := fun (bits : Nat) => if on then bits ||| 2 ^ pin else bits &&& (15 - 2 ^ pin)
  match p.role t with
  | 2 =>
    let k := t * 65536 + rid.toNat
    ({ p with intx := Sparse.set p.intx 0 k (set (Sparse.get p.intx 0 k)) }).wireEdges (p.getF (.port t) PORT.PORT_CTL.DOMAIN)
  | 3 =>
    match p.fbtOf t rid with
    | some f => (p.setTw 0 f 2 (BitVec.ofNat 32 (set (p.tf 0 f 2 0 4)))).wireEdges (p.fbtDom f)
    | none => p.err (.port t) 8
  | _ => p.err (.port t) 8

/-- The INTx state bits of a bound function are cleared (R98). -/
def Part.intxClearFn (p : Part) (f : Nat) : Part :=
  if p.tf 0 f 2 0 4 = 0 then p else (p.setTw 0 f 2 0).wireEdges (p.fbtDom f)

/-- The INTx state bits of every function at a port are cleared (R98). -/
def Part.intxClearPort (p : Part) (t : Nat) : Part :=
  let p1 := ({ p with intx := p.intx.filter (fun e => e.1 / 65536 != t) })
  let p2 := if p.role t = 2 then p1.wireEdges (p.getF (.port t) PORT.PORT_CTL.DOMAIN) else p1
  ((p2.validIn 0).filter (fun f => p2.tf 0 f 0 3 7 == t)).foldl (fun q f => q.intxClearFn f) p2

/-- What an idle moment looks at: vectors whose C(v) has fallen and wires that have changed (R93, R95) (log entry 68, DEDUCED). -/
def Part.signals (p : Part) : Part :=
  let p1 := p.msix.foldl (fun (q : Part) e => if e.2 then q.vecEdge (e.1 / 2048) (e.1 % 2048) else q) p
  ((List.range 64).filter p1.attached).foldl (fun q d => q.wireEdges d) p1

/-! ### Commands -/

/-- MSIX_ENABLE (R93, R94): the host sets MSI-X Enable. -/
def execMsixEnable (d : Fin 64) (s : State) :=
  s.via (fun p => if p.cf d.val 1 0x50 31 1 = 1 then p else ((p.setCf d.val 1 0x50 31 1 1).msixEnabled d.val).wireEdges d.val)

/-- INTX_DISABLE (R94): the host sets Command.INTx Disable. -/
def execIntxDisable (d : Fin 64) (s : State) := s.via (fun p => (p.setCf d.val 1 0x04 10 1 1).wireEdges d.val)

/-- MSIX_VECTOR_RISE (R93): the level of a vector has changed. -/
def execMsixVectorRise (d : Fin 64) (v : Fin 2048) (s : State) := s.via (fun p => p.vecEdge d.val v.val)

/-- MSIX_UNMASK (R93). -/
def execMsixUnmask (d : Fin 64) (v : Fin 2048) (s : State) := s.via (fun p => p.vecUnmask d.val v.val)

/-- ASSERT_INTX (R96). -/
def execAssertIntx (t : Fin 128) (rid : BitVec 16) (pin : Fin 4) (s : State) := s.via (fun p => p.intxMsg t.val rid pin.val true)

/-- DEASSERT_INTX (R96). -/
def execDeassertIntx (t : Fin 128) (rid : BitVec 16) (pin : Fin 4) (s : State) := s.via (fun p => p.intxMsg t.val rid pin.val false)

end Sys2Proof.Machine
end

