-- ==== Sys2Proof/Machine/Contain.lean ====
section
/-! DEFINITION. Containment of ports, agents and stations, DPC, and station disable (R39, R338 to R345, R348, R350, R355, R356). -/

namespace Sys2Proof.Machine

/-! ### A Colony crash (R414, R415) -/

/-- A Colony crash is declared (R414, R415 step 1): Colony is held in reset, COLONY_UP falls, pending mailboxes complete with BUSY, and
Chitin owns the SPI flash and starts a restart. -/
def Part.colonyCrash (p : Part) : Part :=
  let p1 := (p.err .mbx 1).setColonyUp false
  { p1 with boot := { p1.boot with run := false, restart := some p1.now, restarts := p1.boot.restarts + 1 } }.setF .spi SPI.OWNER.COLONY 0

/-! ### Agents (R338) -/

/-- Containment of an agent (R338): every channel of a Drone that is not IDLE stops, Colony crashes, Antenna stops capturing, and the
register target or Chitin fences the part (log entry 63, DEDUCED). -/
def Part.containAgent (p : Part) (a : Nat) : Part :=
  if a < 2 then
    (List.range 256).foldl (fun (q : Part) i =>
      let pg := Page.drn a
      let d := q.getF pg (DRN.CH_BIND.DOMAIN.ix i)
      let k := q.getF pg (DRN.CH_BIND.SLOT.ix i)
      if q.getF pg (DRN.CH_BIND.VALID.ix i) = 1 ∧ q.getF (.drc d k) DRC.CH_STAT.STATE ≠ 0 then q.chanStop (256 * a + i) d k 0 (q.getF (.drc d k) DRC.CONS.INDEX) else q) p
  else if a = 2 then p.colonyCrash
  else if a = 5 then
    (let q := (p.setF .ant ANT.CTL.EN 0).setF .ant ANT.STAT.RUNNING 0
     { q with ant := { q.ant with post := none } })
  else p.trigger (.fenced 6)

/-! ### Virtual bridges: AER and DPC (R342, R344, R363) -/

/-- The bridges above a port: the owning PORT bridge, or every SHARED bridge with a binding on it, as domain and bridge. -/
def Part.bridgesOf (p : Part) (t : Nat) : List (Nat × Nat) :=
  match p.role t with
  | 2 => [(p.getF (.port t) PORT.PORT_CTL.DOMAIN, p.getF (.port t) PORT.PORT_CTL.VB)]
  | 3 => (((p.validIn 0).filter (fun f => p.tf 0 f 0 3 7 == t)).map (fun f => (p.fbtDom f, p.tf 0 f 0 16 7))).eraseDups
  | _ => []

/-- An event of a bridge raises its MSI when the event's interrupt is enabled and MSI Enable is 1 (R81). -/
def Part.bridgeMsi (p : Part) (d vb : Nat) (on : Bool) : Part :=
  if on ∧ p.cf d (2 + vb) 0x50 16 1 = 1 then p.sendUp d 4 (.msi d vb) else p

/-- Data Link Layer State Changed in the Slot Status of a bridge, with its hot-plug interrupt (R344, R363; layout of log entry 12). -/
def Part.dllChanged (p : Part) (d vb : Nat) : Part :=
  (p.setCf d (2 + vb) 0x88 24 1 1).bridgeMsi d vb (p.cf d (2 + vb) 0x88 12 1 = 1 ∧ p.cf d (2 + vb) 0x88 5 1 = 1)

/-- Whether a port's containment is held by DPC Trigger Status of its PORT bridge (R343). -/
def Part.hostHold (p : Part) (t : Nat) : Bool :=
  p.role t == 2 && (p.bridgesOf t).any (fun b => p.dpcOn b.1 b.2)

/-- The status of a non-posted request and the cause of a write that containment of a port with a cause answers with (R341). -/
def contAnswer (cause : Nat) : CplStatus × Nat := if cause = 4 then (.ca, 6) else (.ur, 5)

/-- The copies of multicast frames that wait at a port are discarded (R341 step 3). -/
def Part.dropCopies (p : Part) (t cause : Nat) : Part :=
  let items := (List.range 8).flatMap (fun c => p.queue (tqKey (t / 8) (t % 8) c))
  let p1 := (List.range 8).foldl (fun (q : Part) c =>
    let k := tqKey (t / 8) (t % 8) c
    q.setQueue k ((q.queue k).filter (fun x => match q.fr x.frame with
      | some f => (match f.dest with
        | .mc _ => false
        | _ => true)
      | none => false))) p
  items.foldl (fun (q : Part) x => match q.fr x.frame with
    | some f => (match f.dest with
      | .mc _ =>
        let q1 := q.bumpF (.port t) PORT.CONT_STAT.DISCARDED 1
        (match f.combine with
          | some c => q1.combinePart c none (some (contAnswer cause).2)
          | none => q1).tidy x.frame
      | _ => q)
    | none => q) p1

/-- Every entry bound to a port closes (R341 step 4). -/
def Part.closeEntries (p : Part) (t : Nat) (st : CplStatus) : Part :=
  ((p.ort.filter (fun e => (e.2.state = .localE ∨ e.2.state = .far) ∧ e.2.target = p.gport t)).map (fun e => e.1)).foldl
    (fun q i => q.closeFor i st) p

/-- ERR_STAT bit of a containment cause, if it has one (R345). -/
def contErr (cause : Nat) : Option Nat :=
  match cause with
  | 1 => some 1 | 2 => some 2 | 3 => some 3 | 4 => some 4 | 6 => some 9 | 8 => some 10 | _ => none

/-- A surprise removal marks the functions of a port REMOVED and tells their domains (R344, R92). -/
def Part.markRemoved (p : Part) (t : Nat) : Part :=
  ((p.validIn 0).filter (fun f => p.tf 0 f 0 3 7 == t)).foldl (fun (q : Part) f =>
    (q.setTw 0 f 0 ((Fld.mk 0 1 2 0 0).into (q.tw 0 f 0) 2)).irq (.cfn (q.fbtDom f)) 4) p

/-- The link of a port is down: what depends on it returns to rest (R98, R160, R200, R225). -/
def Part.portDown (p : Part) (t : Nat) (goal : Ltssm) : Part :=
  let pg := Page.port t
  let p1 := ((p.setF pg PORT.PORT_STAT.LINK_UP 0).setF pg PORT.PORT_STAT.DL_UP 0).setF pg PORT.PORT_STAT.WIDTH 0
  let p2 := ((p1.setPt t { p1.pt t with ltssm := goal, ide := false }).retrain t).dropAllBacking t
  (({ p2 with awaited := Sparse.set p2.awaited 0 t 0 }.resetTarget (t / 8) (t % 8))).intxClearPort t

/-- Steps 1 to 6 of port containment (R341), without the reports of bridges. A contained port stays under its first cause. -/
def Part.containOne (p : Part) (t cause : Nat) : Part :=
  let pg := Page.port t
  let a := contAnswer cause
  let p1 := ((p.setF pg PORT.CONT_STAT.ACTIVE 1).setF pg PORT.CONT_STAT.CAUSE cause).setF pg PORT.CONT_STAT.DONE 0
  let p2 := ((p1.dropAllFor (.port t) a.1 a.2).dropCopies t cause).closeEntries t a.1
  let p3 := if cause = 2 then p2.markRemoved t else p2
  let p4 := p3.portDown t (if cause = 3 then .disabled else if cause = 8 then (p3.pt t).ltssm else .detect)
  let p5 := match contErr cause with
    | some b => p4.err pg b
    | none => p4
  p5.setF pg PORT.CONT_STAT.DONE 1

/-- A DPC trigger of a bridge (R342): a PORT bridge holds its port in Disabled under containment, a SHARED bridge cuts its functions off
from the domain: requests of the domain that have not left for them are answered, and their open entries close (log entry 12, PRESUMED). -/
def Part.dpc (p : Part) (d vb reason : Nat) : Part :=
  let fn := 2 + vb
  if !p.vbPresent d vb || p.dpcOn d vb then p
  else
    let p1 := ((p.setCf d fn 0x150 0 1 1).setCf d fn 0x150 1 2 reason).setCf d fn 0x150 3 1 1
    let p2 := p1.bridgeMsi d vb (p1.cf d fn 0x14C 19 1 = 1)
    match p2.vbKind d vb with
    | 0 =>
      let t := p2.tf 6 (128 * d + vb) 0 3 7
      let p3 := if p2.bit (.port t) PORT.CONT_STAT.ACTIVE then p2.setPt t { p2.pt t with ltssm := .disabled } else p2.containOne t 3
      (p3.setPt t { p3.pt t with dpc := true }).setF (.port t) PORT.CONT_STAT.HOST_HOLD 1
    | 1 =>
      let cut := fun (f : Nat) => p2.fbtDom f == d && p2.tf 0 f 0 16 7 == vb
      let struck := (p2.frames.filter (fun e => match e.2 with
        | some f => (match f.dest, f.body.tlp with
          | .port t, some m => p2.role t == 3 && f.domf == p2.fabricId d && m.kind != .cpl && m.kind != .msg && (p2.fnAt t m.addr.toNat).any cut
          | _, _ => false)
        | none => false)).map (fun e => e.1)
      let p3 := struck.foldl (fun (q : Part) i => q.dropFrame i .ur 5) p2
      ((p3.ort.filter (fun e => e.2.state == .localE && e.2.fbt.any cut)).map (fun e => e.1)).foldl (fun q i => q.closeFor i .ur) p3
    | _ => p2

/-- An uncorrectable error of a bridge (AER status bit): it is logged, triggers DPC when that is enabled for its severity, and is
otherwise reported by an error message (R342, R363). -/
def Part.bridgeErr (p : Part) (d vb bit : Nat) : Part :=
  let fn := 2 + vb
  let p1 := p.setCf d fn 0x104 bit 1 1
  if p1.cf d fn 0x108 bit 1 = 1 then p1
  else
    let sev := p1.cf d fn 0x10C bit 1
    let en := p1.cf d fn 0x14C 16 2
    if (en = 1 ∧ sev = 1) ∨ en = 2 then p1.dpc d vb 0
    else if p1.cf d fn 0x78 (1 + sev) 1 = 1 then p1.sendUp d 0 (.errMsg d fn (1 + sev)) else p1

/-- Port containment (R341) with its reports to the bridges above (R344, R363); cause 8 reports to none (R341). -/
def Part.containPort (p : Part) (t cause : Nat) : Part :=
  if p.bit (.port t) PORT.CONT_STAT.ACTIVE then p
  else
    let p1 := p.containOne t cause
    let up := p1.bridgesOf t
    let p2 := if cause = 8 then p1 else if p1.role t = 2 then up.foldl (fun q b => q.dllChanged b.1 b.2) p1 else p1
    if cause = 2 then up.foldl (fun q b => q.bridgeErr b.1 b.2 5) p2 else p2

/-- Port containment ends: the port carries traffic again (R343). -/
def Part.releasePort (p : Part) (t : Nat) : Part :=
  let pg := Page.port t
  let q := ((p.setF pg PORT.CONT_STAT.ACTIVE 0).setF pg PORT.CONT_STAT.DONE 0).setF pg PORT.CONT_STAT.HOST_HOLD 0
  q.setPt t { q.pt t with selfDown := false }

/-- The part sends a hot reset to a port, whose link then leaves DL_Active (R112, R113, R340 cause 8) (log entry 39, DEDUCED). -/
def Part.hotReset (p : Part) (t : Nat) : Part :=
  let q := p.setPt t { p.pt t with ltssm := .hotReset, selfDown := true }
  if q.bit (.port t) PORT.PORT_STAT.DL_UP then q.containPort t 8 else q.portDown t .hotReset

/-- A hot reset of the part ends: the link trains again (R112, R519) (log entry 39, DEDUCED). -/
def Part.hotResetEnd (p : Part) (t : Nat) : Part :=
  if (p.pt t).ltssm = .hotReset ∧ !(p.pt t).sbr then p.setPt t { p.pt t with ltssm := .detect } else p

/-- FLR of a bound function (R112, R113, R342): its INTx state clears and configuration requests get RRS until it is over, for which
the PCIe Base Specification allows 100 ms (log entry 35). -/
def Part.flrFn (p : Part) (f : Nat) : Part :=
  let q := (p.intxClearFn f).emit (.flr (p.tf 0 f 0 3 7) (BitVec.ofNat 16 (p.tf 0 f 1 0 16)))
  { q with flr := Sparse.set q.flr 0 f (q.now + 100000000) }

/-- The functions bound to a SHARED bridge. -/
def Part.fnsOf (p : Part) (d vb : Nat) : List Nat := (p.validIn 0).filter (fun f => p.fbtDom f == d && p.tf 0 f 0 16 7 == vb)

/-- DPC Trigger Status is cleared (R342, R343): a port held in Disabled trains again, the functions of a SHARED bridge get an FLR. -/
def Part.dpcClear (p : Part) (d vb : Nat) : Part :=
  if !p.dpcOn d vb then p
  else
    let q := p.setCf d (2 + vb) 0x150 0 3 0
    match q.vbKind d vb with
    | 0 =>
      let t := q.tf 6 (128 * d + vb) 0 3 7
      (q.setPt t { q.pt t with dpc := false, ltssm := if (q.pt t).ltssm = .disabled then .detect else (q.pt t).ltssm }).setF (.port t)
        PORT.CONT_STAT.HOST_HOLD 0
    | 1 => (q.fnsOf d vb).foldl (fun r f => r.flrFn f) q
    | _ => q

/-- A containment in force whose steps are done and that no DPC holds (R343). -/
def Part.contDone (p : Part) (t : Nat) : Bool :=
  p.bit (.port t) PORT.CONT_STAT.ACTIVE && p.bit (.port t) PORT.CONT_STAT.DONE && !p.bit (.port t) PORT.CONT_STAT.HOST_HOLD

/-- CONT_CTL.RELEASE: ends a containment whose steps are done and that no DPC holds; one of cause 8 ends with the part's own reset instead
(R343) (log entry 39, DEDUCED). -/
def Part.contRelease (p : Part) (t : Nat) : Part :=
  let pg := Page.port t
  if p.contDone t && p.getF pg PORT.CONT_STAT.CAUSE != 8 then p.releasePort t else p

/-- The link has regained DL_Active (R343): containment ends under AUTO_REL, or for cause 8 once the part's own reset has ended. -/
def Part.contAuto (p : Part) (t : Nat) : Part :=
  let pg := Page.port t
  if p.bit pg PORT.PORT_STAT.DL_UP ∧ p.contDone t = true ∧ (p.bit pg PORT.CONT_CTL.AUTO_REL ∨ p.getF pg PORT.CONT_STAT.CAUSE = 8) then p.releasePort t
  else p

/-! ### Stations (R39, R350, R355) -/

/-- The ports of a station. -/
def stnPorts (n : Nat) : List Nat := (List.range 8).map (fun k => 8 * n + k)

/-- Every present port of a station is contained and every link of it breaks (R350, R355 step 2). -/
def Part.stopStation (p : Part) (n cause : Nat) : Part :=
  let p1 := ((stnPorts n).filter (fun t => p.present t)).foldl (fun q t => q.containPort t cause) p
  (p1.linkBreak (2 * n) 6).linkBreak (2 * n + 1) 6

/-- The station's scheduler and the auditor's count for it start afresh (R355 step 3). -/
def Part.resetStation (p : Part) (n : Nat) : Part :=
  let p1 := (List.range 10).foldl (fun q t => q.resetTarget n t) p
  let held := (p1.cell.filter (fun e => e.2.state ≠ .free ∧ e.2.xp = n)).length
  { p1 with audit := Sparse.set p1.audit 0 n held, polTok := p1.polTok.filter (fun e => e.1 / 128 != n),
            polAct := p1.polAct.filter (fun e => e.1 / 128 != n) }

/-- A station is taken out of service: its ports stay in Disabled and its links in DISABLED (R356). -/
def Part.stationOut (p : Part) (n : Nat) : Part :=
  let p1 := p.setF .glb GLB.FENCE_STAT.OUT (p.getF .glb GLB.FENCE_STAT.OUT ||| 2 ^ n)
  let p2 := (stnPorts n).foldl (fun (q : Part) t => q.setPt t { q.pt t with ltssm := .disabled, keepDown := true }) p1
  [2 * n, 2 * n + 1].foldl (fun (q : Part) l => q.setLinkState l 0) p2

/-- STATION_CONTAINMENT (R355): a station that fails again within 1 s of its restart is taken out of service. -/
def Part.containStation (p : Part) (n : Nat) : Part :=
  let last := Sparse.get p.stnRest 0 n
  let p1 := p.stopStation n 7
  if last ≠ 0 ∧ p.now < last + 1000000000 then (p1.stationOut n).trigger (.fenced 5)
  else
    let p2 := p1.resetStation n
    let p3 := { p2 with stnRest := Sparse.set p2.stnRest 0 n (p2.now + 1) }
    ((stnPorts n).filter (fun t => p3.present t)).foldl (fun (q : Part) t => q.setPt t { q.pt t with ltssm := .detect }) p3

/-- A station goes out of power (R39): admission at its ports and links stops, what is queued for them is contained, its links go down, its power
switches open. -/
def Part.stationOff (p : Part) (n : Nat) : Part :=
  if !p.stnOn n then p
  else
    let p1 := (p.dropMargin n (List.range 18)).stopStation n 5
    let p2 := [2 * n, 2 * n + 1].foldl (fun (q : Part) l =>
      let q1 := (q.setLinkState l 0)
      q1.setLk l { LinkBlk.reset with unacked := [], since := q1.now }) p1
    let p3 := (stnPorts n).foldl (fun (q : Part) t => q.setPt t { PortBlk.reset with ltssm := .disabled }) p2
    let p4 := (p3.setF .pwr PWR.UNIT_STAT.STN (p3.getF .pwr PWR.UNIT_STAT.STN &&& (65535 - 2 ^ n))).setF .clk CLK.PLL_STAT.STN_LOCK
      (p3.getF .clk CLK.PLL_STAT.STN_LOCK &&& (65535 - 2 ^ n))
    ((p4.setF (.serdes n) SERDES.CLK_STAT.CLKA_PRESENT 0).setF (.serdes n) SERDES.CLK_STAT.CLKB_PRESENT 0).setF .glb
      (GLB.STN_STAT.POWERED.ix n) 0

/-- STATION_DISABLE (R39): EN is written 0 at a station that runs. A station that has gone out of power has completed its disable, and an EN
written to 1 since stays (R39). -/
def Part.stationDisable (p : Part) (n : Nat) : Part :=
  if p.stnOn n then (p.setF .glb (GLB.STN_CFG.EN.ix n) 0).stationOff n else p

/-- A write of STN_CFGn (R37): EN acts at once, a change to 0 takes the station out of power, a change to 1 starts its enable. -/
def Part.stnCfg (p : Part) (n : Nat) (w : BitVec 32) : Part :=
  let was := p.stnEn n
  let q := p.stnCfgWrite n w
  if was && !q.stnEn n then q.stationOff n else if !was && q.stnEn n then q.stnAnnounce n else q

end Sys2Proof.Machine
end

