-- ==== Sys2Proof/Machine/Domain.lean ====
section
/-! DEFINITION. A domain's virtual switch as its host drives it: channel stops, FLR, Bus Master Enable, the mailbox, domain reset,
Secondary Bus Reset, PERST_N assignment (R100 to R119, R378, R379). -/

namespace Sys2Proof.Machine

/-! ### Stopping Drone channels (R100, R102, R113, R379) -/

/-- A channel issues nothing more: its waiting reads are withdrawn, its open reads become late, the data it holds goes. Writes that have
reached the Track stage go on, and their outcomes reach no channel (R379). -/
def Part.dropChan (p : Part) (c : Nat) : Part :=
  let mine := fun (x : Option (Nat × Nat × Nat)) => x.any (fun k => k.1 == c)
  let open_ : List Nat := (p.ort.filter (fun e => mine e.2.chan && (e.2.state == .localE || e.2.state == .origin))).map (fun e => e.1)
  let p0 := (p.waiting.filter (fun w => mine w.chan && w.req.tlp.kind.nonPosted)).foldl (fun (q : Part) w => q.absorb w.req.ing w.req.tlp w.req.acct) p
  let p1 := { p0 with waiting := p.waiting.filter (fun w => !(mine w.chan && w.req.tlp.kind.nonPosted)),
                      backing := Sparse.set p0.backing [] (rdKey c) [],
                      frames := p.frames.map (fun (e : Nat × Option Frame) => (e.1, e.2.map (fun f => if f.kind = 2 ∧ mine f.chan = true then { f with chan := none } else f))) }
  let p2 : Part := open_.foldl (fun (q : Part) i => (q.quarantine i).count .tel 2 1) p1
  let p3 : Part := ((p2.ledger.filter (fun e => e.2.chan == some c)).map (fun e => e.1)).foldl
    (fun (q : Part) i => q.setSl i { q.sl i with chan := none }) p2
  p3.setCh c Chan.reset

/-- BUS_MASTER_DISABLE (R102): every RUNNING channel of the domain enters ABORTED_BME (log entry 56, DEDUCED). -/
def Part.bmeOff (p : Part) (d : Nat) : Part :=
  (p.chansOf d).foldl (fun q x =>
    let pg := Page.drc d x.2
    if q.getF pg DRC.CH_STAT.STATE = 1 then ((q.dropChan x.1).setF pg DRC.CH_STAT.STATE 3).irq pg 2 else q) p

/-! ### FLR of the Control Function (R100, R101, R378) -/

/-- Configuration space of a function returns to its reset values, but for its AER registers when `aer` is set (R100)
(log entry 65, DEDUCED). -/
def Part.resetCfg (p : Part) (d fn : Nat) (aer : Bool) : Part :=
  { p with cfg := p.cfg.filter (fun e => !(e.1 / 1024 == d * 256 + fn && !(aer && decide (64 ≤ e.1 % 1024 ∧ e.1 % 1024 < 82)))),
           doe := if fn = 1 then p.doe.filter (fun e => e.1 != d) else p.doe }

/-- View words of a domain in a range return to their reset values (log entry 65, DEDUCED). -/
def Part.resetView (p : Part) (d lo hi : Nat) : Part :=
  { p with regs := p.regs.filter (fun e => !decide (viewBase d + lo ≤ e.1 ∧ e.1 < viewBase d + hi)),
           regUe := p.regUe.filter (fun a => !decide (viewBase d + lo ≤ a ∧ a < viewBase d + hi)) }

/-- A pending mailbox command completes with a result (R118). -/
def Part.mbAbort (p : Part) (d result : Nat) : Part := if p.mbPending d then p.mbDone d result 0 else p

/-- Reads of the Control Function's BARs that the DEVICE gate or the register target holds are discarded, fence reads included. -/
def Part.dropHeld (p : Part) (d : Nat) : Part :=
  let held := fun (w : Waiting) => w.req.domain == d && w.req.tlp.kind.nonPosted && w.req.target == p.gport 260
  let p1 := (p.waiting.filter held).foldl (fun (q : Part) w => q.absorb w.req.ing w.req.tlp w.req.acct) p
  let p2 := (p1.fences.filter (fun f => f.domain == d)).foldl (fun (q : Part) f => q.gateClose f.gate)
    { p1 with waiting := p1.waiting.filter (fun w => !held w), fences := p1.fences.filter (fun f => f.domain != d) }
  (p2.live.filter (fun x => x.2.dest == .agent 4 && x.2.kind == 1 && x.2.acct == d)).foldl
    (fun q x => (q.discard x.1).gateClose x.2.gate) p2

/-- FLR_INITIATE (R100 steps 1 to 4): channels that are not IDLE enter RESETTING, a pending mailbox command is ABORTED, MSI-X and INTx of
the Control Function stop. -/
def Part.flrStart (p : Part) (d : Nat) : Part :=
  if p.inFlr d then p
  else
    let p1 := ({ p with cfFlr := Sparse.set p.cfFlr false d true }).dropHeld d
    let p2 := (p1.chansOf d).foldl (fun q x =>
      let pg := Page.drc d x.2
      if q.getF pg DRC.CH_STAT.STATE = 0 then q else (q.dropChan x.1).setF pg DRC.CH_STAT.STATE 4) p1
    (p2.mbAbort d 5).wireEdges d

/-- FLR_COMPLETE (R100 step 6, R101): function 1 and its pages are at their reset values, but for LATE_CPL, ORDV and TELV; the wires of the
domain stay as its devices drive them (R95). -/
def Part.flrDone (p : Part) (d : Nat) : Part :=
  if !p.inFlr d then p
  else
    let p1 := ((((((p.resetCfg d 1 true).resetView d 0 0x104).resetView d 0x10C 0x2000).resetView d 0x10000 0x18100).resetView d 0x100000
      0x200000)).wireEdges d
    { p1 with cfFlr := Sparse.set p1.cfFlr false d false,
              msix := p1.msix.filter (fun e => e.1 / 2048 != d) }

/-! ### Mailbox (R117, R118, R421) -/

/-- MB_GO: PENDING, or DONE at once with BAD_LEN, BAD_OPCODE or BUSY; of several that hold, the first in this order (log entry 18, DESIGN
CHOICE). -/
def Part.mbGo (p : Part) (d : Nat) : Part :=
  let pg := Page.cfmb d
  if p.mbPending d then p
  else
    let p1 := p.setF pg CFMB.MB_STAT.SEQ ((p.getF pg CFMB.MB_STAT.SEQ + 1) % 16)
    if 2048 < p1.getF pg CFMB.MB_CMD.LEN then p1.mbDone d 3 0
    else if 0x8000 ≤ p1.getF pg CFMB.MB_CMD.OPCODE then p1.mbDone d 2 0
    else if !p1.md.colonyUp then p1.mbDone d 1 0
    else p1.setF pg CFMB.MB_STAT.STATE 1

/-- Colony's result for the mailbox that MBX.SEL names (R421): it completes the command when that is PENDING under the same SEQ, else it
is STALE. Results the part alone gives are not Colony's to give and count as FAILED. -/
def Part.colonyRsp (p : Part) (w : BitVec 32) : Part :=
  let d := p.getF .mbx MBX.SEL.DOMAIN
  let r := MBX.RSP.RESULT.of w
  let r1 := if r = 0 ∨ r = 2 ∨ r = 3 ∨ r = 4 ∨ r = 7 then r else 7
  if p.mbPending d ∧ MBX.RSP.SEQ.of w = p.getF (.cfmb d) CFMB.MB_STAT.SEQ then p.mbDone d r1 (min 2048 (MBX.RSP.RSP_LEN.of w))
  else (p.setF .mbx MBX.RSP.STALE 1).err .mbx 0

/-! ### Domain reset (R111 to R115) -/

/-- A PERST_N assigned to the domain is still asserted. -/
def Part.perstLow (p : Part) (d : Nat) : Bool :=
  (List.range 16).any (fun i => p.bit .glb (GLB.PERST_MAP.EN.ix i) && p.getF .glb (GLB.PERST_MAP.DOMAIN.ix i) == d && nbit p.ffy.perst i)

/-- The ROLE 1 and ROLE 2 ports of a domain. -/
def Part.domPorts (p : Part) (d : Nat) : List Nat :=
  (List.range 128).filter (fun t => (p.role t == 1 || p.role t == 2) && p.getF (.port t) PORT.PORT_CTL.DOMAIN == d)

/-- Ends the domain reset of a domain whose PERST_N is released: its ports leave hot reset, RRS ends (R113). -/
def Part.domRelease (p : Part) (d : Nat) : Part :=
  (p.domPorts d).foldl (fun (q : Part) t =>
    let q1 := q.setF (.port t) PORT.PORT_STAT.IN_RESET 0
    if q1.role t = 2 then q1.hotResetEnd t else q1) { p with rstDue := Sparse.set p.rstDue 0 d 0 }

/-- A bound function of the resetting domain (R113 step 3, R115): an FLR, but for a physical function with VFs bound to another domain
(log entry 39, DEDUCED). -/
def Part.resetFn (p : Part) (d f : Nat) : Part :=
  let shared := p.tf 0 f 1 16 1 == 0 &&
    (p.validIn 0).any (fun v => p.tf 0 v 1 16 1 == 1 && p.tf 0 v 1 31 1 == 1 && p.tf 0 v 1 17 14 == f && p.fbtDom v != d)
  if shared then
    ((p.setTw 0 f 0 ((Fld.mk 0 1 2 0 0).into (p.tw 0 f 0) 1)).err .tbl 7).irq (.cfn d) 4
  else p.flrFn f

/-- Step 2 of R113: entries of the domain go to QUARANTINE and what waits at Track is discarded (log entry 65, DEDUCED). -/
def Part.dropDomain (p : Part) (d : Nat) : Part :=
  let mine := fun (w : Waiting) => w.req.domain == d
  let p1 := (p.waiting.filter mine).foldl (fun (q : Part) w => q.absorb w.req.ing w.req.tlp w.req.acct) p
  let p2 := { p1 with waiting := p1.waiting.filter (fun w => !mine w), fences := p1.fences.filter (fun f => f.domain != d) }
  let p3 := (p2.chansOf d).foldl (fun q x => q.dropChan x.1) p2
  ((p3.ort.filter (fun e => e.2.domain == d && (e.2.state == .localE || e.2.state == .origin))).map (fun e => e.1)).foldl
    (fun q i => (q.quarantine i).count .tel 2 1) p3

/-- Step 4 of R113: every ledger slot of the domain is freed without an outcome; ledger, journal and fence state reset. -/
def Part.dropLedger (p : Part) (d : Nat) : Part :=
  let p1 := ((p.ledger.filter (fun e => e.2.used && e.2.domain == d)).map (fun e => e.1)).foldl
    (fun q i => (q.gateClose (q.sl i).gate).freeSl i) p
  { p1 with fail := p1.fail.filter (fun e => !(failKey d 0 0 ≤ e.1 && e.1 < failKey (d + 1) 0 0) && e.1 != failDomKey d),
            jrnl := p1.jrnl.filter (fun e => e.1 / 256 != d), gates := p1.gates.filter (fun g => g.domain != d),
            sharers := p1.sharers.filter (fun e => e.1 != d) }

/-- A domain reset (R111, R113, R115), of a domain whose virtual switch is attached or not. Its devices and its virtual switch are reset here, a
Secondary Bus Reset that its host held with them, and the domain stays in reset until the last step's bound has passed and no PERST_N of the
domain holds it (log entry 65, DEDUCED). -/
def Part.domainReset (p : Part) (d : Nat) : Part :=
    let ports := p.domPorts d
    let p0 := { p with rstDue := Sparse.set p.rstDue 0 d (p.now + 5000000) }
    let p1 := (ports.foldl (fun q t => q.setF (.port t) PORT.PORT_STAT.IN_RESET 1) p0).mbAbort d 5
    let p2 := p1.dropDomain d
    let p3 := (ports.filter (fun t => p2.role t == 2)).foldl (fun q t => (q.setPt t { q.pt t with sbr := false }).hotReset t) p2
    let fns := (p3.validIn 0).filter (fun f => p3.fbtDom f == d)
    let p4 := (fns.foldl (fun q f => q.resetFn d f) p3).dropLedger d
    let p5 := (p4.resetView d 0 0x104).resetView d 0x108 0x1000000
    let p6 := { p5 with cfg := p5.cfg.filter (fun e => decide (2 ^ 26 ≤ e.1) || e.1 / 1024 / 256 != d),
                        msix := p5.msix.filter (fun e => e.1 / 2048 != d), cfFlr := Sparse.set p5.cfFlr false d false, doe := p5.doe.filter (fun e => e.1 != d) }
    (ports.foldl (fun q t => q.intxClearPort t) (fns.foldl (fun q f => q.intxClearFn f) p6)).wireEdges d

/-- A domain reset ends once no PERST_N of the domain is asserted (R113) (log entry 65, DEDUCED). -/
def Part.domainResetEnd (p : Part) (d : Nat) : Part := if p.perstLow d then p else p.domRelease d

/-- The domain resets whose last step's bound, 5 ms, has passed end unless a PERST_N holds them (R113) (log entry 65, DEDUCED). -/
def Part.domainResetsDue (p : Part) : Part :=
  p.rstDue.foldl (fun (q : Part) e => if e.2 ≤ q.now then q.domainResetEnd e.1 else q) p

/-- An operation that takes links down: each upstream port that leaves DL_Active by it starts a domain reset of its domain (R111, R348). -/
def Part.hostLinks (p : Part) (f : Part → Part) : Part :=
  let up := (List.range 128).filter (fun t => p.role t == 1 && p.bit (.port t) PORT.PORT_STAT.DL_UP)
  up.foldl (fun (q : Part) t => if q.bit (.port t) PORT.PORT_STAT.DL_UP then q else q.domainReset (p.getF (.port t) PORT.PORT_CTL.DOMAIN)) (f p)

/-! ### Secondary Bus Reset (R112) -/

/-- Secondary Bus Reset of one bridge is set: a PORT bridge's port enters Hot Reset, the functions of a SHARED bridge get an FLR. -/
def Part.sbrOne (p : Part) (d vb : Nat) : Part :=
  match p.vbKind d vb with
  | 0 =>
    let t := p.tf 6 (128 * d + vb) 0 3 7
    (p.setPt t { p.pt t with sbr := true }).hotReset t
  | 1 => (p.fnsOf d vb).foldl (fun q f => q.flrFn f) p
  | _ => p

/-- The bridges a Secondary Bus Reset of function `fn` acts on. -/
def Part.sbrBridges (p : Part) (d fn : Nat) : List Nat := if fn = 0 then p.bridges d else if p.vbPresent d (fn - 2) then [fn - 2] else []

/-- A bridge is under its own Secondary Bus Reset, or under that of function 0. -/
def Part.sbrOn (p : Part) (d vb : Nat) : Bool := p.cf d (2 + vb) 0x3C 22 1 == 1 || p.cf d 0 0x3C 22 1 == 1

/-- SECONDARY_BUS_RESET_SET: of a bridge (function 2 + vb) or of function 0, which also resets the configuration space of every bridge. -/
def Part.sbrSet (p : Part) (d fn : Nat) : Part :=
  if fn = 1 ∨ (2 ≤ fn ∧ !p.vbPresent d (fn - 2)) ∨ p.cf d fn 0x3C 22 1 = 1 then p
  else
    let p1 := (p.sbrBridges d fn).foldl (fun q vb => q.sbrOne d vb) p
    let p2 := if fn = 0 then (p1.bridges d).foldl (fun q vb => q.resetCfg d (2 + vb) false) p1 else p1
    (p2.setCf d fn 0x3C 22 1 1).wireEdges d

/-- SECONDARY_BUS_RESET_CLEAR: the ports leave Hot Reset and train again. -/
def Part.sbrClear (p : Part) (d fn : Nat) : Part :=
  if fn = 1 ∨ p.cf d fn 0x3C 22 1 = 0 then p
  else
    let p1 := p.setCf d fn 0x3C 22 1 0
    (p1.sbrBridges d fn).foldl (fun (q : Part) vb =>
      if q.vbKind d vb = 0 ∧ !q.sbrOn d vb then
        let t := q.tf 6 (128 * d + vb) 0 3 7
        (q.setPt t { q.pt t with sbr := false }).hotResetEnd t
      else q) p1

/-- POWER_CONTROLLER_OFF (R340): Power Controller Control Off in a PORT bridge announces the removal at its port. -/
def Part.powerCtlOff (p : Part) (d vb : Nat) : Part :=
  let p1 := p.setCf d (2 + vb) 0x88 10 1 1
  if p.vbPresent d vb ∧ p.vbKind d vb = 0 then p1.setF (.port (p.tf 6 (128 * d + vb) 0 3 7)) PORT.CONT_CTL.EXPECT_DOWN 1 else p1

/-- PERST_MAP_WRITE (R116): a second enabled PERST_N of a domain is rejected; Firefly takes its copy of EN. -/
def Part.perstMap (p : Part) (i : Nat) (w : BitVec 32) : Part :=
  let p0 := if GLB.PERST_MAP.CONFLICT.of w = 1 then p.setF .glb (GLB.PERST_MAP.CONFLICT.ix i) 0 else p
  let dom := GLB.PERST_MAP.DOMAIN.of w
  let clash := GLB.PERST_MAP.EN.of w == 1 && (List.range 16).any (fun j => j != i && p0.bit .glb (GLB.PERST_MAP.EN.ix j) &&
    p0.getF .glb (GLB.PERST_MAP.DOMAIN.ix j) == dom)
  if clash then (p0.setF .glb (GLB.PERST_MAP.CONFLICT.ix i) 1).err .glb 4
  else
    let en := GLB.PERST_MAP.EN.of w
    let arm := p0.getF .ffy FFY.PERST_ARM.ARM
    ((p0.setF .glb (GLB.PERST_MAP.DOMAIN.ix i) dom).setF .glb (GLB.PERST_MAP.EN.ix i) en).setF .ffy FFY.PERST_ARM.ARM
      (if en = 1 then arm ||| 2 ^ i else arm &&& (65535 - 2 ^ i))

/-! ### Meanings -/

/-- FLR_INITIATE (R100): the host sets Initiate FLR. -/
def execFlrInitiate (d : Fin 64) (s : State) := s.via (fun p => if p.attached d then p.flrStart d else p)

/-- FLR_COMPLETE (R100). -/
def execFlrComplete (d : Fin 64) (s : State) := s.via (fun p => p.flrDone d)

/-- BUS_MASTER_DISABLE (R102): the host clears Command.Bus Master Enable. -/
def execBusMasterDisable (d : Fin 64) (s : State) :=
  s.via (fun p => if p.cf d 1 0x04 2 1 = 1 then (p.setCf d 1 0x04 2 1 0).bmeOff d else p)

/-- DOMAIN_RESET (R113). -/
def execDomainReset (d : Fin 64) (s : State) := s.via (fun p => p.domainReset d)

/-- DOMAIN_RESET_RELEASE (R113). -/
def execDomainResetRelease (d : Fin 64) (s : State) := s.via (fun p => p.domainResetEnd d)

/-- SECONDARY_BUS_RESET_SET (R112). -/
def execSecondaryBusResetSet (d : Fin 64) (fn : Fin 256) (s : State) := s.via (fun p => p.sbrSet d fn)

/-- SECONDARY_BUS_RESET_CLEAR (R112). -/
def execSecondaryBusResetClear (d : Fin 64) (fn : Fin 256) (s : State) := s.via (fun p => p.sbrClear d fn)

/-- POWER_CONTROLLER_OFF (R340). -/
def execPowerControllerOff (d : Fin 64) (vb : Fin 128) (s : State) := s.via (fun p => p.powerCtlOff d vb)

/-- PERST_MAP_WRITE (R116). -/
def execPerstMapWrite (req : Requester) (i : Fin 16) (w : Word) (s : State) :=
  s.via (fun p => p.ifPermitted req .glb (0x1C0 + 4 * i.val) (fun q => q.perstMap i w))

/-- MB_GO (R117). -/
def execMbGo (d : Fin 64) (s : State) := s.via (fun p => p.ifPermitted (.cf d) (.cfmb d) 0x104 (fun q => if q.inFlr d then q else q.mbGo d))

/-- MB_ABORT (R118). -/
def execMbAbort (d : Fin 64) (s : State) :=
  s.via (fun p => p.ifPermitted (.cf d) (.cfmb d) 0x104 (fun q => q.mbAbort d 5))

/-- MB_TIMEOUT (R118): the command has been PENDING for longer than MB_TMO. -/
def execMbTimeout (d : Fin 64) (s : State) := s.via (fun p => p.mbAbort d 6)

/-- NOP (R119): Colony answers opcode 0x0000 with OK and the request data unchanged. -/
def execNop (d : Fin 64) (s : State) :=
  s.via (fun p => if p.mbPending d ∧ p.getF (.cfmb d) CFMB.MB_CMD.OPCODE = 0 then p.mbDone d 0 (p.getF (.cfmb d) CFMB.MB_CMD.LEN) else p)

/-- COLONY_RESPONSE (R421): Colony writes MBX.RSP with GO. -/
def execColonyResponse (w : Word) (s : State) :=
  s.via (fun p => p.ifPermitted .colony .mbx 0x110 (fun q => q.colonyRsp w))

end Sys2Proof.Machine
end

