-- ==== Sys2Proof/Machine/HostCfg.lean ====
section
/-! DEFINITION. Configuration requests of a host: the functions of its virtual switch served from core logic, and what lies below its
bridges (R78 to R81, R85, R86, R99, R245 to R247). -/

namespace Sys2Proof.Machine

/-! ### Registers of a function (layout of log entry 12) -/

/-- Bits of a configuration word that the host writes (log entry 12, PRESUMED). -/
def cfgRw (fn off : Nat) : BitVec 32 :=
  if off = 0x04 then (if fn = 1 then 0x0546 else 0x0547)
  else if off = 0x0C then 0xFF
  else if off = 0x3C then (if fn = 1 then 0xFF else 0x004300FF)
  else if off = 0x44 then 3
  else if off = 0x78 then 0x7FFF
  else if off = 0x80 then 0x0FFB
  else if off = 0x98 then 0xFFFF
  else if off = 0x108 ∨ off = 0x10C ∨ off = 0x114 then 0xFFFFFFFF
  else if off = 0x118 then 0x140
  else if fn = 1 then
    (if off = 0x10 then 0xFF000000 else if off = 0x14 ∨ off = 0x1C then 0xFFFFFFFF else if off = 0x18 then 0xFFF00000
     else if off = 0x50 then 0xC0000000 else if off = 0x150 then 2 else 0)
  else if off = 0x18 then 0x00FFFFFF
  else if off = 0x20 ∨ off = 0x24 then 0xFFF0FFF0
  else if off = 0x28 ∨ off = 0x2C then 0xFFFFFFFF
  else if fn = 0 then (if off = 0x184 then 0x803F0000 else if off = 0x188 then 0xFFFFF03F else if 0x18C ≤ off ∧ off < 0x1B0 then 0xFFFFFFFF else 0)
  else if off = 0x50 then 0x00010000
  else if off = 0x54 then 0xFFFFFFFC
  else if off = 0x58 then 0xFFFF
  else if off = 0x88 then 0x1FFF
  else if off = 0x14C then 0x003F0000
  else if off = 0x164 then 0x007F0000
  else if 0x168 ≤ off ∧ off < 0x178 then 0xFFFFFFFF
  else 0

/-- Bits of a configuration word that a written 1 clears (log entry 12, PRESUMED). -/
def cfgW1c (fn off : Nat) : BitVec 32 :=
  if off = 0x04 then 0xF9000000
  else if off = 0x1C then (if fn = 1 then 0 else 0xF9000000)
  else if off = 0x78 then 0x000F0000
  else if off = 0x104 ∨ off = 0x110 then 0xFFFFFFFF
  else if off = 0x80 then 0xC0000000
  else if 2 ≤ fn ∧ off = 0x88 then 0x011F0000
  else if 2 ≤ fn ∧ off = 0x150 then 0x00000009
  else 0

/-- The DOE mailbox of a domain's Control Function. -/
def Part.doeOf (p : Part) (d : Nat) : DoeBlk := Sparse.get p.doe DoeBlk.reset d

/-- Sets it. -/
def Part.setDoe (p : Part) (d : Nat) (b : DoeBlk) : Part := { p with doe := Sparse.set p.doe DoeBlk.reset d b }

/-- DOE Status: Busy, Error, Data Object Ready (log entry 12, PRESUMED). -/
def DoeBlk.status (b : DoeBlk) : BitVec 32 := BitVec.ofNat 32 (b2n b.serving.isSome + 4 * b2n b.err + 2 ^ 31 * b2n (!b.outw.isEmpty))

/-- The protocols that DOE discovery names: discovery itself, SPDM, and SPDM in a secured session (log entry 12, PRESUMED). -/
def doeProtocol (i : Nat) : BitVec 32 :=
  if i = 0 then 0x01000001 else if i = 1 then 0x02010001 else if i = 2 then 0x00020001 else 0x0000FFFF

/-- DOE Go: the object that the host has written is taken up. The part answers discovery itself and hands an SPDM object to Chitin; an object of
another type is discarded, one whose length is not the words written is an error (R86, R394; log entry 12, PRESUMED). -/
def Part.doeGo (p : Part) (d : Nat) : Part :=
  let b := p.doeOf d
  if b.serving.isSome ∨ b.err = true then p
  else match b.inw with
    | h :: l :: r =>
      if !b.outw.isEmpty ∨ l.toNat % 2 ^ 18 ≠ r.length + 2 then p.setDoe d { b with err := true }
      else if h.toNat % 2 ^ 24 = 1 then p.setDoe d { b with inw := [], outw := [1, 3, doeProtocol ((r.getD 0 0).toNat % 256)] }
      else if h.toNat % 2 ^ 24 = 0x10001 ∨ h.toNat % 2 ^ 24 = 0x20001 then
        (p.setDoe d { b with inw := [], serving := some h }).emit (.doe d b.inw)
      else p.setDoe d { b with inw := [] }
    | _ => p.setDoe d { b with err := true }

/-- A write of DOE Control, with its Abort and Go bits (log entry 12, PRESUMED). -/
def Part.doeControl (p : Part) (d : Nat) (set : BitVec 32) : Part :=
  if set.getLsbD 0 = true then p.setDoe d DoeBlk.reset else if set.getLsbD 31 = true then p.doeGo d else p

/-- The host writes a word of the object, which must be a whole word (log entry 12, PRESUMED). -/
def Part.doePush (p : Part) (d : Nat) (v m : BitVec 32) : Part :=
  let b := p.doeOf d
  if m = 0xFFFFFFFF ∧ b.serving = none ∧ b.err = false then p.setDoe d { b with inw := b.inw ++ [v] } else p

/-- A write of the read mailbox takes its word off (log entry 12, PRESUMED). -/
def Part.doePop (p : Part) (d : Nat) : Part := p.setDoe d { p.doeOf d with outw := (p.doeOf d).outw.drop 1 }

/-- The port below a bridge whose link its registers show: the upstream port for function 0, the port of a PORT bridge. -/
def Part.linkPort (p : Part) (d fn : Nat) : Option Nat :=
  if fn = 0 then some (p.uport d) else if 2 ≤ fn ∧ p.vbKind d (fn - 2) = 0 then some (p.tf 6 (128 * d + (fn - 2)) 0 3 7) else none

/-- L1 Exit Latency as a port advertises it (R429): more than 64 µs, which is coded 7, while STBY_MS is not 0 or the part is in PARTITIONED,
and else 32 to 64 µs, coded 6, within which a port leaves L1.2 (log entry 12, PRESUMED). -/
def Part.l1Exit (p : Part) : Nat := if p.getF .ffy FFY.IDLE_CTL.STBY_MS ≠ 0 ∨ p.md.mode = .partitioned then 7 else 6

/-- A configuration word as the host reads it: the stored word with the bits the part derives: Interrupt Status (CFN.INTX_STAT.CF_WIRE),
the multi-function bit of an internal device (R79), Presence Detect State, 0 at an EMPTY bridge, whose slot Hive keeps in step with its expander
(R80, R83, R344), the L1 Exit Latency of a port's Link Capabilities (R429), Link Status (log entry 12, PRESUMED). -/
def Part.cfgRead (p : Part) (d fn off : Nat) : BitVec 32 :=
  let w := p.cw d fn off
  if fn = 1 ∧ off = 0x04 then (Fld.mk 0 19 1 0 0).into w (b2n (p.cfWire d && !p.inFlr d))
  else if 2 ≤ fn ∧ off = 0x0C ∧ fn % 8 = 2 then
    (Fld.mk 0 23 1 0 0).into w (b2n ((List.range 7).any (fun k => p.vbPresent d (fn - 2 + k + 1))))
  else if 2 ≤ fn ∧ off = 0x88 then (Fld.mk 0 22 1 0 0).into w (b2n (p.vbKind d (fn - 2) != 2))
  else if fn = 1 ∧ off = 0x154 then (p.doeOf d).status
  else if fn = 1 ∧ off = 0x15C then (p.doeOf d).outw.headD 0
  else if off = 0x7C ∧ fn ≠ 1 then (Fld.mk 0 15 3 0 0).into w p.l1Exit
  else if off = 0x80 then
    match p.linkPort d fn with
    | some t =>
      let pg := Page.port t
      let v := (p.getF pg PORT.PORT_STAT.RATE + 1) + 16 * p.getF pg PORT.PORT_STAT.WIDTH + 2 ^ 13 * p.getF pg PORT.PORT_STAT.DL_UP
      (w &&& 0xC000FFFF) ||| (BitVec.ofNat 32 (v % 2 ^ 14 * 65536))
    | none => w
  else w

/-- Memory of a configuration write's bytes in a word, as value and mask. -/
def cfgBytes (t : Tlp) : BitVec 32 × BitVec 32 :=
  let o := t.addr.toNat % 4
  let n := min t.data.length (4 - o)
  let v := (List.range n).foldl (fun a i => a + (t.data.getD i 0).toNat * 256 ^ (o + i)) 0
  let m := (List.range n).foldl (fun a i => a + 255 * 256 ^ (o + i)) 0
  (BitVec.ofNat 32 v, BitVec.ofNat 32 m)

/-- A configuration write to a function of the virtual switch takes effect (log entry 12, PRESUMED). -/
def Part.cfgWrite (p : Part) (d fn off : Nat) (v m : BitVec 32) : Part :=
  let old := p.cw d fn off
  let rw := cfgRw fn off &&& m
  let new := ((old &&& ~~~rw) ||| (v &&& rw)) &&& ~~~(v &&& m &&& cfgW1c fn off)
  let set := v &&& m
  let rose := fun (b : Nat) => new.getLsbD b && !old.getLsbD b
  let fell := fun (b : Nat) => !new.getLsbD b && old.getLsbD b
  if fn = 1 ∧ off = 0x78 ∧ set.getLsbD 15 = true then (p.setCw d fn off new).flrStart d
  else if fn ≠ 1 ∧ off = 0x3C then
    let keep := p.setCw d fn off ((new &&& ~~~(0x00400000 : BitVec 32)) ||| (old &&& 0x00400000))
    if rose 22 then keep.sbrSet d fn else if fell 22 then keep.sbrClear d fn else keep
  else if fn = 1 ∧ off = 0x150 then (p.setCw d fn off new).doeControl d set
  else if fn = 1 ∧ off = 0x158 then p.doePush d v m
  else if fn = 1 ∧ off = 0x15C then p.doePop d
  else if 2 ≤ fn ∧ off = 0x150 ∧ set.getLsbD 0 = true then
    let q := p.dpcClear d (fn - 2)
    q.setCw d fn off (q.cw d fn off &&& ~~~(set &&& cfgW1c fn off))
  else if 2 ≤ fn ∧ off = 0x14C then
    let q := p.setCw d fn off new
    if set.getLsbD 22 = true ∧ q.cf d fn 0x14C 16 2 ≠ 0 then q.dpc d (fn - 2) 3 else q
  else if 2 ≤ fn ∧ off = 0x88 then
    let q := p.setCw d fn off new
    if rose 10 then q.powerCtlOff d (fn - 2) else q
  else
    let q := p.setCw d fn off new
    if fn = 1 ∧ off = 0x04 then
      let q1 := if fell 2 then q.bmeOff d else q
      let q2 := if rose 2 then q1.vecUnmaskAll d else q1
      q2.wireEdges d
    else if fn = 1 ∧ off = 0x44 then (if p.inD3 d && !q.inD3 d then q.vecUnmaskAll d else q).wireEdges d
    else if fn = 1 ∧ off = 0x50 then
      let q1 := if rose 31 then q.msixEnabled d else q
      (if fell 30 then q1.vecUnmaskAll d else q1).wireEdges d
    else q

/-! ### Bound functions (R246, R247) -/

/-- Emulated BAR register `k` of a bound function as the host reads it: the address bits of its size with the type bits of a 64-bit or
32-bit memory BAR (log entry 37, DEDUCED). -/
def Part.vbarRead (p : Part) (f k : Nat) : BitVec 32 :=
  let n := p.slotLog2 f k
  let up := k ≠ 0 ∧ n = 0 ∧ p.slotWide f (k - 1) = true
  let wide := k < 5 ∧ p.slotWide f k = true
  if n ≠ 0 then (p.vbar f k &&& BitVec.ofNat 32 (2 ^ 32 - 2 ^ (min n 32))) ||| (if wide then 4 else 0)
  else if up then p.vbar f k &&& BitVec.ofNat 32 (2 ^ 32 - 2 ^ (p.slotLog2 f (k - 1) - 32))
  else 0

/-- The host writes an emulated BAR register. -/
def Part.vbarWrite (p : Part) (f k : Nat) (v m : BitVec 32) : Part :=
  { p with cfg := Sparse.set p.cfg 0 (vbarKey f k) ((p.vbar f k &&& ~~~m) ||| (v &&& m)) }

/-- A bound function's FLR is not over. -/
def Part.fnFlr (p : Part) (f : Nat) : Bool := decide (p.now < Sparse.get p.flr 0 f)

/-- What the part itself answers of a bound function's configuration space: a word of its emulated header or of the VF BARs of its SR-IOV
capability at `sriov`; and whether a write to it is discarded (R247). -/
def Part.fnOwn (p : Part) (f off : Nat) (sriov : Option Nat) : Option (BitVec 32) × Bool :=
  let lock := p.tf 0 f 0 31 1 == 1
  if 0x10 ≤ off ∧ off < 0x28 then (some (p.vbarRead f ((off - 0x10) / 4)), true)
  else if off = 0x30 then (some 0, true)
  else match sriov with
    | some c =>
      if c + 0x24 ≤ off ∧ off < c + 0x3C then (some 0, true)
      else (none, lock && (off == c + 8 || off == c + 0x10 || off == c + 0x3C))
    | none => (none, false)

/-! ### Answering -/

/-- A configuration request is answered from core logic with a status and, for a successful read, a word. -/
def Part.cfgAnswer (p : Part) (t : Nat) (m : Tlp) (st : CplStatus) (w : BitVec 32) : Part :=
  let n := w.toNat
  let data := if st = .sc ∧ m.kind = .cfgRead then (List.range 4).map (fun i => BitVec.ofNat 8 (n / 256 ^ i)) else []
  (p.absorb (.port t) m (p.getF (.port t) PORT.PORT_CTL.DOMAIN)).sendAt t data.length (.cfgAnswer t (mkCpl m.rid m.tag m.id st data.length 0 data m.tc))

/-- A request to a function of the virtual switch. Function 1 answers RRS while it is in FLR (R85). -/
def Part.cfgServe (p : Part) (t d fn : Nat) (m : Tlp) : Part :=
  let off := m.addr.toNat / 4 * 4
  if fn = 1 ∧ p.inFlr d then p.cfgAnswer t m .rrs 0
  else if m.kind = .cfgRead then p.cfgAnswer t m .sc (p.cfgRead d fn off)
  else
    let b := cfgBytes m
    (p.cfgWrite d fn off b.1 b.2).cfgAnswer t m .sc 0

/-- A request that goes on to a device (R80, R245): to a port as it is but for its type, which is 0 on the bridge's own secondary bus and 1 below
it; to a bound function as PRID, with type 0. -/
def Part.cfgForward (p : Part) (t d vb lp : Nat) (fbt : Option Nat) (m : Tlp) : Part :=
  if p.role lp = 0 then p.answerReq (.port t) m (p.classOf t m.tc) (p.fabricId d) d .ur none
  else
    let m1 := match fbt with
      | some f => { m with id := BitVec.ofNat 16 (p.tf 0 f 1 0 16), atType := 0 }
      | none => { m with atType := b2n (m.id.toNat / 256 != p.cf d (2 + vb) 0x18 8 8) }
    p.track (Looked.mk (.port t) d (p.fabricId d) (.host m.rid) d (p.classOf t m.tc) false m1 (p.gport lp) false 0 false none fbt m1.addr none
      false) none none

/-- The host's write sets Initiate FLR of a function below a bridge: its INTx bits are cleared as it undergoes the FLR (R98). -/
def Part.hostFlr (p : Part) (lp : Nat) (fbt : Option Nat) (id : BitVec 16) : Part :=
  match fbt with
  | some f => p.intxClearFn f
  | none => { p with intx := Sparse.set p.intx 0 (lp * 65536 + id.toNat) 0 }.wireEdges (p.getF (.port lp) PORT.PORT_CTL.DOMAIN)

/-- A request below bridge `vb` (R80, R98, R99, R112, R247, R248, R342). `flr` tells that it is a write that sets Initiate FLR. -/
def Part.cfgBelow (p : Part) (t d vb : Nat) (m : Tlp) (sriov : Option Nat) (flr : Bool) : Part :=
  let flr := flr && m.kind == .cfgWrite
  match p.vbKind d vb with
  | 0 =>
    let lp := p.tf 6 (128 * d + vb) 0 3 7
    (if flr then p.hostFlr lp none m.id else p).cfgForward t d vb lp none m
  | 1 =>
    match (p.fnsOf d vb).find? (fun f => p.vrid f == m.id) with
    | none => p.cfgAnswer t m .ur 0
    | some f =>
      let off := m.addr.toNat / 4 * 4
      let own := p.fnOwn f off sriov
      let b := cfgBytes m
      if p.fnFlr f || p.sbrOn d vb then p.cfgAnswer t m .rrs 0
      else if p.tf 0 f 0 1 2 = 2 ∨ p.dpcOn d vb = true then p.cfgAnswer t m .ur 0
      else if m.kind = .cfgRead then
        (match own.1 with
          | some w => p.cfgAnswer t m .sc w
          | none => p.cfgForward t d vb (p.tf 0 f 0 3 7) (some f) m)
      else if own.2 then
        (if 0x10 ≤ off ∧ off < 0x28 then p.vbarWrite f ((off - 0x10) / 4) b.1 b.2 else p).cfgAnswer t m .sc 0
      else (if flr then p.hostFlr (p.tf 0 f 0 3 7) (some f) m.id else p).cfgForward t d vb (p.tf 0 f 0 3 7) (some f) m
  | _ => p.cfgAnswer t m .ur 0

/-- A configuration request of an attached domain's host, routed by bus number (R78): the bus B it reaches functions 0 and 1 on, the
internal bus, or a bus below a bridge. A write captures bus B. -/
def Part.cfgRoute (p : Part) (t d : Nat) (m : Tlp) (sriov : Option Nat) (flr : Bool) : Part :=
  let bus := m.id.toNat / 256
  let df := m.id.toNat % 256
  let sec := p.cf d 0 0x18 8 8
  let sub := p.cf d 0 0x18 16 8
  let inside := sec ≠ 0 ∧ sec ≤ bus ∧ bus ≤ sub
  if ¬inside then
    let p1 := if m.kind = .cfgWrite then p.setCf d 0 0x18 0 8 bus else p
    if df ≤ 1 then p1.cfgServe t d df m else p1.cfgAnswer t m .ur 0
  else if p.cf d 0 0x3C 22 1 = 1 then p.cfgAnswer t m .rrs 0
  else if bus = sec then
    (if df < 128 ∧ p.vbPresent d df then p.cfgServe t d (2 + df) m else p.cfgAnswer t m .ur 0)
  else
    match (p.bridges d).find? (fun v => decide (p.cf d (2 + v) 0x18 8 8 ≤ bus ∧ bus ≤ p.cf d (2 + v) 0x18 16 8) && p.cf d (2 + v) 0x18 8 8 != 0) with
    | some vb => p.cfgBelow t d vb m sriov flr
    | none => p.cfgAnswer t m .ur 0

/-- A configuration request arrives at a PCIe port (R85, R99). -/
def Part.cfgRequest (p : Part) (t : Nat) (m : Tlp) (sriov : Option Nat) (flr : Bool) : Part :=
  if p.bit (.port t) PORT.CONT_STAT.ACTIVE then p.bumpF (.port t) PORT.CONT_STAT.DISCARDED 1
  else if !p.bit (.port t) PORT.PORT_STAT.DL_UP || !p.md.mode.core || p.ffy.chipRst then p
  else
    let d := p.getF (.port t) PORT.PORT_CTL.DOMAIN
    let p := if p.role t = 1 then (p.count (.telv d 0) 0 1).count (.telv d 0) 1 m.data.length else p
    if p.md.mode = .boot ∨ p.md.mode = .maintenance ∨ p.md.mode = .test ∨ p.role t = 0 then p.cfgAnswer t m .rrs 0
    else if p.role t ≠ 1 then p.cfgAnswer t m .ur 0
    else if !p.attached d || p.domReset d then p.cfgAnswer t m .rrs 0
    else p.captured t d (p.classOf t m.tc) m (fun q => q.cfgRoute t d m sriov flr)

/-- CONFIG_REQUEST (R81): `tlp` is the request, its `id` the function asked; `sriov` where the function asked has an SR-IOV capability; `flr` that
it is a write that sets Initiate FLR of a device's function (log entry 12, PRESUMED). -/
def execConfigRequest (t : Fin 128) (tlp : Tlp) (sriov : Option Nat) (flr : Bool) (s : State) :=
  s.via (fun p => if tlp.kind = .cfgRead ∨ tlp.kind = .cfgWrite then p.cfgRequest t tlp sriov flr else p)

end Sys2Proof.Machine
end

