-- ==== Sys2Proof/Machine/Owner.lean ====
section
/-! DEFINITION. Ownership records as they change (R406), what a window or a grant reaches, and grants as they are installed and removed
(R410 to R412). -/

namespace Sys2Proof.Machine

/-! ### Records (R406, R408) -/

/-- A domain has a record. -/
def Trust.holds (t : Trust) (d : Nat) : Bool := t.own.any (fun e => e.2.dom == d)

/-- The fabric ID fixed for a domain is forgotten once it owns nothing (R408) (log entry 38, DEDUCED). -/
def Trust.forget (t : Trust) (d : Nat) : Trust := if t.holds d then t else { t with fixed := Sparse.set t.fixed 0 d 0 }

/-- Writes a record; none makes the resource FREE. -/
def Trust.setOwn (t : Trust) (r : Res) (o : Option Own) : Trust :=
  let rest := t.own.filter (fun e => e.1 ≠ r)
  let t1 := { t with own := match o with
    | some x => rest ++ [(r, x)]
    | none => rest }
  match t.ownOf r with
  | some x => t1.forget x.dom
  | none => t1

/-- A resource is unbound: OWNED(D) becomes QUARANTINED(D) (R406) (log entry 38, DEDUCED). -/
def Trust.unbind (t : Trust) (r : Res) : Trust :=
  match t.ownOf r with
  | some (.owned d) => t.setOwn r (some (.quarantined d))
  | _ => t

/-- The local port a resource is at (log entry 38, DEDUCED). -/
def Res.portOf : Res → Nat
  | .port t => t
  | .fn t _ => t
  | .range t _ _ => t

/-- Whether a domain may bind a resource: it is FREE, OWNED(D) or QUARANTINED(D) (R408) (log entry 38, DEDUCED). -/
def Trust.mayBind (t : Trust) (r : Res) (d : Nat) : Bool :=
  match t.ownOf r with
  | none => true
  | some x => x.dom == d

/-- The resource is OWNED(D). -/
def Trust.ownedBy (t : Trust) (r : Res) (d : Nat) : Bool := t.ownOf r == some (.owned d)

/-! ### What a range of addresses reaches (R408, R409) -/

/-- Bytes that two ranges of addresses share, as [lo, hi). -/
def sharedBytes (lo hi lo2 hi2 : Nat) : Nat := min hi hi2 - max lo lo2

/-- Every resource that the addresses [lo, hi) reach at a local port is owned by a domain: at a pool port, ranges it owns cover them all; at a
ROLE 3 port, the functions whose BAR slots they meet are all its own, and there is one; else it owns the port. -/
def Part.ownsAll (p : Part) (t : Trust) (lp lo hi d : Nat) : Bool :=
  let met := (t.rangesAt lp).filter (fun e => sharedBytes lo hi e.1 (e.1 + 2 ^ e.2) != 0)
  if t.pools.contains lp && met != [] then
    met.all (fun e => t.ownedBy (.range lp e.1 e.2) d) && (met.map (fun e => sharedBytes lo hi e.1 (e.1 + 2 ^ e.2))).sum == hi - lo
  else if p.role lp = 3 then
    let fns := (p.validIn 0).filter (fun f => p.tf 0 f 0 3 7 == lp && (List.range 6).any (fun k =>
      p.slotLog2 f k != 0 && sharedBytes lo hi (p.physBase f k) (p.physBase f k + 2 ^ p.slotLog2 f k) != 0))
    fns != [] && fns.all (fun f => t.ownedBy (.fn lp (BitVec.ofNat 16 (p.tf 0 f 1 0 16))) d)
  else t.ownedBy (.port lp) d

/-! ### Grants (R410, R412) -/

/-- A grant table entry; index 0 means no grant. -/
def Trust.grant (t : Trust) (i : Nat) : Option Grant := if i = 0 then none else Sparse.get t.grants none i

/-- A grant's target is on this chip and no longer OWNED by its grantor, so it is revoked (R412). A CAPTURE grant has no target. -/
def Part.grantLost (p : Part) (t : Trust) (g : Grant) : Bool :=
  g.target / 512 % 128 == p.chip && g.kind != 2 &&
    !(match p.domIdx g.grantor with
      | some d => if g.kind = 0 then p.ownsAll t (g.target % 512) g.base (g.base + 2 ^ g.log2) d else t.ownedBy (.port (g.target % 512)) d
      | none => false)

/-- The CAPTURE grants installed on this chip, as Antenna knows them (R466). -/
def Trust.captureGrants (t : Trust) : List (Nat × Nat) :=
  t.grants.filterMap (fun e => match e.2 with
    | some g => if g.kind = 2 then some (g.grantor, g.grantee) else none
    | none => none)

/-- Windows and the multicast entry that relied on a grant become invalid (R412). -/
def Part.dropRelying (p : Part) (i : Nat) (g : Grant) : Part :=
  let p1 := ((p.validIn 1).filter (fun w => p.tf 1 w 6 0 16 == i)).foldl (fun (q : Part) w => q.setTw 1 w 0 (q.tw 1 w 0 &&& 0xFFFFFFFE)) p
  if g.kind = 1 then p1.setTw 3 g.mcg 0 (p1.tw 3 g.mcg 0 &&& 0xFFFFFFFE) else p1

/-- A grant leaves this chip's table (R412). -/
def State.dropGrant (s : State) (i : Nat) : State :=
  match s.trust.grant i with
  | none => s
  | some g =>
    let t1 := { s.trust with grants := Sparse.set s.trust.grants none i none }
    let p1 := s.part.dropRelying i g
    { s with trust := t1, part := { p1 with ant := { p1.ant with grants := t1.captureGrants } } }

/-- Grants whose target has left its grantor are revoked (R412). -/
def State.settleGrants (s : State) : State :=
  ((s.trust.grants.filter (fun e => match e.2 with
    | some g => s.part.grantLost s.trust g
    | none => false)).map (fun e => e.1)).foldl State.dropGrant s

/-! ### Resets before a record becomes FREE (R407) -/

/-- Resets a resource: a hot reset of a port that was a downstream port, Disabled and back to Detect for one that was an upstream port, whose
containment of cause 8 ends with that (R343), an FLR
of a function, a zero fill of a range. Answers whether the reset could be done: a range's fill needs the port's link
(log entry 39, DEDUCED). -/
def Part.resetRes (p : Part) (t : Trust) (r : Res) : Part × Bool :=
  match r with
  | .port lp =>
    if (p.pt lp).keepDown then (p, true)
    else if Sparse.get t.lastRole 0 lp = 1 then
      let q := if p.bit (.port lp) PORT.PORT_STAT.DL_UP then p.containPort lp 8 else p
      let r := q.portDown lp .detect
      (if r.contDone lp && r.getF (.port lp) PORT.CONT_STAT.CAUSE == 8 then r.releasePort lp else r, true)
    else ((p.hotReset lp).hotResetEnd lp, true)
  | .fn lp prid => (match p.fbtOf lp prid with
    | some f => p.flrFn f
    | none => p.emit (.flr lp prid), true)
  | .range lp b k => if p.bit (.port lp) PORT.PORT_STAT.DL_UP then (p.emit (.zeroFill lp b k), true) else (p, false)

/-- A resource is reset and its record freed (R406, R407); answers whether it is FREE (log entry 39, DEDUCED). -/
def State.freeRes (s : State) (r : Res) : State × Bool :=
  let x := s.part.resetRes s.trust r
  if x.2 then ({ s with part := x.1, trust := s.trust.setOwn r none }.settleGrants, true) else (s, false)

/-- A domain is detached: every record of it is reset and freed; one whose reset cannot be done stays QUARANTINED (R406). -/
def State.detach (s : State) (d : Nat) : State :=
  ((s.trust.own.filter (fun e => e.2.dom == d)).map (fun e => e.1)).foldl (fun (r : State) x =>
    let y := r.freeRes x
    if y.2 then y.1 else { r with trust := r.trust.unbind x }.settleGrants) s

end Sys2Proof.Machine
end

