-- ==== Sys2Proof/Machine/Upkeep.lean ====
section
/-! DEFINITION. Port and station containment as commands, crossbar planes, the shared buffer's sizes and units, the credit auditor, ageing
and stuck declarations (R10, R39, R170, R180 to R190, R196, R209 to R215, R340 to R358, R396, R444). -/

namespace Sys2Proof.Machine

/-! ### PCIe links -/

/-- A PCIe port reaches DL_Active (R95, R340, R343, R519): not while it is held in Disabled or Hot Reset, at a width within its own, on its
lowest or, reversed, its highest lanes (R56), in FLIT mode at 64 and 128 GT/s (R69). Its lanes start from their entries at the rate, with
what they measure, lowest lane first (R50 to R55). -/
def Part.linkUp (p : Part) (t rate width : Nat) (flit reversed : Bool) (meas : List LaneMeas) : Part :=
  let pg := Page.port t
  let b := p.pt t
  if !p.stnOn (t / 8) || !p.present t || b.keepDown || b.ltssm == .disabled || b.ltssm == .hotReset || p.bit pg PORT.PORT_STAT.DL_UP ||
      !p.widthFits t width then p
  else
    let p0 := (((p.trainedLanes t width reversed).zipIdx).foldl (fun (q : Part) e =>
      q.startLane (t / 8) e.1 (rateGroup rate) (meas[e.2]?)) p)
    let p1 := ((((p0.setF pg PORT.PORT_STAT.LINK_UP 1).setF pg PORT.PORT_STAT.DL_UP 1).setF pg PORT.PORT_STAT.RATE rate).setF pg
      PORT.PORT_STAT.WIDTH width).setF pg PORT.PORT_STAT.FLIT (b2n (flitAt rate flit))
    let p2 := ((p1.setPt t { b with ltssm := .l0 }).setF pg PORT.CONT_CTL.EXPECT_DOWN 0).contAuto t
    if p2.role t = 1 then p2.wiresAgain (p2.getF pg PORT.PORT_CTL.DOMAIN) else p2

/-- A PCIe port leaves DL_Active (R340, R111): containment with cause 1, 8 or 2, and at an upstream port a domain reset. A port that trains
without having reached it returns to Detect (R519). -/
def Part.linkDown (p : Part) (t : Nat) : Part :=
  let pg := Page.port t
  if !p.bit pg PORT.PORT_STAT.DL_UP then
    (if (p.pt t).ltssm = .training ∨ (p.pt t).ltssm = .recovery then (p.setPt t { p.pt t with ltssm := .detect }).retrain t else p)
  else
    let cause := if p.bit pg PORT.CONT_CTL.EXPECT_DOWN then 1 else if (p.pt t).selfDown then 8 else 2
    let p1 := (p.setF pg PORT.CONT_CTL.EXPECT_DOWN 0).containPort t cause
    let p2 := if p1.bit pg PORT.PORT_STAT.DL_UP then p1.portDown t .detect else p1
    if p2.role t = 1 then p2.domainReset (p2.getF pg PORT.PORT_CTL.DOMAIN) else p2

/-- Ownership records of functions that a surprise removal has marked REMOVED (R406). -/
def Trust.afterRemoval (t : Trust) (p : Part) : Trust :=
  { t with own := t.own.map (fun e => match e with
      | (.fn lp prid, .owned d) =>
        if (match p.fbtOf lp prid with
          | some f => p.tf 0 f 0 1 2 == 2
          | none => false) then (.fn lp prid, .quarantined d) else e
      | _ => e) }

/-- An operation on the part that may remove devices by surprise: their records follow (R406), and grants on them are revoked (R412). -/
def State.viaRemoval (s : State) (f : Part → Part) : Host.Outcome State Fault Refusal :=
  .next ({ s with part := f s.part, trust := s.trust.afterRemoval (f s.part) }.settleGrants)

/-- A DPC trigger of a present bridge whose trigger is enabled (R342): by an unmasked uncorrectable error, or by software. -/
def Part.dpcTrigger (p : Part) (d vb : Nat) (sw : Bool) : Part :=
  if p.cf d (2 + vb) 0x14C 16 2 = 0 then p else p.dpc d vb (if sw then 3 else 0)

/-! ### Units and pools (R10, R190, R196) -/

/-- Cells of a quarter in use. -/
def Part.quarterUsed (p : Part) (q : Nat) : Bool := p.cell.any (fun e => e.1 / 65536 == q && e.2.state != .free)

/-- One unit of PWR.UNIT_REQ is asked on or off. -/
def Part.unitAsk (p : Part) (u : LoadStep) (f : Fld) (bit : Nat) (on : Bool) : Part :=
  let isOn := nbit (p.getF .pwr f) bit
  if on then (if isOn || p.ffy.steps.contains u then p else p.announce u)
  else if !isOn then p
  else p.setF .pwr f (p.getF .pwr f &&& (2 ^ f.w - 1 - 2 ^ bit))

/-- A buffer quarter is asked on or off: a quarter with cells in use stays on (R190), and quarter 0 serves from BOOT on
(log entry 72, DEDUCED). -/
def Part.quarterAsk (p : Part) (q : Nat) (on : Bool) : Part :=
  if !on && nbit (p.getF .pwr PWR.UNIT_STAT.QTR) q && p.quarterUsed q then
    ((p.setF .buf BUF.CFG_STAT.CFG_REJ 1).err .buf 2).setF .pwr PWR.UNIT_REQ.QTR (p.getF .pwr PWR.UNIT_REQ.QTR ||| 2 ^ q)
  else if q = 0 ∧ !on then p
  else p.unitAsk (.quarter q) PWR.UNIT_STAT.QTR q on

/-- A write of PWR.UNIT_REQ (R10): only Chitin changes COLONY (R450) (log entry 72, DEDUCED). -/
def Part.unitReq (p : Part) (req : Requester) (w : BitVec 32) : Part :=
  let v := w.toNat
  let colony := if req = .chitin then nbit v 7 else p.bit .pwr PWR.UNIT_REQ.COLONY
  let p0 := if req = .colony ∧ nbit v 7 ≠ p.bit .pwr PWR.UNIT_REQ.COLONY then p.viol req true 5 (Page.pwr.base + 0x130) else p
  let p1 := p0.wr (Page.pwr.base + 0x130) (BitVec.ofNat 32 (v % 128 + 128 * b2n colony))
  let p2 := (List.range 4).foldl (fun (q : Part) k => q.quarterAsk k (nbit v k)) p1
  let p3 := (List.range 2).foldl (fun (q : Part) k => q.unitAsk (.drone k) PWR.UNIT_STAT.DRN k (nbit v (4 + k))) p2
  let p4 := p3.unitAsk .antenna PWR.UNIT_STAT.ANT 0 (nbit v 6)
  let p5 := if nbit v 6 then p4 else p4.setF .ant ANT.CTL.EN 0
  let p6 := p5.unitAsk .colony PWR.UNIT_STAT.COLONY 0 colony
  if colony || !p.bit .pwr PWR.UNIT_STAT.COLONY then p6 else { (p6.setColonyUp false) with boot := { p6.boot with run := false } }

/-- A write of a pool size or an account's minimum (R196): refused when S would fall below 4,096 (log entry 67, DEDUCED). -/
def Part.poolSize (p : Part) (o : Nat) (w : BitVec 32) : Part :=
  let cpl := p.getF .buf BUF.CPL_RSV.CELLS
  let esc := p.getF .buf BUF.ESC_RSV.CELLS
  let mgmt := p.getF .buf BUF.MGMT_RSV.CELLS
  let n := w.toNat % 2 ^ 18
  let try_ := fun (s : Nat) (g : Part → Part) => if s < 4096 then (p.setF .buf BUF.CFG_STAT.CFG_REJ 1).err .buf 2 else g p
  if o = 0x100 then try_ (p.sharedFor n esc mgmt none) (fun q => q.setF .buf BUF.CPL_RSV.CELLS n)
  else if o = 0x104 then try_ (p.sharedFor cpl n mgmt none) (fun q => q.setF .buf BUF.ESC_RSV.CELLS n)
  else if o = 0x108 then try_ (p.sharedFor cpl esc n none) (fun q => q.setF .buf BUF.MGMT_RSV.CELLS n)
  else if 0x400 ≤ o ∧ o < 0x500 then
    let a := (o - 0x400) / 4
    try_ (p.sharedFor cpl esc mgmt (some (a, n))) (fun q => q.wr (Page.buf.base + 0x400 + 4 * a) (w &&& 0x1FFFFF))
  else p

/-! ### Ageing and stuck targets (R209 to R211) -/

/-- A frame that has partly crossed to ports and agents alone: its targets discard it once its cells, marked ABORT, have all landed (R176). -/
def Frame.finishes (f : Frame) : Bool :=
  decide (0 < f.matched) && (match f.dest with
    | .chip _ => false
    | .mc _ => f.mset.all (fun t => decide (16 ≤ t.1 ∨ t.2 < 8))
    | _ => true)

/-- A frame that is abandoned without an answer. One that has partly crossed to ports and agents goes on with ABORT set and is discarded where it
lands; of another what is left goes, a link that has begun it ends it early, sequences that no link has taken are voided (R176, R312). -/
def Part.abandonFrame (p : Part) (i : Nat) : Part :=
  match p.fr i with
  | none => p
  | some f =>
    if f.finishes then
      p.setFr i (some { f with nulled := true, open_ := false, ort := none, slot := none, gate := none, combine := none, record := none, chan := none })
    else ((p.discard i).truncate i f).voidFor f

/-- The frame heads its VOQ with a cell that is still QUEUED. -/
def Part.headsVoq (p : Part) (i : Nat) (f : Frame) : Bool :=
  (p.voq f.voq).head? == some i && decide (f.matched < f.cells.length) && !f.abort && !f.nulled

/-- AGE_DROP (R209): a droppable head older than DROP_US. -/
def Part.ageDrop (p : Part) (i : Nat) : Part :=
  match p.fr i with
  | none => p
  | some f =>
    if f.kind = 3 ∧ p.headsVoq i f = true ∧ max 1 (p.getF .buf BUF.AGE_CTL.DROP_US) * 1000 < p.age f.ts then
      (p.abandonFrame i).count .buf 4 (f.cells.length - f.matched) (some f.domf)
    else p

/-- Records a stuck declaration (BUF.STUCK_STAT). -/
def Part.stuckMark (p : Part) (xp sub chip : Nat) (fabric : Bool) : Part :=
  ((((((p.setF .buf BUF.STUCK_STAT.XP xp).setF .buf BUF.STUCK_STAT.SUB sub).setF .buf BUF.STUCK_STAT.CHIP chip).setF .buf BUF.STUCK_STAT.FABRIC
    (b2n fabric)).setF .buf BUF.STUCK_STAT.NEW 1).err .buf 1)

/-- QUEUED cells of the frames for a destination, which a stuck declaration discards. -/
def Part.queuedFor (p : Part) (d : Dest) : Nat :=
  ((p.framesFor d).map (fun i => match p.fr i with
    | some f => if f.kind = 3 then 0 else f.cells.length - f.matched
    | none => 0)).sum

/-- A target of this chip, or a destination chip, is declared stuck (R210, R338) (log entry 63, DEDUCED). -/
def Part.declareStuck (p : Part) (d : Dest) : Part :=
  let a := d.at
  let p1 := p.count .buf 5 (p.queuedFor d)
  match d with
  | .port t => (p1.stuckMark a.1 a.2 0 false).containPort t 4
  | .agent k => (({ (p1.stuckMark a.1 a.2 0 false) with stuck := (d :: p.stuck).eraseDups }).dropAllFor d .ca 6).containAgent k
  | .chip k => (p1.stuckMark 0 0 k true).dropAllFor d .ca 6
  | .mc _ => p1

/-- The targets in the residual fan-out of a multicast frame that are not open (R210): every member while its first cell has not been read, then
those its residue register still lists for that cell (log entry 63, DEDUCED). -/
def Part.mcShut (p : Part) (i : Nat) (f : Frame) : List (Nat × Nat) :=
  let due := fun (xp : Nat) => f.matched == 0 || p.residues.any (fun e => e.2.any (fun r => r.frame == i && r.k == 0 && r.fanout.contains xp))
  f.mset.filter (fun t => due t.1 && !p.targetOpen t.1 t.2 f.kind f.cls f.cells.length f.vc)

/-- STUCK_DECLARATION (R209, R210): a lossless head older than LL_US (log entry 63, DEDUCED). -/
def Part.stuckHead (p : Part) (i : Nat) : Part :=
  match p.fr i with
  | none => p
  | some f =>
    if f.kind = 3 ∨ p.headsVoq i f = false ∨ p.age f.ts ≤ p.llNs then p
    else match f.dest with
      | .mc _ =>
        let shut := p.mcShut i f
        let p1 := shut.foldl (fun (q : Part) t =>
          if 16 ≤ t.1 then (match (List.range 6).find? (fun a => (Dest.agent a).at == t) with
            | some a => q.declareStuck (.agent a)
            | none => q)
          else if t.2 < 8 then q.declareStuck (.port (8 * t.1 + t.2)) else q.stuckMark t.1 t.2 0 false) p
        if shut.any (fun t => decide (t.1 < 16 ∧ 8 ≤ t.2)) then
          (p1.count .buf 5 (f.cells.length - f.matched)).dropFrame i .ca 6
        else p1
      | d => p.declareStuck d

/-! ### The credit auditor (R213 to R215, R358) -/

/-- A port is under containment or in a domain reset, so the auditor leaves out what involves it (R214). -/
def Part.portHeld (p : Part) (t : Nat) : Bool := p.bit (.port t) PORT.CONT_STAT.ACTIVE || p.bit (.port t) PORT.PORT_STAT.IN_RESET

/-- A station is out of power or under station containment (R214). -/
def Part.stnHeld (p : Part) (n : Nat) : Bool :=
  !p.stnOn n || (stnPorts n).any (fun t => p.bit (.port t) PORT.CONT_STAT.ACTIVE && p.getF (.port t) PORT.CONT_STAT.CAUSE == 7)

/-- R138 holds for a VC of an ACTIVE link: what the allotment has is held or granted and not yet received (R213 identity 3). -/
def LinkBlk.creditsAgree (b : LinkBlk) (v : Nat) : Bool :=
  b.allot.getD v 0 == b.charged.getD v 0 + (b.granted.getD v 0 + 65536 - b.received.getD v 0) % 65536

/-- The first identity that does not hold, with the crossbar port it is attributed to (31 chip-wide). Identities over counts that the
state does not keep twice hold by construction: 5 and 6. What involves a station, link or port in reset or containment is left out (R214)
(log entry 64, DEDUCED). -/
def Part.auditFind (p : Part) : Option (Nat × Nat) :=
  let event := Sparse.get p.audit 0 32
  let one := (List.range 20).find? (fun i => !(decide (i < 16) && p.stnHeld i) &&
    (p.cell.filter (fun e => e.2.state != .free && e.2.xp == i)).length != Sparse.get p.audit 0 i)
  let two := (List.range 64).find? (fun a => !(p.attached a && p.portHeld (p.uport a)) &&
    p.occOf a != p.poolCells (.acct a) + p.backed (.acct a))
  let three := p.link.find? (fun e => p.linkState e.1 == 5 && !p.stnHeld (e.1 / 2) && !(List.range 8).all e.2.creditsAgree)
  let four := p.backing.find? (fun e => decide (e.1 < 384) && !p.portHeld (e.1 / 3) &&
    decide ((e.2.map (fun b => b.cells)).sum < (e.2.map (fun b => b.cost)).sum))
  let seven := p.tok.find? (fun e => !p.stnHeld (e.1 / 128) && decide (250 * p.shpEff e.1 < e.2))
  if event ≠ 0 then some (8, event - 1)
  else match one, two, three, four, seven with
    | some i, _, _, _, _ => some (1, i)
    | none, some a, _, _, _ => some (2, if p.attached a then p.uport a / 8 else 31)
    | none, none, some e, _, _ => some (3, e.1 / 2)
    | none, none, none, some e, _ => some (4, e.1 / 3 / 8)
    | none, none, none, none, some e => some (7, e.1 / 128)
    | none, none, none, none, none => none

/-- The rebuild of R358: account occupancy and the auditor's cell counts from the cell records and the backing held
(log entry 64, DEDUCED). -/
def Part.auditRebuild (p : Part) : Part :=
  let p1 := (List.range 64).foldl (fun (q : Part) a => q.setOcc a (q.poolCells (.acct a) + q.backed (.acct a))) p
  (List.range 20).foldl (fun (q : Part) i =>
    { q with audit := Sparse.set q.audit 0 i (q.cell.filter (fun e => e.2.state != .free && e.2.xp == i)).length }) p1

/-- AUDIT_ROUND (R213, R214): a violation starts station containment, at an agent port the containment of its agents, and chip-wide the
rebuild and FENCED; when one comes again after a rebuild, every station is out (R358) (log entry 64, DEDUCED). -/
def Part.auditRound (p : Part) : Part :=
  let p0 := p.count .buf 7 1
  match p0.auditFind with
  | none => p0
  | some (id, xp) =>
    let p1 := ((p0.setF .buf BUF.AUD_STAT.VIOL 1).setF .buf BUF.AUD_STAT.IDENT id).setF .buf BUF.AUD_STAT.XP xp
    let p1 := if id = 7 then p1.err (.sch (xp % 16)) 2 else p1
    let p2 := { (p1.err .buf 0) with audit := Sparse.set p1.audit 0 32 0 }
    if xp < 16 then p2.containStation xp
    else if xp < 20 then ((List.range 6).filter (fun a => (Dest.agent a).at.1 == xp)).foldl (fun q a => q.containAgent a) p2
    else
      let again := Sparse.get p2.audit 0 33 != 0
      let p3 := p2.auditRebuild
      let p4 := { p3 with audit := Sparse.set p3.audit 0 33 1 }
      let p5 := if again then (List.range 16).foldl (fun (q : Part) n => (q.stopStation n 7).stationOut n) p4 else p4
      p5.trigger (.fenced 4)

/-- SNAP (R215) (log entry 73, DEDUCED). -/
def Part.snap (p : Part) : Part :=
  let n := fun (s : CellState) => (p.cell.filter (fun e => e.2.state == s)).length
  let b := Page.buf.base
  ((((p.wr (b + 0x128) (BitVec.ofNat 32 (262144 - n .queued - n .inFlight))).wr (b + 0x12C) (BitVec.ofNat 32 (n .queued))).wr (b + 0x130)
    (BitVec.ofNat 32 (n .inFlight))).wr (b + 0x134) (BitVec.ofNat 32 p.withheldCells)).setF .buf BUF.AUD_STAT.SNAP_VALID 1

/-! ### No plane left (R357) -/

/-- Stations that FENCE_STAT.OUT names since a fault has left no plane are taken out of service (R356, R357). -/
def Part.planesLost (p : Part) (f : Part → Part) : Part :=
  p.hostLinks (fun q =>
    let r := f q
    if r.planes.isEmpty && r.getF .glb GLB.FENCE_STAT.OUT == 0xFFFF && q.getF .glb GLB.FENCE_STAT.OUT != 0xFFFF then
      (List.range 16).foldl (fun (x : Part) n => (x.stopStation n 7).stationOut n) r
    else r)

/-! ### Meanings: ports and stations -/

/-- PCIE_LINK_UP (R95): a port reaches DL_Active at a rate code and width; `flit` tells that both ends advertise FLIT mode. -/
def execPcieLinkUp (t : Fin 128) (rate : Fin 7) (width : Fin 17) (flit reversed : Bool) (meas : List LaneMeas) (s : State) :=
  s.via (fun p => p.linkUp t rate width flit reversed meas)

/-- PCIE_LINK_DOWN (R340). -/
def execPcieLinkDown (t : Fin 128) (s : State) := s.viaRemoval (fun p => p.linkDown t)

/-- PORT_CONTAINMENT (R341) by a cause of CONT_STAT. -/
def execPortContainment (t : Fin 128) (cause : Fin 9) (s : State) :=
  s.viaRemoval (fun p => if cause.val = 0 then p else p.hostLinks (fun q => q.containPort t cause))

/-- CONTAINMENT_FORCE (R340). -/
def execContainmentForce (req : Requester) (t : Fin 128) (s : State) :=
  s.via (fun p => p.ifPermitted req (.port t) 0x110 (fun q => q.hostLinks (fun r => r.containPort t 6)))

/-- EXPECT_DOWN (R340). -/
def execExpectDown (req : Requester) (t : Fin 128) (s : State) :=
  s.via (fun p => p.ifPermitted req (.port t) 0x110 (fun q => q.setF (.port t) PORT.CONT_CTL.EXPECT_DOWN 1))

/-- CONTAINMENT_RELEASE (R343). -/
def execContainmentRelease (req : Requester) (t : Fin 128) (s : State) :=
  s.via (fun p => p.ifPermitted req (.port t) 0x110 (fun q => q.contRelease t))

/-- CONTAINMENT_AUTO_RELEASE (R343): the link has regained DL_Active. -/
def execContainmentAutoRelease (t : Fin 128) (s : State) := s.via (fun p => p.contAuto t)

/-- DPC_TRIGGER (R342). -/
def execDpcTrigger (d : Fin 64) (vb : Fin 128) (sw : Bool) (s : State) := s.via (fun p => p.dpcTrigger d vb sw)

/-- DPC_CLEAR (R342). -/
def execDpcClear (d : Fin 64) (vb : Fin 128) (s : State) := s.via (fun p => p.dpcClear d vb)

/-- STATION_CONTAINMENT (R355). -/
def execStationContainment (n : Fin 16) (s : State) := s.via (fun p => p.hostLinks (fun q => q.containStation n))

/-- STATION_DISABLE (R39): STN_CFG.EN is written 0. -/
def execStationDisable (n : Fin 16) (s : State) :=
  s.via (fun p => p.hostLinks (fun q => q.stationDisable n))

/-- STATION_CONFIG_WRITE (R37). -/
def execStationConfigWrite (req : Requester) (n : Fin 16) (w : Word) (s : State) :=
  s.via (fun p => p.ifPermitted req .glb (0x140 + 4 * n) (fun q => q.hostLinks (fun r => r.stnCfg n w)))

/-- STATION_PLL_UNLOCK (R444): the station is contained and stays disabled until EN is written again, for which the model clears EN
(log entry 71, DEDUCED). -/
def execStationPllUnlock (n : Fin 16) (s : State) := s.via (fun p => p.hostLinks (fun q => (q.setF .glb (GLB.STN_CFG.EN.ix n) 0).stationOff n))

/-- LINK_IDE_ESTABLISH (R396): Chitin has keyed link IDE on a port (log entry 70, DEDUCED). -/
def execLinkIdeEstablish (t : Fin 128) (s : State) :=
  s.via (fun p => if p.bit (.port t) PORT.PORT_STAT.DL_UP then p.setPt t { p.pt t with ide := true } else p)

/-! ### Meanings: planes -/

/-- MATCH_PLANE (R170): one cell time of every enabled plane. -/
def execMatchPlane (s : State) := s.via (fun p => p.cellTimeStep)

/-- LANDING_ACK (R161): 0 good, 1 uncorrectable, 2 RANK mismatch, 3 corrected. -/
def execLandingAck (plane : Fin 4) (result : Fin 4) (s : State) := s.via (fun p => p.planesLost (fun q => q.landingAck plane result))

/-- PLANE_WATCHDOG (R180). -/
def execPlaneWatchdog (p : Fin 4) (s : State) := s.via (fun q => q.planesLost (fun r => r.planeWatchdog p))

/-- PLANE_LOST (R181): the plane's own check finds an error of LOST_CAUSE, seen by crossbar port `xp`. -/
def execPlaneLost (p : Fin 4) (cause : Fin 8) (xp : Fin 20) (s : State) := s.via (fun q => q.planesLost (fun r => r.planeFault p cause xp))

/-- BIST_GO (R185). -/
def execBistGo (req : Requester) (p : Fin 4) (s : State) := s.via (fun q => q.ifPermitted req (.xbp p) 0x100 (fun r => r.bistGo p))

/-- BIST_END (R185). -/
def execBistEnd (p : Fin 4) (pass : Bool) (s : State) := s.via (fun q => q.planesLost (fun r => r.bistEnd p pass))

/-- REJOIN (R185). -/
def execRejoin (req : Requester) (p : Fin 4) (s : State) := s.via (fun q => q.ifPermitted req (.xbp p) 0x100 (fun r => r.rejoin p))

/-- PLANE_JOIN_APPLY (R185). -/
def execPlaneJoinApply (s : State) := s.via (fun p => p.joinApply)

/-- RETIRE (R180): the plane is lost with cause 4. -/
def execRetire (req : Requester) (p : Fin 4) (s : State) := 
  s.via (fun q => q.ifPermitted req (.xbp p) 0x100 (fun r => r.planesLost (fun x => x.losePlane p 4 (x.getF (.xbp p) XBP.PLANE_STAT.DET_XP))))

/-! ### Meanings: buffer -/

/-- POOL_SIZE_WRITE (R196): the word at `addr` in the BUF page. -/
def execPoolSizeWrite (req : Requester) (addr : Nat) (w : Word) (s : State) :=
  s.via (fun p => if Page.buf.base ≤ addr ∧ addr < Page.buf.base + 0x1000 then
    p.ifPermitted req .buf (addr - Page.buf.base) (fun q => q.poolSize (addr - Page.buf.base) w) else p)

/-- UNIT_REQUEST (R10). -/
def execUnitRequest (req : Requester) (w : Word) (s : State) := s.via (fun p => p.ifPermitted req .pwr 0x130 (fun q => q.unitReq req w))

/-- AUDIT_ROUND (R213). -/
def execAuditRound (s : State) := s.via (fun p => p.hostLinks Part.auditRound)

/-- SNAP (R215). -/
def execSnap (req : Requester) (s : State) := s.via (fun p => p.ifPermitted req .buf 0x120 (fun q => q.snap))

/-- AGE_DROP (R209). -/
def execAgeDrop (f : Nat) (s : State) := s.via (fun p => p.ageDrop f)

/-- STUCK_DECLARATION (R210). -/
def execStuckDeclaration (f : Nat) (s : State) := s.via (fun p => p.hostLinks (fun q => q.stuckHead f))

end Sys2Proof.Machine
end

