-- ==== Sys2Proof/Machine/Fabric.lean ====
section
/-! DEFINITION. Cocoon units as a chip receives them: checks, transit, the resequencer, probes, and what the units deliver (R297 to R323,
R260 to R262, R349). -/

namespace Sys2Proof.Machine

/-! ### Flows (R310 to R315) -/

/-- Distance from sequence `b` up to `a`, modulo 2^24. -/
def seqDist (a b : Nat) : Nat := (a + 2 ^ 24 - b % 2 ^ 24) % 2 ^ 24

/-- An empty receive entry. -/
def RxFlow.empty : RxFlow := RxFlow.mk .none 0 [] [] [] 0 none []

/-- A receive entry. -/
def Part.rxf (p : Part) (k : Nat) : RxFlow := Sparse.get p.rxFlow RxFlow.empty k

/-- Stores a receive entry. -/
def Part.setRxf (p : Part) (k : Nat) (e : RxFlow) : Part := { p with rxFlow := Sparse.set p.rxFlow RxFlow.empty k e }

/-- Receive entries in use. -/
def Part.rxUsed (p : Part) : Nat := (p.rxFlow.filter (fun e => e.2.state != .none)).length

/-- The flow of a unit (R279): source, destination or group, class. -/
def CocoonHdr.flow (h : CocoonHdr) : Nat := flowKey h.src h.dst (if h.mcf then h.mcg else 0) h.cls

/-- Sequence `q` lies in a voided range. -/
def RxFlow.isVoid (e : RxFlow) (q : Nat) : Bool := e.voided.any (fun v => decide (seqDist q v.1 < v.2))

/-- present() of R313. -/
def RxFlow.present (e : RxFlow) (q : Nat) : Bool := e.held.any (fun c => c.seq == q) || e.early.contains q

/-- The release loop of R313: cells move to `rel` in sequence order, voided ranges are passed over. -/
def RxFlow.advance (e : RxFlow) : Nat → RxFlow
  | 0 => e
  | n + 1 =>
    match e.held.find? (fun c => c.seq == e.expected) with
    | some c => RxFlow.advance { e with held := e.held.filter (fun x => x.seq != c.seq), rel := e.rel ++ [c],
                                        expected := (e.expected + 1) % 2 ^ 24 } n
    | none =>
      if e.early.contains e.expected then
        RxFlow.advance { e with early := e.early.erase e.expected, expected := (e.expected + 1) % 2 ^ 24 } n
      else match e.voided.find? (fun v => decide (seqDist e.expected v.1 < v.2)) with
        | some v =>
          -- up to the next present sequence of the range, or past its end
          let left := v.2 - seqDist e.expected v.1
          let next := ((e.held.map (fun c => c.seq) ++ e.early).map (fun q => seqDist q e.expected)).foldl min left
          RxFlow.advance { e with voided := if next = left then e.voided.erase v else e.voided, expected := (e.expected + next) % 2 ^ 24 } n
        | none => e

/-- Steps enough for `advance` to reach its end. -/
def RxFlow.work (e : RxFlow) : Nat := 2 * (e.held.length + e.early.length + e.voided.length) + 1

/-- Keeps the time since which a hole, or cells held as UNSYNCED, have stood (R315). -/
def RxFlow.watch (e : RxFlow) (now : Nat) : RxFlow :=
  { e with holeAt := if e.held = [] then none else match e.holeAt with
      | some t => some t
      | none => some now }

/-- Cells of a unit whose frame is whole. -/
def unitCells (h : CocoonHdr) : Nat := cellsOf (32 + h.ilen)

/-! ### Units the chip cannot use (R302, R306) -/

/-- A unit's ILEN lies outside its kind's range, or its kind is reserved (R302). -/
def badUnit (h : CocoonHdr) : Bool :=
  match h.kind with
  | 1 => decide (h.ilen < 12 ∨ 4352 < h.ilen)
  | 2 => decide (h.ilen < 4 ∨ 4352 < h.ilen)
  | 3 => decide (h.ilen < 4 ∨ 4352 < h.ilen)
  | 4 => h.ilen != 8
  | 5 => h.ilen != 12
  | 6 => h.ilen != 8
  | 7 => h.ilen != 16
  | _ => true

/-- The answers owed for a unit that is dropped on its way, to its source (R302, R306, R349): a non-posted request by SYNTH_CPL, a
tracked write by COMMIT_ACK; a multicast unit's goes to the chip above. -/
def Part.answerUnit (p : Part) (l : Nat) (h : CocoonHdr) (i : Inner) (st : CplStatus) (cause : Nat) : Part :=
  let h1 := if h.mcf then { h with src := p.getF (.smw l) SMW.LINK_STAT.PEER_CHIP * 512 + 260 } else h
  let own := { h1 with dst := p.chip * 512 + 260 }
  match i with
  | .tlp t =>
    if t.kind.nonPosted then p.sendReply own h.ortx (.synthCpl t.rid t.tag (synthCode st) (t.addr.toNat % 128) t.expects)
    else if t.kind = .memWrite then p.ackUnit own (some cause) else p
  | _ => p

/-- A unit's sequences are voided: in the receive entry when this chip is its destination, by a VOID towards it otherwise (R312). -/
def Part.voidSeq (p : Part) (h : CocoonHdr) (s n : Nat) : Part :=
  if n = 0 then p
  else if h.mcf ∨ h.dst / 512 % 128 = p.chip then
    let e := p.rxf h.flow
    if e.state = .none then p
    else
      let e1 := { e with voided := e.voided ++ [(s % 2 ^ 24, n)] }
      p.setRxf h.flow ((if e.state = .synced then e1.advance e1.work else e1).watch p.now)
  else p.voidProbe { Frame.blank with kind := 2, cls := h.cls, dest := .chip (h.dst / 512 % 128), domf := h.domain, srcXp := 19 } h s n

/-! ### Delivery (R260 to R262, R277, R318, R321, R409 and R114 at the destination) -/

/-- A completion that a unit carries reaches its ORIGIN entry (R260, R261) (log entry 76, DEDUCED). -/
def Part.originCpl (p : Part) (h : CocoonHdr) (c : Tlp) (xp sub : Nat) (cs : List Nat) : Part :=
  let e := p.oe h.ortx
  let mine := e.target == h.src && e.origRid == c.rid && e.origTag == c.tag
  if e.state = .origin ∧ mine = true then
    (if badCount e c then (p.unexpected false).freeCells cs
     else p.deliver h.ortx { c with ep := c.ep || h.poison } h.cls xp sub .cpl (some cs))
  else if e.state = .quarantine ∧ e.wasLocal = false ∧ mine = true then (p.lateCpl e).freeCells cs
  else (p.unexpected false).freeCells cs

/-- A SYNTH_CPL reaches its ORIGIN entry (R318): UR is delivered as UR, CA and completion timeout as CA, and the entry closes
(log entry 76, DEDUCED). -/
def Part.synthIn (p : Part) (h : CocoonHdr) (rid : BitVec 16) (tag status : Nat) : Part :=
  let e := p.oe h.ortx
  let mine := e.target == h.src && e.origRid == rid && e.origTag == tag
  if e.state = .origin ∧ mine = true then (p.answer e (if status = 1 then .ur else .ca) 0).freeEnt h.ortx
  else if e.state = .quarantine ∧ e.wasLocal = false ∧ mine = true then p.lateCpl e
  else p.unexpected false

/-- A COMMIT_ACK arrives (R277, R278, R322, R323): for local port 260 it answers a combine entry, else a ledger slot. -/
def Part.ackIn (p : Part) (h : CocoonHdr) (failed : Bool) (cause : Nat) : Part :=
  let outcome := if failed then some cause else none
  if h.dst % 512 = 260 then
    let i := h.ortx % 1024
    let c := p.cb i
    let br := c.branches.find? (fun l => p.getF (.smw l) SMW.LINK_STAT.PEER_CHIP == h.src / 512 % 128)
    match c.used && c.gen == h.ortx / 4096, br with
    | true, some l => p.combinePart i (some l) outcome
    | _, _ => p.count .fab 7 1
  else
    let s := p.sl (h.ortx % 4096)
    let p1 := if !failed && s.used && s.gen == h.ortx / 4096 then p.count .ord 2 1 (some (p.fabricId s.domain)) else p
    p1.outcomeAt (h.ortx % 4096) (h.ortx / 4096) outcome

/-- A frame that a received unit becomes at this chip; a released unit's SRC_SUB is that of the link it came in on (R157, R165)
(log entry 58, DEDUCED). -/
def Part.unitFrame (p : Part) (h : CocoonHdr) (i : Inner) (xp sub vc l : Nat) : Frame :=
  { Frame.blank with body := .unit h i, len := 32 + h.ilen, kind := if vc = 6 then 3 else i.cellKind, cls := h.cls, esc := decide (3 ≤ vc ∧ vc ≤ 5),
                     srcXp := xp, srcSub := sub, acct := (p.domIdx h.domain).getD 0, domf := h.domain, fromLink := some l }

/-- A unit's frame goes to a local port or agent of this chip, or is answered there. -/
def Part.toPort (p : Part) (h : CocoonHdr) (i : Inner) (xp vc l : Nat) (cs : List Nat) : Part :=
  let lp := h.dst % 512
  let f := { (p.unitFrame h i xp (8 + l % 2) vc l) with dest := destOf lp }
  let kill := fun (st : CplStatus) (cause : Nat) => (p.owe f st cause).freeCells cs
  if 128 ≤ lp ∧ (agentOf lp).isNone then kill .ur 4
  else if lp < 128 ∧ p.role lp = 0 then kill .ur 5
  else
    let reset := match i with
      | .tlp t => decide (lp < 128) && (match p.ownerOf lp none t.addr.toNat with
        | some o => some o != p.domIdx h.domain && p.domReset o
        | none => false)
      | _ => false
    if reset then kill .ca 7
    else match p.blocked f.dest with
      | some (st, cause) => kill st cause
      | none => p.queueStored f cs

/-- A multicast unit is copied to the members of its group at this chip (R321) (log entry 57, DEDUCED). -/
def Part.toGroup (p : Part) (h : CocoonHdr) (i : Inner) (xp vc l : Nat) (cs : List Nat) : Part :=
  let f := { (p.unitFrame { h with hops := h.hops - 1 } i xp (8 + l % 2) vc l) with dest := .mc h.mcg }
  let p1 := p.queueStored f cs
  if p1.nextFrame = p.nextFrame then p1 else p1.giveEntry p.nextFrame

/-- A whole unit has been released for this chip (R314, R317). -/
def Part.deliverUnit (p : Part) (h : CocoonHdr) (i : Inner) (xp vc l : Nat) (cs : List Nat) : Part :=
  let unwraps := !h.mcf || !(p.mcPorts h.mcg).isEmpty || !(p.mcAgents h.mcg).isEmpty
  let p1 := if unwraps then p.count .ccn 1 1 (some h.domain) else p
  if h.mcf then p1.toGroup h i xp vc l cs
  else match i with
    | .tlp t => if t.kind = .cpl then p1.originCpl h t xp (8 + l % 2) cs else p1.toPort h i xp vc l cs
    | .commitAck failed cause => (p1.ackIn h failed cause).freeCells cs
    | .synthCpl rid tag st _ _ => (p1.synthIn h rid tag st).freeCells cs
    | .mctp _ => p1.toPort h i xp vc l cs
    | .hive _ _ => p1.toPort h i xp vc l cs
    | _ => p1.freeCells cs

/-- The cells of one frame leave the resequencer: a truncated frame is discarded, a corrupt one too, with its answers (R302, R312). -/
def Part.deliverFrame (p : Part) (xp : Nat) (cs : List RsqCell) : Part :=
  let ids := cs.map (fun c => c.cell)
  match cs.head?, cs.getLast? with
  | some a, some z =>
    match a.unit, z.unit with
    | .unit h i, .unit hz _ =>
      if hz.kind = 0 then ((p.err .ccn 0).answerUnit a.link h i .ur 4).freeCells ids
      else if a.k ≠ 0 ∨ cs.length < unitCells h then p.freeCells ids
      else p.deliverUnit h i xp a.vc a.link ids
    | _, _ => p.freeCells ids
  | _, _ => p

/-- Delivers the frames that are whole at the front of a flow's released cells. -/
def Part.drainRel (p : Part) (k xp : Nat) : Nat → Part
  | 0 => p
  | n + 1 =>
    let e := p.rxf k
    let head := e.rel.takeWhile (fun c => !c.last)
    match e.rel.drop head.length with
    | [] => p
    | z :: rest => Part.drainRel ((p.setRxf k { e with rel := rest }).deliverFrame xp (head ++ [z])) k xp n

/-- Runs the release of a flow (R313) and delivers what it frees (log entry 58, DEDUCED). -/
def Part.releaseFlow (p : Part) (k xp : Nat) : Part :=
  let e := p.rxf k
  let e1 := (e.advance e.work).watch p.now
  (p.setRxf k e1).drainRel k xp (e1.rel.length + 1)

/-- A frame with RO set whose cells are all held leaves ahead of any hole (R314) (log entry 58, DEDUCED). -/
def Part.releaseEarly (p : Part) (k xp : Nat) (h : CocoonHdr) : Part :=
  let e := p.rxf k
  let mine := e.held.filter (fun c => decide (seqDist c.seq h.fseq < unitCells h))
  if h.ro ∧ mine.length = unitCells h then
    let order := (List.range (unitCells h)).filterMap (fun j => mine.find? (fun c => c.k == j))
    let e1 : RxFlow := { e with held := e.held.filter (fun c => !decide (seqDist c.seq h.fseq < unitCells h)),
                                early := e.early ++ mine.map (fun c => c.seq) }
    (p.setRxf k (e1.watch p.now)).deliverFrame xp order
  else p

/-- Where the flow's cells are queued (R314): the station of its destination port or its agent's crossbar port; for a multicast flow the
station its cells came in at (log entry 57, DEDUCED). -/
def Part.flowXp (p : Part) (h : CocoonHdr) (l : Nat) : Nat :=
  let _ := p
  if h.mcf then l / 2 else (destOf (h.dst % 512)).at.1

/-- The frames of a flow's held cells, by first sequence, in sequence order from EXPECTED on (log entry 58, DEDUCED). -/
def RxFlow.frames (e : RxFlow) : List (List RsqCell) :=
  let all := e.rel ++ e.held
  let first := fun (c : RsqCell) => (c.seq + 2 ^ 24 - c.k) % 2 ^ 24
  let keys := (all.map first).eraseDups
  let sorted := keys.foldl (fun acc x => acc.filter (fun y => decide (seqDist y (e.expected + 2 ^ 23) ≤ seqDist x (e.expected + 2 ^ 23))) ++ [x] ++
    acc.filter (fun y => decide (seqDist x (e.expected + 2 ^ 23) < seqDist y (e.expected + 2 ^ 23)))) []
  sorted.map (fun s => (List.range 18).filterMap (fun j => all.find? (fun c => first c == s && c.k == j)))

/-- The hole of a flow of `h0` has stood too long, or a sequence lies too far ahead (R315, R349): whole frames go on, every other frame is
discarded and answered if its first cell is held; the missing sequences are given up and the entry becomes STALE (log entry 58, DEDUCED). -/
def Part.flowHole (p : Part) (h0 : CocoonHdr) (l0 : Nat) : Part :=
  let k := h0.flow
  let e := p.rxf k
  let xp := p.flowXp h0 l0
  let p1 := ((((((p.setF .ccn CCN.HOLE_LAST.SRC h0.src).setF .ccn CCN.HOLE_LAST.DST (if h0.mcf then 0xFFFF else h0.dst)).setF .ccn
    CCN.HOLE_LAST.CLASS h0.cls).setF .ccn CCN.HOLE_LAST.FSEQ e.expected).err .ccn 2).setRxf k
      { RxFlow.empty with state := .stale, expected := e.expected, last := p.now })
  e.frames.foldl (fun (q : Part) cs =>
    match cs.head? with
    | none => q
    | some a =>
      match a.unit with
      | .unit h i =>
        if a.k = 0 ∧ cs.length = unitCells h then q.deliverFrame xp cs
        else
          let q1 := if a.k = 0 then q.answerUnit a.link h i .ca 8 else q
          q1.freeCells (cs.map (fun c => c.cell))
      | .local _ => q) p1

/-- The hole timeout of a flow that holds cells (R315). -/
def Part.holeTimeout (p : Part) (k : Nat) : Part :=
  let e := p.rxf k
  match (e.rel ++ e.held).head? with
  | some c => match c.unit with
    | .unit h _ => p.flowHole h c.link
    | .local _ => p
  | none => p

/-- rsq_cell of R313 for a cell of a unit; `again` while a cell held as UNSYNCED is taken after its OPEN (log entry 58, DEDUCED). -/
def Part.rsqTake (p : Part) (xp : Nat) (again : Bool) (c : RsqCell) : Part :=
  match c.unit with
  | .local _ => p
  | .unit h _ =>
    let k := h.flow
    let e0 := p.rxf k
    let full := e0.state == .none && decide (32768 ≤ p.rxUsed)
    let p1 := if full then p.err .ccn 5 else p
    let e : RxFlow := { e0 with last := p1.now, state := if full then .none else if e0.state = .synced then .synced else .unsynced }
    let held := fun (q : Part) => if again then q else q.count .ccn 3 1
    if e.isVoid c.seq then ((p1.setRxf k e).count .ccn 5 1).freeCell c.cell
    else if e.state ≠ .synced then
      (if e.present c.seq then ((p1.setRxf k e).count .ccn 2 1).freeCell c.cell
       else held (p1.setRxf k ({ e with held := e.held ++ [c] }.watch p1.now)))
    else
      let d := seqDist c.seq e.expected
      if 2 ^ 23 ≤ d ∨ e.present c.seq = true then ((p1.setRxf k e).count .ccn 2 1).freeCell c.cell
      else if 4096 ≤ d then ((((p1.freeCell c.cell).setRxf k e).err .ccn 3).flowHole h c.link)
      else
        let short := c.last && decide (c.k + 1 < unitCells h)
        let e1 := { e with held := e.held ++ [c],
                           voided := if short then e.voided ++ [((c.seq + 1) % 2 ^ 24, unitCells h - c.k - 1)] else e.voided }
        let p2 := (p1.setRxf k e1).releaseFlow k xp
        (if 0 < d then held p2 else p2).releaseEarly k xp h

/-- OPEN at the destination chip (R310): the cells held as UNSYNCED are taken in the order they came. -/
def Part.probeOpen (p : Part) (h : CocoonHdr) : Part :=
  let k := h.flow
  let e := p.rxf k
  if e.state = .synced then p.count .ccn 6 1
  else if e.state = .none ∧ 32768 ≤ p.rxUsed then p.err .ccn 5
  else
    let l := (e.held.head?.map (fun c => c.link)).getD 0
    let p1 := p.setRxf k { e with state := .synced, expected := h.fseq, last := p.now, held := [], holeAt := none }
    e.held.foldl (fun (q : Part) c => q.rsqTake (p.flowXp h l) true c) p1

/-- VOID at the destination chip (R311, R313). -/
def Part.probeVoid (p : Part) (h : CocoonHdr) (n : Nat) : Part :=
  let k := h.flow
  let e := p.rxf k
  if e.state = .none ∨ n = 0 then p
  else
    let l := (e.held.head?.map (fun c => c.link)).getD 0
    let p1 := p.setRxf k { e with voided := e.voided ++ [(h.fseq, n)], last := p.now }
    if e.state = .synced then p1.releaseFlow k (p.flowXp h l) else p1

/-- The resequencer of a crossbar port takes the next cell of its input (R313). -/
def Part.rsqCell (p : Part) (xp : Nat) : Part :=
  match Sparse.get p.rsqIn [] xp with
  | [] => p
  | c :: r => Part.rsqTake { p with rsqIn := Sparse.set p.rsqIn [] xp r } xp false c

/-- Cells a resequencer holds (CCN.RSQ_STAT.HELD): those of flows that end at crossbar port `xp`. -/
def Part.rsqHeld (p : Part) (xp : Nat) : Nat :=
  (p.rxFlow.map (fun e => (e.2.held.filter (fun c => match c.unit with
    | .unit h _ => p.flowXp h c.link == xp
    | .local _ => false)).length)).sum

/-- HOLD_CAP (R315): at 4,096 held cells the station's oldest hole is timed out. -/
def Part.holdCap (p : Part) (xp : Nat) : Part :=
  if p.rsqHeld xp < 4096 then p
  else
    let mine := p.rxFlow.filter (fun e => e.2.holeAt.isSome && e.2.held.any (fun c => match c.unit with
      | .unit h _ => p.flowXp h c.link == xp
      | .local _ => false))
    match mine.foldl (fun (a : Option (Nat × Nat)) e => match a with
        | none => some (e.1, e.2.holeAt.getD 0)
        | some b => if e.2.holeAt.getD 0 < b.2 then some (e.1, e.2.holeAt.getD 0) else some b) none with
    | some x => (p.err .ccn 6).holeTimeout x.1
    | none => p

/-! ### Units as their cells arrive (R301, R302, R306, R308, R316, R321) -/

/-- Where the frame context of a cell is kept: VC and FO bit. -/
def ctxKey (h : ParcelHdr) : Nat := h.vc + 8 * b2n h.fo

/-- Stores or ends a link's frame context. -/
def Part.setCtx (p : Part) (l k : Nat) (c : Option RxCtx) : Part :=
  let b := p.lk l
  p.setLk l { b with rxCtx := match c with
    | some x => Sparse.put b.rxCtx k x
    | none => Sparse.del b.rxCtx k }

/-- A link's frame context. -/
def Part.ctx (p : Part) (l k : Nat) : Option RxCtx := (((p.lk l).rxCtx.find? (fun e => e.1 == k)).map (fun e => e.2))

/-- The whole transit unit, or what a truncated one has, is queued for its next link with HOPS one less (R306, R312). -/
def Part.transit (p : Part) (l vc : Nat) (h : CocoonHdr) (i : Inner) (cs : List Nat) : Part :=
  let esc := decide (3 ≤ vc ∧ vc ≤ 5) || (match p.frtIdx h.dst h.cls with
    | some k => p.frtEsc k
    | none => false)
  let f := { (p.unitFrame { h with hops := h.hops - 1 } i (l / 2) (8 + l % 2) vc l) with
    esc := esc, dest := .chip (h.dst / 512 % 128), len := if cs.length < unitCells h then 256 * cs.length else 32 + h.ilen }
  (p.count .fab 0 1).queueStored f cs

/-- A droppable unit is delivered (R317): one that a failover resend brings again, after its broken link had brought it, is counted. A link
keeps those of a window of parcels (log entry 58, DEDUCED). -/
def Part.noteDrop (p : Part) (l : Nat) (h : ParcelHdr) (u : Body) : Part :=
  if h.vc ≠ 6 then p
  else
    let twice := h.fo && p.link.any (fun e => e.1 != l && e.2.dropped.contains u)
    let b := p.lk l
    (if twice then p.count .ccn 7 1 else p).setLk l { b with dropped := (u :: b.dropped).take 896 }

/-- A cell of the frame in progress joins it (R308). -/
def Part.joinFrame (p : Part) (l : Nat) (a : Arrived) (c : RxCtx) : Part :=
  let k := ctxKey a.hdr
  let done := a.hdr.clast
  let keep := fun (q : Part) (x : RxCtx) => q.setCtx l k (if done then none else some { x with next := x.next + 1 })
  let drop := fun (q : Part) => match a.cell with
    | some x => q.freeCell x
    | none => q
  match c.unit with
  | .local _ => drop (keep p c)
  | .unit h i =>
    let n := unitCells h
    let seq := (h.fseq + c.next) % 2 ^ 24
    if c.skip then
      (match i with
        | .probe _ _ _ => drop (keep (p.voidSeq h seq 1) c)
        | _ => drop (keep p c))
    else
      let overs := c.next + 1 = n ∧ !done
      let here := h.mcf || h.dst / 512 % 128 == p.chip
      match a.cell with
      | none => keep p { c with skip := overs }
      | some x =>
        if here && i.sequenced && decide (a.hdr.vc ≠ 6) then
          let xp := p.flowXp h l
          let u := if overs then Body.unit { h with kind := 0 } i else c.unit
          let p1 := { p with rsqIn := Sparse.set p.rsqIn [] xp (Sparse.get p.rsqIn [] xp ++
            [RsqCell.mk seq x c.next u (done || c.next + 1 == n) l a.hdr.vc]) }
          keep p1 { c with skip := overs }
        else if c.next < c.cells.length then drop (keep p c)
        else
          let cs := c.cells ++ [x]
          if overs then
            (((keep p { c with cells := [], skip := true }).err .ccn 0).answerUnit l h i .ur 4).freeCells cs |>.voidSeq h h.fseq n
          else if !done then keep p { c with cells := cs }
          else
            let p1 := keep p c
            if !here then p1.transit l a.hdr.vc h i cs
            else if cs.length < n then p1.freeCells cs
            else match i with
              | .time now epoch chip =>
                let _ := now
                ((p1.count .ccn 1 1 (some h.domain)).setRoot chip epoch).freeCells cs
              | .probe _ _ _ => p1.toGroup h i (p1.flowXp h l) a.hdr.vc l cs
              | _ => (p1.noteDrop l a.hdr c.unit).deliverUnit h i (p1.flowXp h l) a.hdr.vc l cs

/-- Why a unit cannot go on from here: 1 corrupt, 2 wrong multicast link, 3 hop limit, 4 no route (R302, R306, R321). -/
def Part.unitStop (p : Part) (l : Nat) (h : CocoonHdr) : Nat :=
  let here := h.dst / 512 % 128 == p.chip
  let inl := p.tf 3 h.mcg 0 2 5
  if badUnit h then 1
  else if h.mcf then
    (if p.tf 3 h.mcg 0 0 2 = 3 ∧ inl ≠ l ∧ p.twinNamed inl ≠ some l then 2
     else if h.hops = 0 ∧ p.mcLinks h.mcg ≠ [] then 3 else 0)
  else if here then 0
  else if h.hops = 0 then 3
  else match p.frtIdx h.dst h.cls with
    | some k => if p.frtValid k then 0 else 4
    | none => 4

/-- The frame that a RESUME continues: the one in progress on another link, VC by VC, whose flow and sequences the orphan continues (R316). -/
def Part.resumed (p : Part) (h : CocoonHdr) : Option RxCtx :=
  (List.range 32).findSome? (fun m => ((p.lk m).rxCtx.find? (fun e => match e.2.unit with
    | .unit u _ => u.flow == h.flow && decide (seqDist h.fseq u.fseq < unitCells u) && !e.2.skip
    | .local _ => false)).map (fun e => e.2))

/-- RESUME (R316): its orphans join the frame they continue, or are discarded and voided. -/
def Part.probeResume (p : Part) (l : Nat) (k : Nat) (h : CocoonHdr) (i : Inner) : Part :=
  match p.resumed h with
  | some c =>
    let u := match c.unit with
      | .unit uh _ => seqDist h.fseq uh.fseq
      | .local _ => 0
    p.setCtx l k (some { c with next := u })
  | none => (p.err .ccn 4).setCtx l k (some (RxCtx.mk (.unit h i) 0 [] true))

/-- The first cell of a unit. -/
def Part.firstCell (p : Part) (l : Nat) (a : Arrived) (h : CocoonHdr) (i : Inner) : Part :=
  let k := ctxKey a.hdr
  let free := fun (q : Part) => match a.cell with
    | some x => q.freeCell x
    | none => q
  let here := h.dst / 512 % 128 == p.chip
  let p1 := if h.rsv ≠ 0 then p.err .ccn 1 else p
  let start := fun (q : Part) => q.joinFrame l a (RxCtx.mk (.unit h i) 0 [] false)
  let skip := fun (q : Part) => match i with
    | .probe _ _ _ => free q
    | _ => q.joinFrame l a (RxCtx.mk (.unit h i) 0 [] true)
  let stop :=
    -- what R302, R306 and R321 do with a unit that cannot go on
    let lossy := decide (a.hdr.vc = 6)
    let vs := fun (q : Part) => if i.sequenced ∧ lossy = false then q.voidSeq h h.fseq (unitCells h) else q
    let ans := fun (q : Part) => if lossy then q else q.answerUnit l h i .ur 4
    let mark := fun (bit : Nat) => if lossy then p1 else (p1.count .fab 1 1).err .fab bit
    match p1.unitStop l h with
    | 1 => skip (vs (ans (p1.err .ccn 0)))
    | 2 => skip ((p1.count .fab 4 1).err .fab 4)
    | 3 => skip (vs (ans (mark 0)))
    | _ => skip (vs (ans (mark 1)))
  match i with
  | .probe op ix n =>
    let _ := ix
    if op = 3 then free (p1.probeResume l k h i)
    else if op ≠ 1 ∧ op ≠ 2 ∧ (here = true ∨ h.mcf = true) then free (p1.err .ccn 4)
    else if p1.unitStop l h ≠ 0 then stop
    else if h.mcf then
      -- a multicast flow's probe acts here and goes on to the branches
      let p2 := if op = 1 then p1.probeOpen h else p1.probeVoid h n
      if p.mcLinks h.mcg = [] then free p2 else start p2
    else if here then free (if op = 1 then p1.probeOpen h else p1.probeVoid h n)
    else start p1
  | _ => if p1.unitStop l h = 0 then start p1 else stop

/-- COCOON_UNIT_RECEIVE: the switch takes the next released cell of a link. -/
def Part.unitIn (p : Part) (l : Nat) : Part :=
  match (p.lk l).arrived with
  | [] => p
  | a :: r =>
    let p0 := p.setLk l { p.lk l with arrived := r }
    match a.hdr.cfirst, a.load with
    | true, .cell (some (.unit h i)) => p0.firstCell l a h i
    | _, _ =>
      match p0.ctx l (ctxKey a.hdr) with
      | some c => p0.joinFrame l a c
      | none => match a.cell with
        | some x => p0.freeCell x
        | none => p0

/-! ### Retiring flows (R310) -/

/-- Cells of a send flow still wait here or are unacknowledged on a first link. -/
def Part.flowBusy (p : Part) (k : Nat) : Bool :=
  let mine := fun (b : Body) => match b with
    | .unit h i => h.flow == k && i.sequenced
    | .local _ => false
  p.frames.any (fun e => e.2.any (fun f => mine f.body)) ||
    p.link.any (fun e => (e.2.unacked ++ e.2.foq).any (fun s => s.unit.any (fun u => mine u.1)))

/-! ### Meanings -/

/-- COCOON_UNIT_RECEIVE (R306): the next cell that link `l` has released. -/
def execCocoonUnitReceive (l : Fin 32) (s : State) := s.via (fun p => p.unitIn l)

/-- RSQ_CELL (R313): the next cell at the resequencer of crossbar port `xp`. -/
def execRsqCell (xp : Fin 20) (s : State) := s.via (fun p => p.rsqCell xp)

/-- HOLE_TIMEOUT (R315): the hole of the flow `src`, `dst` (or group), `cls` has stood for 20 us. -/
def execHoleTimeout (src dst : BitVec 16) (group : BitVec 12) (cls : Fin 8) (s : State) :=
  s.via (fun p =>
    let k := flowKey src.toNat dst.toNat group.toNat cls
    if (p.rxf k).holeAt.isSome then p.holeTimeout k else p)

/-- HOLD_CAP (R315). -/
def execHoldCap (xp : Fin 20) (s : State) := s.via (fun p => p.holdCap xp)

/-- PROBE_OPEN (R310) with the probe's header. -/
def execProbeOpen (h : CocoonHdr) (s : State) := s.via (fun p => p.probeOpen h)

/-- PROBE_VOID (R311) of `n` sequences from the header's FSEQ. -/
def execProbeVoid (h : CocoonHdr) (n : BitVec 16) (s : State) := s.via (fun p => p.probeVoid h n.toNat)

/-- PROBE_RESUME (R316) on a VC of link `l`; `ix` is the index of the first orphan cell. -/
def execProbeResume (l : Fin 32) (vc : Fin 8) (h : CocoonHdr) (ix : Fin 18) (s : State) :=
  s.via (fun p => p.probeResume l (vc.val + 8) h (.probe 3 ix 0))

/-- SEND_FLOW_RETIRE (R310): the flow has been idle for F. -/
def execSendFlowRetire (src dst : BitVec 16) (group : BitVec 12) (cls : Fin 8) (s : State) :=
  s.via (fun p =>
    let k := flowKey src.toNat dst.toNat group.toNat cls
    if p.flowBusy k then p else p.setTxf k (TxFlow.mk false 0 0 false))

/-- RX_FLOW_STALE (R310): the flow has been idle for F / 2. -/
def execRxFlowStale (src dst : BitVec 16) (group : BitVec 12) (cls : Fin 8) (s : State) :=
  s.via (fun p =>
    let k := flowKey src.toNat dst.toNat group.toNat cls
    let e := p.rxf k
    if e.state = .synced ∧ e.held = [] ∧ e.rel = [] then p.setRxf k { e with state := .stale } else p)

/-- RX_FLOW_RETIRE (R310): the flow has been idle for F. -/
def execRxFlowRetire (src dst : BitVec 16) (group : BitVec 12) (cls : Fin 8) (s : State) :=
  s.via (fun p =>
    let k := flowKey src.toNat dst.toNat group.toNat cls
    if (p.rxf k).state = .stale then p.setRxf k RxFlow.empty else p)

/-- COMMIT_ACK_RECEIVE (R278): a COMMIT_ACK with its header and content reaches this chip. -/
def execCommitAckReceive (h : CocoonHdr) (failed : Bool) (cause : Fin 16) (s : State) := s.via (fun p => p.ackIn h failed cause)

/-- SYNTH_CPL_RECEIVE (R318): a SYNTH_CPL with its header and content reaches this chip. -/
def execSynthCplReceive (h : CocoonHdr) (rid : BitVec 16) (tag : Fin 16384) (status : Fin 256) (s : State) :=
  s.via (fun p => p.synthIn h rid tag status)

/-- COMBINE_RESOLVE (R322): every part of a multicast write has its outcome. -/
def execCombineResolve (i : Fin 1024) (s : State) :=
  s.via (fun p =>
    let c := p.cb i
    if c.used ∧ c.members = 0 ∧ c.branches = [] then p.closeCombine i else p)

/-- COMBINE_TMO (R323): the entry has not resolved by its deadline: NO_ACK. -/
def execCombineTmo (i : Fin 1024) (s : State) :=
  s.via (fun p =>
    let c := p.cb i
    if c.used then ((p.err .fab 2).setCb i { c with failed := some 9, members := 0, branches := [] }).closeCombine i else p)

end Sys2Proof.Machine
end

