-- ==== Sys2Proof/Machine/Drone.lean ====
section
/-! DEFINITION. Drone channels: bindings, doorbells, descriptors and completion records (R88, R103 to R110, R201). -/

namespace Sys2Proof.Machine

/-! ### Descriptors (R106) -/

/-- A little-endian number of `n` bytes at byte `o`. -/
def leAt (l : List Byte) (o n : Nat) : Nat := ((List.range n).map (fun i => (l.getD (o + i) 0).toNat * 256 ^ i)).sum

/-- The bytes of a number, least significant first. -/
def leBytes (n v : Nat) : List Byte := (List.range n).map (fun i => BitVec.ofNat 8 (v / 256 ^ i))

/-- OP of a descriptor: 0 COPY, 1 FILL, 2 COMPARE, 3 NOP. -/
def dscOp (b : List Byte) : Nat := leAt b 0 1 % 16

/-- Bytes a descriptor works on; none for NOP. -/
def dscLen (b : List Byte) : Nat := if dscOp b = 3 then 0 else leAt b 4 4

/-- A descriptor is invalid (R106); the bits [7:6] of its first byte, which the table gives as 0, are held to it like its reserved bytes
(log entry 53, DEDUCED). -/
def dscBad (b : List Byte) : Bool :=
  decide (4 ≤ dscOp b) || (decide (dscOp b < 3) && dscLen b == 0) || (!(leAt b 0 1 / 32 % 2 == 1) && leAt b 24 8 % 16 != 0) ||
  leAt b 0 1 / 64 != 0 || leAt b 1 3 != 0 || (List.range 24).any (fun i => b.getD (40 + i) 0 != 0)

/-! ### Requests of a channel (R107, R201) -/

/-- A size code of MAX_RD or MAX_WR in bytes, 6 and 7 acting as 5 (DRC.CH_CFG). -/
def Part.chSize (p : Part) (pg : Page) (f : Fld) : Nat := sizeOf (p.getF pg f)

/-- Reads a channel may have in flight: 0 acts as 64. -/
def Part.chReads (p : Part) (pg : Page) : Nat :=
  let n := p.getF pg DRC.CH_CFG.RD_MAX
  if n = 0 then 64 else n

/-- Descriptors of a channel's ring: RING_LOG2 below 4 acts as 4, above 16 as 16. -/
def Part.ringSize (p : Part) (pg : Page) : Nat := 2 ^ min 16 (max 4 (p.getF pg DRC.CH_CFG.RING_LOG2))

/-- Base of a channel's ring. -/
def Part.ringBase (p : Part) (pg : Page) : Nat :=
  p.getF pg DRC.RING_BASE.BASE_LO * 64 + 2 ^ 32 * p.getF pg DRC.RING_BASE.BASE_HI

/-- The lowest tag that no open or waiting request of the Control Function uses. -/
def Part.chTag (p : Part) (d : Nat) : Nat :=
  firstFree ((p.ort.filter (fun e => e.2.state ≠ .free ∧ e.2.domain = d ∧ e.2.chan.isSome)).map (fun e => e.2.origTag) ++
    (p.waiting.filter (fun w => w.req.domain == d && w.chan.isSome)).map (fun w => w.req.tlp.tag)) 16384 0

/-- Admission of a channel's request of `n` cells: from its domain's account, or from the escape pool (R201, R324). -/
def Part.chAdmit (p : Part) (c d n : Nat) : Part × Bool :=
  if p.bit (.drn (c / 256)) (DRN.CH_BIND.ESC.ix (c % 256)) then
    let others := (p.link.map (fun e => e.2.allot.getD 3 0 + e.2.allot.getD 4 0)).sum
    (p, decide (n + others + p.poolUsed .esc ≤ p.getF .buf BUF.ESC_RSV.CELLS))
  else p.admitAccount d n

/-- Completion-pool cells that a read of `n` bytes takes (R201). -/
def rdCells (n : Nat) : Nat := (n + 63) / 64 + 1 + (n + 255) / 256

/-- Whether the completion pool has room for `n` more cells. -/
def Part.cplRoom (p : Part) (n : Nat) : Bool :=
  let others := (p.link.map (fun e => e.2.allot.getD 2 0 + e.2.allot.getD 5 0)).sum
  decide (n + others + p.poolUsed .cpl ≤ p.getF .buf BUF.CPL_RSV.CELLS)

/-- A Drone counts `k` events of a channel, with its domain's tag (R110, R455). -/
def Part.chCount (p : Part) (c n k : Nat) : Part := p.count (.drn (c / 256)) n k (some (p.fabricId (p.boundAt c).1))

/-- The channel waits for admission from now on. -/
def Part.chWait (p : Part) (c : Nat) : Part := p.setCh c { p.ch c with waits := true }

/-- A request of a channel goes through the lookup as its slot's (R107). -/
def Part.chSend (p : Part) (c d k : Nat) (t : Tlp) (chan : Option (Nat × Nat × Nat)) : Part :=
  let dr := Page.drn (c / 256)
  p.lookup (.drone (c / 256) (c % 256)) d (.drone k) (p.getF dr (DRN.CH_BIND.CLASS.ix (c % 256))) (p.bit dr (DRN.CH_BIND.ESC.ix (c % 256)))
    false none t chan

/-- Issues a read of `n` bytes for an operand, and `x` is the channel once it is out; without admission the channel waits. -/
def Part.chIssueRd (p : Part) (c d k op off addr n : Nat) (x : Chan) : Part :=
  if !p.cplRoom (rdCells n) then p.chWait c
  else
    let a := p.chAdmit c d 1
    if !a.2 then a.1.chWait c
    else
      let tag := a.1.chTag d
      let t := { Tlp.blank with kind := .memRead, addr := BitVec.ofNat 64 addr, len := n, rid := a.1.cfRid d, tag := tag }
      let held := Sparse.get a.1.backing [] (rdKey c) ++ [Backing.mk .cpl (rdCells n) tag]
      let p1 := { a.1 with backing := Sparse.set a.1.backing [] (rdKey c) held }
      ((p1.setCh c { x with waits := false }).chCount c 3 1).chSend c d k t (some (c, op, off))

/-- Issues a tracked posted write, and `x` is the channel once it is out; without admission the channel waits. -/
def Part.chIssueWr (p : Part) (c d k addr : Nat) (data : List Byte) (x : Chan) : Part :=
  let t := { Tlp.blank with kind := .memWrite, addr := BitVec.ofNat 64 addr, len := data.length, data := data, rid := p.cfRid d }
  let a := p.chAdmit c d (cellsOf t.bytes)
  if !a.2 then a.1.chWait c
  else (((a.1.setCh c { x with waits := false }).chCount c 4 1).chCount c 2 data.length).chSend c d k t none

/-- Bytes from address `a` to the end of its 4 KiB. -/
def toBoundary (a : Nat) : Nat := 4096 - a % 4096

/-- `n` bytes from offset `o` of an operand, when all of them have come. -/
def gather (l : List (Nat × List Byte)) (o n : Nat) : Option (List Byte) :=
  let bytes := (List.range n).filterMap (fun i => l.findSome? (fun e => if e.1 ≤ o + i then e.2[o + i - e.1]? else none))
  if bytes.length = n then some bytes else none

/-- COMPARE: `done` moves over the bytes that both operands have brought and that agree. -/
def Chan.compared (x : Chan) : Nat → Chan
  | 0 => x
  | n + 1 =>
    let at_ := fun (l : List (Nat × List Byte)) =>
      ((l.find? (fun e => e.1 ≤ x.done && decide (x.done < e.1 + e.2.length))).map (fun e => e.2.drop (x.done - e.1))).getD []
    let a := at_ x.src
    let b := at_ x.dst
    let run := ((a.zip b).takeWhile (fun e => e.1 == e.2)).length
    let x1 : Chan := { x with done := x.done + run }
    if run = 0 ∨ run < min a.length b.length then x1 else Chan.compared x1 n

/-- The channel with its comparison brought up to date. -/
def Chan.compare (x : Chan) : Chan := x.compared (x.src.length + x.dst.length + 1)

/-- The next request of the descriptor a channel runs (R107): a write when its data is there, else a read. -/
def Part.chNext (p : Part) (c d k : Nat) (x : Chan) (b : List Byte) : Part :=
  let pg := Page.drc d k
  let len := dscLen b
  let src := leAt b 8 8
  let dst := leAt b 16 8
  if dscBad b || x.rdErr || x.wrErr then p
  else
    let rd := fun (op o base : Nat) =>
      let n := min (p.chSize pg DRC.CH_CFG.MAX_RD) (min (len - o) (toBoundary (base + o)))
      if p.chReads pg ≤ x.rdOut then p
      else
        let x1 : Chan := if op = 0 then { x with issued := o + n, rdOut := x.rdOut + 1 } else { x with issuedB := o + n, rdOut := x.rdOut + 1 }
        p.chIssueRd c d k op o (base + o) n x1
    let wrN := min (p.chSize pg DRC.CH_CFG.MAX_WR) (min (len - x.wrote) (toBoundary (dst + x.wrote)))
    let wr := fun (data : List Byte) =>
      p.chIssueWr c d k (dst + x.wrote) data
        { x with wrote := x.wrote + wrN, wrOut := x.wrOut + 1, src := x.src.filter (fun e => decide (x.wrote + wrN < e.1 + e.2.length)) }
    match dscOp b with
    | 0 =>
      match (if x.wrote < len then gather x.src x.wrote wrN else none) with
      | some data => wr data
      | none => if x.issued < len then rd 0 x.issued src else p
    | 1 => if x.wrote < len then wr ((List.range wrN).map (fun i => b.getD (8 + (dst + x.wrote + i) % 8) 0)) else p
    | 2 =>
      if x.issued ≤ x.issuedB ∧ x.issued < len then rd 0 x.issued src
      else if x.issuedB < len then rd 1 x.issuedB dst else p
    | _ => p

/-! ### The channel (R103 to R108) -/

/-- A channel that is IDLE and has work becomes RUNNING, and one whose producer index has run past its ring stops with RING_OVF (R105,
R107). A channel starts only while its Control Function is bus master (R102) and not in D3hot (log entry 53, DEDUCED). -/
def Part.chKick (p : Part) (c d k : Nat) : Part :=
  let pg := Page.drc d k
  let ahead := (p.getF pg DRC.PROD.INDEX + 65536 - p.getF pg DRC.CONS.INDEX) % 65536
  if p.ringSize pg < ahead then (p.dropChan c).chanStop c d k 4 (p.getF pg DRC.CONS.INDEX)
  else if ahead ≠ 0 ∧ p.getF pg DRC.CH_CTL.EN = 1 ∧ p.cf d 1 0x04 2 1 = 1 ∧ p.inD3 d = false then p.setF pg DRC.CH_STAT.STATE 1
  else p

/-- A doorbell write (R88, R102, R105): it sets PROD; a slot without a binding discards it (log entry 53, DEDUCED). -/
def Part.doorbell (p : Part) (d k prod : Nat) : Part :=
  match p.chanAt d k with
  | none => p
  | some c =>
    if p.inFlr d then p
    else
      let pg := Page.drc d k
      let p1 := p.setF pg DRC.PROD.INDEX prod
      if p1.getF pg DRC.CH_STAT.STATE ≤ 1 then p1.chKick c d k else p1

/-- RESET of a channel (R103), which ends the containment of its Drone (R338; log entry 63, DEDUCED): IDLE, but ignored while Bus Master Enable is 0 or FLR runs; PROD, CONS, RING_BASE and CH_CFG stay (R108)
(log entry 53, DEDUCED). -/
def Part.chReset (p : Part) (d k : Nat) : Part :=
  match p.chanAt d k with
  | none => p
  | some c =>
    if p.cf d 1 0x04 2 1 = 0 ∨ p.inFlr d = true then p
    else
      let q := (p.dropChan c).setF (.drc d k) DRC.CH_STAT.STATE 0
      { q with stuck := q.stuck.erase (.agent (c / 256)) }

/-- EN of a channel (R107): 0 lets the descriptor in progress finish and idles the channel. -/
def Part.chEnable (p : Part) (d k : Nat) (en : Bool) : Part :=
  match p.chanAt d k with
  | none => p
  | some c =>
    let pg := Page.drc d k
    let p1 := p.setF pg DRC.CH_CTL.EN (b2n en)
    let st := p1.getF pg DRC.CH_STAT.STATE
    let x := p1.ch c
    if en then (if st = 0 then p1.chKick c d k else p1)
    else if st = 1 ∧ x.cur.isNone ∧ x.ringOut = false then (p1.setCh c { Chan.reset with cplOut := x.cplOut, cplBad := x.cplBad, wrOut := x.wrOut }).setF pg DRC.CH_STAT.STATE 0
    else p1

/-- A word of CH_CTL as its writer writes it: EN, then RESET. -/
def Part.chCtl (p : Part) (d k : Nat) (w : BitVec 32) : Part :=
  let p1 := p.chEnable d k (w.getLsbD 0)
  if w.getLsbD 1 then p1.chReset d k else p1

/-- The next ring read of a RUNNING channel (R105): up to 8 descriptors, not past the ring's end, MAX_RD or 4 KiB (log entry 53, DEDUCED). -/
def Part.chFetch (p : Part) (d k : Nat) : Part :=
  match p.chanAt d k with
  | none => p
  | some c =>
    let pg := Page.drc d k
    let x := p.ch c
    let cons := p.getF pg DRC.CONS.INDEX
    let ahead := (p.getF pg DRC.PROD.INDEX + 65536 - cons) % 65536
    if p.getF pg DRC.CH_STAT.STATE ≠ 1 ∨ p.getF pg DRC.CH_CTL.EN = 0 ∨ x.cur.isSome ∨ x.ringOut = true ∨ x.descs ≠ [] ∨ x.src ≠ [] ∨ ahead = 0 then p
    else
      let r := p.ringSize pg
      let at_ := p.ringBase pg + 64 * (cons % r)
      let n := min (min 8 ahead) (min (r - cons % r) (min (p.chSize pg DRC.CH_CFG.MAX_RD / 64) (toBoundary at_ / 64)))
      p.chIssueRd c d k 2 0 at_ (64 * n) { x with ringOut := true, ringLen := 64 * n }

/-- Descriptors of a ring read whose data has all come. -/
def Chan.unring (x : Chan) : Chan :=
  if x.cur.isSome || x.ringOut || x.descs != [] then x
  else match (if x.src = [] then none else gather x.src 0 x.ringLen) with
    | none => x
    | some b => { x with src := [], descs := (List.range (x.ringLen / 64)).map (fun i => (b.drop (64 * i)).take 64) }

/-- A RUNNING channel goes on: it takes its next descriptor, or becomes IDLE when EN is 0, and issues its next request. The next
descriptor waits for the outcome of the completion record before it (log entry 53, DEDUCED). -/
def Part.chRun (p : Part) (d k : Nat) : Part :=
  match p.chanAt d k with
  | none => p
  | some c =>
    let pg := Page.drc d k
    if p.getF pg DRC.CH_STAT.STATE ≠ 1 then p
    else
      let x := (p.ch c).unring
      match x.cur with
      | some b => p.chNext c d k x b
      | none =>
        if x.ringOut || x.cplOut then p.setCh c x
        else if p.getF pg DRC.CH_CTL.EN = 0 then (p.setCh c Chan.reset).setF pg DRC.CH_STAT.STATE 0
        else match x.descs with
          | [] => p.setCh c x
          | b :: r =>
            let x1 : Chan := { Chan.reset with descs := r, cur := some b }
            (p.setCh c x1).chNext c d k x1 b

/-- Whether a descriptor has nothing more to issue. -/
def Chan.issuedAll (x : Chan) (b : List Byte) : Bool :=
  dscBad b || x.rdErr || x.wrErr || (match dscOp b with
    | 0 => x.wrote == dscLen b
    | 1 => x.wrote == dscLen b
    | 2 => x.issued == dscLen b && x.issuedB == dscLen b
    | _ => true)

/-- STATUS of a descriptor (R108): 0 OK, 1 DIFFER, 2 RD_ERR, 3 WR_FAIL, 4 DESC_BAD (log entry 53, DEDUCED). -/
def Chan.status (x : Chan) (b : List Byte) : Nat :=
  if dscBad b then 4 else if x.rdErr then 2 else if x.wrErr then 3 else if dscOp b = 2 ∧ x.done < dscLen b then 1 else 0

/-- The completion record (R108). -/
def cplRecord (st cons off : Nat) (b : List Byte) : List Byte :=
  leBytes 1 st ++ [0] ++ leBytes 2 cons ++ leBytes 4 off ++ (b.drop 32).take 8

/-- Issues the write of a completion record, in two requests where its address, that of a bad descriptor, has it cross a 4 KiB boundary (R107);
`x` is the channel once it is out. -/
def Part.chRecord (p : Part) (c d k addr : Nat) (data : List Byte) (x : Chan) : Part :=
  let n := toBoundary addr
  if data.length ≤ n then p.chIssueWr c d k addr data { x with cplOut := true, wrOut := 1 }
  else
    let q := p.chIssueWr c d k addr (data.take n) { x with cplOut := true, wrOut := 2 }
    if (q.ch c).cur.isSome then q else q.chIssueWr c d k (addr + n) (data.drop n) (q.ch c)

/-- A descriptor completes (R107, R108) once all its reads and writes have their outcome: the record is written, CONS moves on, and the channel
goes on, becomes IDLE, or stops with its error; EMPTY is set whenever CONS reaches PROD (R109) (log entry 53, DEDUCED). -/
def Part.chDone (p : Part) (d k : Nat) : Part :=
  match p.chanAt d k with
  | none => p
  | some c =>
    let pg := Page.drc d k
    let x := (p.ch c).compare
    match x.cur with
    | none => p
    | some b =>
      if p.getF pg DRC.CH_STAT.STATE ≠ 1 ∨ x.rdOut ≠ 0 ∨ x.wrOut ≠ 0 ∨ x.issuedAll b = false then p
      else
        let st := x.status b
        let cons := p.getF pg DRC.CONS.INDEX
        let noCpl := leAt b 0 1 / 32 % 2 == 1
        let rest : Chan := { Chan.reset with descs := x.descs }
        let rec_ := cplRecord st cons (if st = 1 ∨ st = 2 ∨ st = 3 then x.done else 0) b
        let next := (cons + 1) % 65536
        let p0 := p.setF pg DRC.CONS.INDEX next
        let p1 := if noCpl then p0.setCh c rest else p0.chRecord c d k (leAt b 24 8) rec_ rest
        if !noCpl && (p1.ch c).cur.isSome then p1.setF pg DRC.CONS.INDEX cons
        else
          let p2 := p1.chCount c 0 1
          let p3 := if st = 1 then p2.chCount c 6 1 else p2
          let p4 := if leAt b 0 1 / 16 % 2 = 1 then p3.irq pg 1 else p3
          if p4.getF pg DRC.CH_STAT.STATE = 2 then (if next = p4.getF pg DRC.PROD.INDEX then p4.irq pg 4 else p4)
          else if 2 ≤ st then
            let p5 := (p4.setCh c { Chan.reset with cplOut := (p4.ch c).cplOut, cplBad := (p4.ch c).cplBad, wrOut := (p4.ch c).wrOut }).chanStop c d k
              (if st = 4 then 1 else st) cons
            if next = p5.getF pg DRC.PROD.INDEX then p5.irq pg 4 else p5
          else if next = p4.getF pg DRC.PROD.INDEX then (p4.setF pg DRC.CH_STAT.STATE 0).irq pg 4
          else if p4.getF pg DRC.CH_CTL.EN = 0 then
            (p4.setCh c { (p4.ch c) with descs := [] }).setF pg DRC.CH_STAT.STATE 0
          else p4

/-! ### Binding (R104, R408) -/

/-- A channel leaves its slot: it issues nothing more, and the slot's page returns to its reset values (log entry 53, DEDUCED). -/
def Part.chUnbind (p : Part) (c : Nat) : Part :=
  if p.getF (.drn (c / 256)) (DRN.CH_BIND.VALID.ix (c % 256)) = 0 then p
  else
    let b := p.boundAt c
    let base := (Page.drc b.1 b.2).base
    let p1 := p.dropChan c
    { p1 with regs := p1.regs.filter (fun e => !decide (base ≤ e.1 ∧ e.1 < base + 0x1000)) }

/-- The RESULT of a binding write: 3 BAD_FIELD, 4 DUP, 7 DENIED, 0 OK. `last` is the domain that has the channel and has not released it. -/
def Part.bindCheck (p : Part) (req : Requester) (c : Nat) (w : BitVec 32) (last : Option Nat) : Nat :=
  let d := w.toNat / 2 % 64
  let k := w.toNat / 128 % 256
  if !w.getLsbD 0 then 0
  else if c % 256 = 255 then 3
  else if (match p.chanAt d k with
    | some o => o != c
    | none => false) then 4
  else if req ≠ .colony then 0
  else
    let b := p.boundAt c
    let busy := p.getF (.drn (c / 256)) (DRN.CH_BIND.VALID.ix (c % 256)) = 1 ∧ p.getF (.drc b.1 b.2) DRC.CH_STAT.STATE ≠ 0
    let kept := match last with
      | some o => p.attached o || (List.range 128).any (fun t => p.role t == 1 && p.getF (.port t) PORT.PORT_CTL.DOMAIN == o)
      | none => false
    if busy ∨ kept = true then 7 else 0

/-- A binding write takes effect and reports (R104, R110). A binding written with VALID 0 leaves the whole register 0 (log entry 93, DESIGN
CHOICE). -/
def Part.bindWrite (p : Part) (c : Nat) (w : BitVec 32) (res : Nat) : Part :=
  let pg := Page.drn (c / 256)
  let p1 := if res = 0 then (p.chUnbind c).wr (pg.base + 0x400 + 4 * (c % 256)) (if w.getLsbD 0 then w &&& 0x7FFFF else 0) else p
  let p2 := ((p1.setF pg DRN.BIND_RES.RESULT res).setF pg DRN.BIND_RES.CH (c % 256)).setF pg DRN.BIND_RES.NEW 1
  if res = 0 then p2 else p2.err pg 1

/-- A binding write of the Guarded Write Port; Chitin remembers which domain has the channel (R408). -/
def State.droneBind (s : State) (req : Requester) (c : Nat) (w : BitVec 32) : State :=
  let x := s.part.guardAccess req (.drn (c / 256)) (0x400 + 4 * (c % 256))
  if !x.1 then { s with part := x.2 }
  else
    let last := match Sparse.get s.trust.drone 0 c with
      | 0 => none
      | n => some (n - 1)
    let res := x.2.bindCheck req c w last
    let t1 : Trust := if res = 0 ∧ w.getLsbD 0 then { s.trust with drone := Sparse.set s.trust.drone 0 c (w.toNat / 2 % 64 + 1) } else s.trust
    { s with part := x.2.bindWrite c w res, trust := t1 }

/-! ### Meanings -/

/-- DOORBELL_WRITE (R88). -/
def execDoorbellWrite (d : Fin 64) (slot : Fin 256) (prod : BitVec 16) (s : State) := s.via (fun p => p.doorbell d slot prod.toNat)

/-- CHANNEL_RESET (R103). -/
def execChannelReset (d : Fin 64) (slot : Fin 256) (s : State) :=
  s.via (fun p => p.ifPermitted (.cf d) (.drc d slot) 0x100 (fun q => q.chReset d slot))

/-- CHANNEL_EN_WRITE (R107). -/
def execChannelEnWrite (d : Fin 64) (slot : Fin 256) (en : Bool) (s : State) :=
  s.via (fun p => p.ifPermitted (.cf d) (.drc d slot) 0x100 (fun q => q.chEnable d slot en))

/-- DESCRIPTOR_FETCH (R105). -/
def execDescriptorFetch (d : Fin 64) (slot : Fin 256) (s : State) := s.via (fun p => p.chFetch d slot)

/-- DESCRIPTOR_RUN (R107): one request of the channel. -/
def execDescriptorRun (d : Fin 64) (slot : Fin 256) (s : State) := s.via (fun p => p.chRun d slot)

/-- DESCRIPTOR_COMPLETE (R107). -/
def execDescriptorComplete (d : Fin 64) (slot : Fin 256) (s : State) := s.via (fun p => p.chDone d slot)

/-- DRONE_BIND_WRITE (R104) of CH_BIND[c] of a Drone, by Colony or Chitin. -/
def execDroneBindWrite (req : Requester) (drone : Fin 2) (c : Fin 256) (w : Word) (s : State) : Host.Outcome State Fault Refusal :=
  .next (s.droneBind req (256 * drone.val + c.val) w)

end Sys2Proof.Machine
end

