-- ==== Sys2Proof/Machine/Tele.lean ====
section
/-! DEFINITION. What telemetry does when its registers are written: histogram latches, the start of a capture, a trigger pin, the record
latch (R462, R463, R468, R469, R472). -/

namespace Sys2Proof.Machine

/-- Copies 32 bins into the HIST_BIN registers of a page; a bin holds at most 2^48 - 1 and shows SAT (R462). -/
def Part.showBins (p : Part) (pg : Page) (bin : Nat → Nat) : Part :=
  (List.range 32).foldl (fun q b =>
    let v := min (2 ^ 48 - 1) (bin b)
    (q.wr (pg.base + 0x200 + 8 * b) (BitVec.ofNat 32 v)).wr (pg.base + 0x204 + 8 * b)
      (BitVec.ofNat 32 (v / 2 ^ 32 + 2 ^ 16 * b2n (2 ^ 48 ≤ bin b)))) p

/-- A latch is counted, and the live bins go when it clears them (R462, R473). -/
def Part.latched (p : Part) (clear : Option (Part → Part)) : Part :=
  match clear with
  | some f => (f (p.count .tel 4 1)).count .tel 6 1
  | none => p.count .tel 4 1

/-- A write of HIST_SEL of TEL, TELV2 or TELV3 (R462, R463). -/
def Part.histLatch (p : Part) (pg : Page) (w : BitVec 32) : Part :=
  match pg with
  | .tel =>
    let v := w.toNat % 2048
    let p1 := p.wr (pg.base + 0x104) (BitVec.ofNat 32 v)
    let key := fun b => histKey (v / 1024) (v % 128) (v / 128 % 8) b
    (p1.showBins pg (fun b => Sparse.get p.hist 0 (key b))).latched (if p.bit .tel TEL.HIST_CTL.CLR_ON_LATCH then
      some (fun q => { q with hist := (List.range 32).foldl (fun h b => Sparse.set h 0 (key b) 0) q.hist }) else none)
  | .telv d 2 =>
    let c := w.toNat % 8
    ((p.wr (pg.base + 0x100) (BitVec.ofNat 32 c)).showBins pg (fun b => Sparse.get p.domHist 0 (domHistKey d c b))).latched
      (if p.bit pg TELV2.HIST_CTL.CLR_ON_LATCH then
        some (fun q => { q with domHist := (List.range 32).foldl (fun h b => Sparse.set h 0 (domHistKey d c b) 0) q.domHist }) else none)
  | .telv d 3 =>
    let c := w.toNat % 8
    ((p.wr (pg.base + 0x100) (BitVec.ofNat 32 c)).showBins pg (fun b => if p.attached d then Sparse.get p.hist 0 (histKey 0 (p.uport d) c b)
      else 0)).latched none
  | _ => p

/-- A write of ANT.CTL.EN (R469, R472): refused while Antenna is not powered, and in host-memory mode without a collector whose upstream
port lies on this chip (log entry 54, DEDUCED). -/
def Part.captureEnable (p : Part) (en : Bool) : Part :=
  if !en then
    { ((p.setF .ant ANT.CTL.EN 0).setF .ant ANT.STAT.RUNNING 0) with ant := { p.ant with post := none } }
  else
    let host := p.bit .ant ANT.CTL.MODE
    let coll := match p.domIdx (p.getF .ant ANT.CTL.COLL_DOM) with
      | some d => p.attached d
      | none => false
    if !p.bit .pwr PWR.UNIT_STAT.ANT || (host && !coll) then (p.setF .ant ANT.STAT.CFG_REJ 1).err .ant 0
    else
      let p1 := ((p.setF .ant ANT.CTL.EN 1).setF .ant ANT.STAT.TRIGGERED 0).setF .ant ANT.STAT.RUNNING
        (b2n (p.getF .ant ANT.CTL.TRIG_MODE ≠ 1))
      { p1 with ant := { p1.ant with mode := b2n host, nth := [], post := none, trig := false }, stuck := p1.stuck.erase (.agent 5) }

/-- A rising edge on the lowest GPIO that ANT_TRIG_IN owns is a trigger while Antenna is powered (R472, R367, R369)
(log entry 46, DEDUCED). -/
def Part.triggerPin (p : Part) (k : Nat) : Part :=
  if p.pinOwner k = 3 ∧ (List.range k).all (fun j => p.pinOwner j != 3) = true ∧ p.bit .pwr PWR.UNIT_STAT.ANT = true then p.antTrigger else p

/-- A write of ANT.REC_SEL copies one slot of the capture SRAM into ANT.REC (R468). -/
def Part.recLatch (p : Part) (w : BitVec 32) : Part :=
  let s := w.toNat % 16384
  let l := Sparse.get p.ant.ring [] s
  (List.range 32).foldl (fun q k => q.wr (Page.ant.base + 0x200 + 4 * k) (l.getD k 0)) (p.setF .ant ANT.REC_SEL.SLOT s)

/-- HISTOGRAM_LATCH (R462): a write of HIST_SEL in the page of the address. -/
def execHistogramLatch (req : Requester) (addr : Nat) (w : Word) (s : State) :=
  s.via (fun p => p.onPage req addr (if req = .chitin ∨ req = .colony then 0x104 else 0x100) (fun q pg => q.histLatch pg w))

/-- CAPTURE_ENABLE (R469): a write of ANT.CTL.EN. -/
def execCaptureEnable (req : Requester) (en : Bool) (s : State) := s.via (fun p => p.ifPermitted req .ant 0x100 (fun q => q.captureEnable en))

/-- ANT_TRIGGER (R472): a rising edge on a GPIO pin. -/
def execAntTrigger (pin : Fin 16) (s : State) := s.via (fun p => if p.md.mode.core then p.triggerPin pin else p)

/-- RECORD_LATCH (R468). -/
def execRecordLatch (req : Requester) (w : Word) (s : State) := s.via (fun p => p.ifPermitted req .ant 0x190 (fun q => q.recLatch w))

end Sys2Proof.Machine
end

