-- ==== Sys2Proof/Machine/Agents.lean ====
section
/-! DEFINITION. What arrives at a PCIe port beside requests, what waits for time or for others to finish, fences, and what the agents of
the chip do with the frames they hold (R161, R239, R258 to R263, R275, R276, R281, R284 to R292, R401). -/

namespace Sys2Proof.Machine

/-! ### Completions at a PCIe port (R260 to R262) -/

/-- The domain whose account polices a completion at a ROLE 3 port: that of the function's binding, else the requester's (R234). -/
def Part.cplAcct (p : Part) (e : OrtEnt) : Nat :=
  match e.fbt with
  | some f => p.fbtDom f
  | none => if e.state = .far then (p.domIdx e.fabricId).getD 0 else e.domain

/-- A completion at a PCIe port goes on (R260, R261, R262): it is matched, restored and sent on, or discarded. Functions below a SHARED bridge in
DPC have theirs discarded (R342). -/
def Part.cplPass (p : Part) (t : Nat) (m : Tlp) : Part :=
  let own := p.getF (.port t) PORT.PORT_CTL.DOMAIN
  if (p.role t = 1 ∨ p.role t = 2) ∧ p.domReset own = true then p.absorb (.port t) m own
  else
    let p1 := if p.role t = 1 then (p.count (.telv own 0) 0 1).count (.telv own 0) 1 m.data.length else p
    match p1.matchPort t m with
    | none => (p1.absorb (.port t) m own).unexpected true
    | some i =>
      let e := p1.oe i
      let a := p1.cplAcct e
      let p2 := if p1.role t = 3 then p1.policeTlp t a m.data.length else p1
      let dpc := match e.fbt with
        | some f => p2.dpcOn (p2.fbtDom f) (p2.tf 0 f 0 16 7)
        | none => false
      if e.state = .quarantine then (p2.absorb (.port t) m a).lateCpl e
      else if badCount e m then (p2.absorb (.port t) m a).unexpected true
      else if dpc then p2.absorb (.port t) m a
      else
        let cls := p2.classOf t m.tc
        let seen := Seen.mk 0 t (p2.gport t) e.source e.fabricId cls 2 m.bytes (.local m) false false
        let cap := p2.capture seen
        let far := decide (e.state = .far)
        let x := (cap.1.poisonRx (.port t) m).useBacking t 2 (cellsOf (m.bytes + (if far then 32 else 0))) (2 + (m.data.length + 255) / 256) .cpl
        let p3 := if far then x.1.deliverFar i m cls t x.2 else x.1.deliver i m cls (t / 8) (t % 8) x.2
        if cap.2 then p3.mirrorCopy seen else p3

/-- A completion at a port is behind a posted write that waits at Track and that it may not pass, or behind such a completion of its own request
(R275, R279). -/
def Part.cplBehind (p : Part) (t : Nat) (m : Tlp) : Bool :=
  let goal := ((p.matchPort t m).map (fun i => (p.oe i).source)).getD 0xFFFF
  p.waiting.any (fun w => w.req.ing = .port t && w.holds m goal (p.classOf t m.tc)) || p.cplWait.any (fun x => x.1 == t && !mayPass m x.2)

/-- A completion at a PCIe port goes on, waits (R275), or is discarded at a port that is down or contained (R341). -/
def Part.cplNext (p : Part) (t : Nat) (m : Tlp) : Part :=
  if p.bit (.port t) PORT.CONT_STAT.ACTIVE then p.bumpF (.port t) PORT.CONT_STAT.DISCARDED 1
  else if !p.bit (.port t) PORT.PORT_STAT.DL_UP then p
  else if p.cplBehind t m then { p with cplWait := p.cplWait ++ [(t, m)] }
  else p.cplPass t m

/-- A completion arrives at a PCIe port (R260). -/
def Part.cplIn (p : Part) (t : Nat) (m : Tlp) : Part :=
  if p.bit (.port t) PORT.CONT_STAT.ACTIVE ∨ !p.bit (.port t) PORT.PORT_STAT.DL_UP then p.cplNext t m else (p.sealFrames t).cplNext t m

/-- The completions that wait at PCIe ports try again, in their order. -/
def Part.cplAgain (p : Part) : Part := p.cplWait.foldl (fun q x => q.cplNext x.1 x.2) { p with cplWait := [] }

/-! ### Everything at a PCIe port (R239, R253, R363) -/

/-- Bridge Control SERR Enable of the bridge a message comes through and of function 0 (layout of log entry 12) (log entry 69, DEDUCED). -/
def Part.serrOn (p : Part) (d vb : Nat) : Bool := p.cf d (2 + vb) 0x3C 17 1 == 1 && p.cf d 0 0x3C 17 1 == 1

/-- An ERR_COR (0x30), ERR_NONFATAL (0x31) or ERR_FATAL (0x33) message of a device (R342, R363): it triggers DPC where that is enabled for it,
and is else forwarded as a switch forwards it (log entry 69, DEDUCED). -/
def Part.errMsgIn (p : Part) (t : Nat) (m : Tlp) (code : Nat) : Part :=
  match p.identify t m.rid with
  | none => p.receive t m
  | some (d, fbt, _) =>
    match p.srcBridge t fbt with
    | none => p.receive t m
    | some vb =>
      let en := p.cf d (2 + vb) 0x14C 16 2
      if (code = 0x33 ∧ (en = 1 ∨ en = 2)) ∨ (code = 0x31 ∧ en = 2) then
        (p.absorb (.port t) m d).dpc d vb (if code = 0x33 then 2 else 1)
      else if p.serrOn d vb then (p.receive t m).err (.port t) 5
      else p.absorb (.port t) m d

/-- A malformed TLP: it is longer than 4,096 bytes (R381), or a write or completion that carries other data than its length says
(log entry 94, PRESUMED). -/
def Tlp.malformed (m : Tlp) : Bool :=
  decide (4096 < m.len) || (match m.kind with
    | .memWrite | .dmWr => m.data.length != m.len
    | .cpl => !m.data.isEmpty && m.data.length != m.len
    | _ => false)

/-- A TLP is taken up at a PCIe port; a malformed one is discarded and noted (R345), and so is, without a note, a request or message at a port
that still carries only configuration traffic, for want of link IDE (R396) (log entry 70, DEDUCED). -/
def Part.wellFormedIn (p : Part) (t : Nat) (m : Tlp) (f : Part → Part) : Part :=
  let gone := p.absorb (.port t) m (p.getF (.port t) PORT.PORT_CTL.DOMAIN)
  if !p.bit (.port t) PORT.PORT_STAT.DL_UP || p.bit (.port t) PORT.CONT_STAT.ACTIVE then f p
  else if m.malformed then gone.err (.port t) 6
  else if m.kind != .cpl && p.ideHeld t m.kind then gone
  else f p

/-- A TLP arrives at a PCIe port (R239): completions, configuration requests, INTx and error messages each have their own way, everything
else the lookup's (log entry 70, DEDUCED). -/
def Part.tlpIn (p : Part) (t : Nat) (m : Tlp) : Part :=
  let code := m.addr.toNat
  let open_ := p.bit (.port t) PORT.PORT_STAT.DL_UP && !p.bit (.port t) PORT.CONT_STAT.ACTIVE
  match m.kind with
  | .cpl => p.cplIn t m
  | .cfgRead => p.cfgRequest t m none false
  | .cfgWrite => p.cfgRequest t m none false
  | .msg =>
    if !open_ || p.role t = 1 then p.receive t m
    else if 0x20 ≤ code ∧ code ≤ 0x27 then (p.absorb (.port t) m (p.getF (.port t) PORT.PORT_CTL.DOMAIN)).intxMsg t m.rid (code % 4) (code < 0x24)
    else if code = 0x30 ∨ code = 0x31 ∨ code = 0x33 then p.errMsgIn t m code
    else p.receive t m
  | _ => p.receive t m

/-- The newest frame of a port that its sender has not finished. -/
def Part.openFrame (p : Part) (t : Nat) : Option Nat :=
  ((p.live.filter (fun x => x.2.open_ && !x.2.abort && x.2.srcXp == t / 8 && x.2.srcSub == t % 8)).getLast?).map (fun x => x.1)

/-- The sender nullifies the TLP it is sending after part of it has crossed (R176, R312): nothing of it is emitted, its tracker entry closes
without a completion and its ledger slot is freed without a journal entry. -/
def Part.nullified (p : Part) (t : Nat) : Part :=
  match p.openFrame t with
  | none => p
  | some i =>
    match p.fr i with
    | none => p
    | some f =>
      let p1 := p.abandonFrame i
      let p2 := match f.ort with
        | some e => p1.freeEnt e
        | none => p1
      let p3 := match f.slot with
        | some (k, g) => if (p2.sl k).used && (p2.sl k).gen == g then (p2.gateClose (p2.sl k).gate).freeSl k else p2
        | none => p2
      let p4 := match f.combine with
        | some k => p3.setCb k { Combine.empty with gen := ((p3.cb k).gen + 1) % 31 }
        | none => p3
      p4.gateClose f.gate

/-! ### Deadlines (R263, R276) -/

/-- A tracker entry reaches its deadline (R263): CA for a LOCAL or ORIGIN entry, a SYNTH_CPL with completion timeout for a FAR one. -/
def Part.ortDeadline (p : Part) (i : Nat) : Part :=
  let e := p.oe i
  match e.state with
  | .localE => (((p.answer e .ca 2).quarantine i).count .tbl 3 1 (some e.fabricId)).err .tbl 3
  | .origin => (((p.answer e .ca 2).quarantine i).count .tbl 3 1 (some e.fabricId)).err .tbl 3
  | .far => (((p.answer e .ca 3).freeEnt i).count .tbl 4 1 (some e.fabricId)).err .tbl 3
  | _ => p

/-- An entry in QUARANTINE becomes FREE, and with it its tag (R263). -/
def Part.quarEnd (p : Part) (i : Nat) : Part := if (p.oe i).state = .quarantine then p.freeEnt i else p

/-- A slot still used at its deadline fails with NO_ACK (R276). -/
def Part.slotDeadline (p : Part) (i : Nat) : Part :=
  let s := p.sl i
  if s.used then ((p.resolveSlot i (some 9)).count .ord 4 1 (some (p.fabricId s.domain))).err .ord 1 else p

/-! ### Fences and the journal (R284 to R292) -/

/-- Failures of one record over its four classes: the sum, and the first of them in journal order. -/
def Part.recFails (p : Part) (d : Nat) (r : Rec) : FailCnt :=
  let wr := p.getF (.ordv d) ORDV.JRNL_PTR.WR_SEQ
  let l := ((List.range 4).map (fun k => p.fc (failKey d r.num k))).filter (fun c => c.cnt != 0)
  let age := fun (c : FailCnt) => (wr + 65535 - c.first) % 65536
  l.foldl (fun (a : FailCnt) (c : FailCnt) =>
    FailCnt.mk (satAdd 16 a.cnt c.cnt) (if a.cnt = 0 ∨ age a < age c then c.first else a.first) (a.unknown || c.unknown)) FailCnt.zero

/-- The counts that a fence returns and clears (R284): a record's, one class of it, or the domain's. A requester without a record has none. -/
def Part.fenceCount (p : Part) (f : Fence) : FailCnt × List Nat :=
  match f.scope, f.record with
  | .dom, _ => (p.fc (failDomKey f.domain), [failDomKey f.domain])
  | .rec_, some r => (p.recFails f.domain r, (List.range 4).map (fun k => failKey f.domain r.num k))
  | .cls k, some r => (p.fc (failKey f.domain r.num k), [failKey f.domain r.num k])
  | _, none => (FailCnt.zero, [])

/-- The value of a fence (R284, R286). -/
def Part.fenceValue (p : Part) (f : Fence) : BitVec 64 :=
  let c := (p.fenceCount f).1
  let wr := p.getF (.ordv f.domain) ORDV.JRNL_PTR.WR_SEQ
  let first := if c.cnt = 0 then wr else c.first
  let shared := f.scope != .dom && f.record == some (.host 15) && p.bit (.ordv f.domain) (ORDV.RQ_RID.SHARED.ix 15)
  BitVec.ofNat 64 (c.cnt + 2 ^ 16 * first + 2 ^ 32 * b2n (decide (256 < (wr + 65536 - first) % 65536)) + 2 ^ 33 * b2n c.unknown + 2 ^ 34 * b2n shared)

/-- Offset of a fence register in its page. -/
def FenceScope.off : FenceScope → Nat
  | .rec_ => 0x100
  | .cls k => 0x108 + 8 * k
  | .dom => 0x128

/-- A held fence completes (R285, R286): once every slot it waits for has resolved and no earlier fence of its record is held, and once the
completion pool has room (R201). Its counts are cleared in the same clock. -/
def Part.fenceDone (p : Part) (i : Nat) : Part :=
  match p.fences[i]? with
  | none => p
  | some f =>
    let before := (p.fences.take i).any (fun e => e.domain == f.domain && f.record.isSome && e.record == f.record)
    if f.wait ≠ [] ∨ before = true ∨ p.cplRoom 1 = false then p
    else
      let v := p.fenceValue f
      let cleared := (p.fenceCount f).2.map (fun k => Undo.fails k (p.fc k))
      let req := Requester.cf (Fin.ofNat 64 f.domain)
      let p1 := (p.fenceCount f).2.foldl (fun (q : Part) k => q.setFc k FailCnt.zero) { (p.dropShadow req) with fences := p.fences.eraseIdx i }
      let p2 := if f.wide then p1 else { p1 with shadow := p1.shadow ++ [(req, 0x2000 + f.scope.off + 4, BitVec.ofNat 32 (v.toNat / 2 ^ 32))] }
      let n := if f.wide then 8 else 4
      let data := (List.range n).map (fun k => BitVec.ofNat 8 (v.toNat / 256 ^ k))
      let c := mkCpl f.rid f.tag (p2.cfRid f.domain) .sc n (f.scope.off % 128) data f.tc
      (p2.withUndo cleared (fun q => q.queueCpl (q.uport f.domain) c f.cls (q.fabricId f.domain) f.domain 19 0 .cpl none)).gateClose f.gate

/-- A write of ORDV.JRNL_SEL latches an entry into JRNL_ENT (R292). -/
def Part.jrnlLatch (p : Part) (d : Nat) (w : BitVec 32) : Part :=
  let pg := Page.ordv d
  let seq := w.toNat % 65536
  let e := p.je d (seq % 256)
  ((((p.setF pg ORDV.JRNL_SEL.SEQ seq).wr (pg.base + 0x150) e.w0).wr (pg.base + 0x154) e.w1).wr (pg.base + 0x158) e.w2).wr (pg.base + 0x15C) e.w3

/-! ### The register target (R87 to R89, R161, R271) -/

/-- A write of MB_CTL (R117, R118): ABORT ends a command that is PENDING; GO in IDLE or DONE starts one. A write of both while a command is
PENDING, for which no rule is given, aborts it and starts none (log entry 18, DESIGN CHOICE). -/
def Part.mbCtl (p : Part) (k : Nat) (w : BitVec 32) : Part :=
  if CFMB.MB_CTL.ABORT.of w = 1 ∧ p.mbPending k = true then p.mbAbort k 5 else if CFMB.MB_CTL.GO.of w = 1 then p.mbGo k else p

/-- One word that the host writes into its view takes effect: registers that act when written do so, the page header's own actions
included; the rest are stored. -/
def Part.hostWord (p : Part) (d : Fin 64) (off : Nat) (w : BitVec 32) : Part :=
  let req := Requester.cf d
  match req.locate off with
  | none => p
  | some (pg, o) =>
    let act : Option (Part → Part) :=
      if pg.hasHdr && o < 0x100 then
        (if o = 0x008 ∧ HDR.PAGE_CTL.SOFT_RESET.of w = 1 then some (fun q => q.softResetOf req pg)
         else if o = 0x018 then some (fun q => q.irqSet pg w.toNat)
         else if o = 0x02C then some (fun q => q.errInject pg w.toNat)
         else if o = 0x040 ∧ HDR.CNT_CTL.CLEAR.of w = 1 then some (fun q => (q.write req off w none).clearCounters pg)
         else none)
      else match pg with
        | .cfmb k => if o = CFMB.MB_CTL.GO.off then
            some (fun q => q.mbCtl k w) else none
        | .ordv k => if o = ORDV.JRNL_SEL.SEQ.off then some (fun q => q.jrnlLatch k w) else none
        | .drc k c => if o = DRC.CH_CTL.EN.off then some (fun q => q.chCtl k c w) else none
        | .telv _ v => if 2 ≤ v ∧ o = 0x100 then some (fun q => q.histLatch pg w) else none
        | .msixTbl k n => if o % 16 = 12 then some (fun q => (q.write req off w none).vecUnmask k (n * 256 + o / 16)) else none
        | _ => none
    match act with
    | some f => f (p.dropShadow req)
    | none => p.write req off w none

/-- A write of the host at the register target: BAR0 registers word by word, a doorbell of BAR2 (R87, R88, R89), of which the upper half of an
8-byte write is reserved. A zero-length
write writes nothing (R381) (log entry 84, PRESUMED). -/
def Part.barWrite (p : Part) (d : Fin 64) (off : Nat) (data : List Byte) : Part :=
  let word := fun (k : Nat) => BitVec.ofNat 32 (((List.range 4).map (fun i => (data.getD (4 * k + i) 0).toNat * 256 ^ i)).sum)
  if data.isEmpty then p
  else if 0x1000000 ≤ off then
    let q := p.dropShadow (.cf d)
    if off % 0x1000 = 0 then q.doorbell d ((off - 0x1000000) / 0x1000) ((word 0).toNat % 65536) else q
  else
    let p1 := p.hostWord d off (word 0)
    if data.length = 8 then p1.hostWord d (off + 4) (word 1) else p1

/-- The addresses of the words that `n` bytes at an offset of a domain's view cover. -/
def viewWords (d off n : Nat) : List Nat := (List.range ((n + 3) / 4)).map (fun k => viewBase d + off + 4 * k)

/-- An uncorrectable error has struck a register that a read of the host covers: it is answered with CA (R99) (log entry 66, DEDUCED). -/
def Part.regStruck (p : Part) (d : Fin 64) (off n : Nat) : Bool := (viewWords d off n).any (fun a => p.regUe.contains a)

/-- A write renews the words it covers (R99) (log entry 66, DEDUCED). -/
def Part.regMend (p : Part) (d : Fin 64) (off n : Nat) : Part := { p with regUe := p.regUe.filter (fun a => !(viewWords d off n).contains a) }

/-- A read of the host at the register target; what a doorbell reads as is free (log entry 60), the words between doorbells are reserved and
read 0 (R89). -/
def Part.barRead (p : Part) (d : Fin 64) (off n : Nat) : Part × List Byte :=
  let x := if 0x1000000 ≤ off then
      (let q := p.dropShadow (.cf d)
       if off % 0x1000 = 0 then (q.free32.1, q.free32.2.setWidth 64) else (q, 0))
    else p.readVal (.cf d) off (n == 8)
  (x.1, (List.range n).map (fun k => BitVec.ofNat 8 (x.2.toNat / 256 ^ k)))

/-! ### Agents consume frames (R160, R161) -/

/-- The local port that a frame's source names. -/
def Frame.srcLp (f : Frame) : Nat :=
  match (f.srcXp, f.srcSub) with
  | (16, _) => 256
  | (17, _) => 257
  | (18, 0) => 258
  | (18, _) => 259
  | (19, 0) => 260
  | (19, _) => 261
  | (x, s) => 8 * x + s

/-- A completion that an agent returns for a request it has taken: to its local port or agent, or in a unit to its chip (R258, R299)
(log entry 61, DEDUCED). -/
def Part.agentCpl (p : Part) (a : Nat) (f : Frame) (m : Tlp) (st : CplStatus) (data : List Byte) : Part :=
  let x := (Dest.agent a).at
  let cid := Config.synthCompleter p.freeCtr
  let p1 := { p with freeCtr := p.freeCtr + 1 }
  let c := mkCpl m.rid m.tag (if a = 4 then p.cfRid f.acct else cid) st (if st = .sc then data.length else m.expects) (m.addr.toNat % 128) data m.tc
  match f.body with
  | .unit h _ => p1.sendReply h h.ortx (.tlp c)
  | .local _ => p1.queueCpl f.srcLp c f.cls f.domf f.acct x.1 x.2 .cpl none

/-- What an agent does with a frame it consumes. The register target performs the access (R87); a Drone takes the data of its reads; a
request that no agent serves is answered with UR (log entry 61). -/
def Part.agentTake (p : Part) (a : Nat) (f : Frame) : Part :=
  match f.body.tlp with
  | none => p
  | some m =>
    if f.kind = 2 then
      match f.chan with
      | some c => p.chanRead (c.1, c.2.1 % 4, c.2.2) (if m.status = .sc then some m.data else none) (decide (4 ≤ c.2.1))
      | none => if a ≤ 1 then ((p.bumpF (.cfn f.acct) CFN.LATE_CPL.COUNT 1).irq (.cfn f.acct) 1).err (.cfn f.acct) 2 else p
    else if a = 4 ∧ f.dest = .agent 4 then
      let d := Fin.ofNat 64 f.acct
      if m.kind = .memRead ∧ p.regStruck d m.addr.toNat m.span = true then (p.agentCpl 4 f m .ca []).gateClose f.gate
      else if m.kind = .memRead then
        let x := p.barRead d m.addr.toNat m.span
        let late := p.getF (.cfn d) CFN.LATE_CPL.COUNT
        let us := if late ≠ 0 ∧ x.1.getF (.cfn d) CFN.LATE_CPL.COUNT = 0 then [Undo.lateCpl d late] else []
        (x.1.withUndo us (fun q => q.agentCpl 4 f m .sc x.2)).gateClose f.gate
      else if m.kind.nonPosted then (p.agentCpl 4 f m .ur []).gateClose f.gate
      else (((p.regMend d m.addr.toNat m.data.length).barWrite d m.addr.toNat m.data).count .ord 1 1 (some f.domf)).writeOutcome f none
    else if f.kind = 1 then p.agentCpl a f m .ur []
    else p

/-- An agent consumes the frame at the head of its line, and its cells are released (R161). The register target waits for completion-pool
cells before it answers a non-posted request (R201). -/
def Part.agentConsume (p : Part) (a : Nat) : Part :=
  let at_ := (Dest.agent a).at
  let k := tqKey at_.1 at_.2 0
  match p.queue k with
  | [] => p
  | x :: r =>
    match p.fr x.frame with
    | none => p.setQueue k r
    | some f =>
      if a = 4 ∧ f.kind = 1 ∧ p.cplRoom 2 = false then p
      else
        let p1 := (p.setQueue k r).agentTake a f
        (f.cells.foldl (fun (q : Part) c => q.decRef c) p1).tidy x.frame

/-! ### Colony's requests (R401) -/

/-- A request that Colony issues as local port 258 names its target port and skips Identify, Claim and Check; it is checked against the
target's owner here, or at the destination chip (R239, R401). -/
def Part.colonyRequest (p : Part) (tr : Trust) (tgt : Nat) (m : Tlp) : Part :=
  let here := decide (tgt / 512 % 128 = p.chip)
  let deny := fun (q : Part) =>
    if m.kind.nonPosted then
      q.queueCpl 258 (mkCpl m.rid m.tag (Config.synthCompleter q.freeCtr) .ur m.expects (m.addr.toNat % 128) [] m.tc) 7 0 0 19 0 .cpl none
    else q
  if m.kind = .cpl ∨ !p.boot.run then p
  else if here && decide (tgt % 512 < 128) && !p.colonyMay tr (tgt % 512) m then deny (p.err .mbx 2)
  else if p.notCarriable tgt 7 then deny p
  else if p.getF .buf BUF.MGMT_RSV.CELLS < p.poolUsed .mgmt + cellsOf (m.bytes + 32) then p
  else p.track (Looked.mk (.agent 2) 0 0 (.agent 2) 0 7 false m tgt false 0 false none none m.addr none false) none none

/-! ### Meanings -/

/-- TLP_RECEIVE (R239): a TLP at a PCIe port. -/
def execTlpReceive (t : Fin 128) (tlp : Tlp) (s : State) := s.via (fun p => p.wellFormedIn t tlp (fun q => q.tlpIn t tlp))

/-- TLP_NULLIFIED (R176): the port's sender nullifies the TLP in progress. -/
def execTlpNullified (t : Fin 128) (s : State) := s.via (fun p => p.nullified t)

/-- COLONY_REQUEST (R401) to a global port. -/
def execColonyRequest (target : BitVec 16) (tlp : Tlp) (s : State) : Host.Outcome State Fault Refusal :=
  s.via (fun p => if p.md.mode.core then p.colonyRequest s.trust target.toNat tlp else p)

/-- TRACK_RESUME (R258): the `i`-th waiting request, which waits for an entry or quota. -/
def execTrackResume (i : Nat) (s : State) := s.via (fun p => (p.resume i 1).cplAgain)

/-- LEDGER_SLOT_RESUME (R275): the `i`-th waiting request, which waits for a slot. -/
def execLedgerSlotResume (i : Nat) (s : State) := s.via (fun p => (p.resume i 2).cplAgain)

/-- GATE_CLEAR (R281): the `i`-th waiting request, which the gate holds. -/
def execGateClear (i : Nat) (s : State) := s.via (fun p => (p.resume i 3).cplAgain)

/-- AGENT_CONSUME (R161). -/
def execAgentConsume (a : Fin 6) (s : State) := s.via (fun p => p.agentConsume a)

/-- COMPLETION_RECEIVE (R261): a completion at a PCIe port. -/
def execCompletionReceive (t : Fin 128) (tlp : Tlp) (s : State) :=
  s.via (fun p => if tlp.kind = .cpl then p.wellFormedIn t tlp (fun q => q.cplIn t tlp) else p)

/-- ORT_DEADLINE (R263). -/
def execOrtDeadline (i : Nat) (s : State) := s.via (fun p => p.ortDeadline i)

/-- QUARANTINE_EXPIRE (R263). -/
def execQuarantineExpire (i : Nat) (s : State) := s.via (fun p => p.quarEnd i)

/-- LEDGER_DEADLINE (R276). -/
def execLedgerDeadline (i : Nat) (s : State) := s.via (fun p => p.slotDeadline i)

/-- FENCE_READ (R284): a memory read at an upstream port, which is a fence where it reads the lower half of a fence register. -/
def execFenceRead (t : Fin 128) (tlp : Tlp) (s : State) :=
  s.via (fun p => if tlp.kind = .memRead then p.wellFormedIn t tlp (fun q => q.receive t tlp) else p)

/-- FENCE_COMPLETE (R286) of the `i`-th held fence. -/
def execFenceComplete (i : Nat) (s : State) := s.via (fun p => p.fenceDone i)

/-- JOURNAL_LATCH (R292). -/
def execJournalLatch (d : Fin 64) (w : Word) (s : State) :=
  s.via (fun p => p.ifPermitted (.cf d) (.ordv d) 0x148 (fun q => q.jrnlLatch d w))

end Sys2Proof.Machine
end

