-- ==== Sys2Proof/Machine/Images.lean ====
section
/-! DEFINITION. What the flash holds (R382): the Jextum file (R46), the keys of the ownership roots, the image copies with their headers (R384, R385);
and the identity keys that Chitin derives at BOOT (R393). What a signature check answers is an operand (log entry 27). -/

namespace Sys2Proof.Machine

/-! ### Bytes of the flash -/

/-- A byte of the flash; an unlisted byte reads as erased (log entry 6, PRESUMED). -/
def Part.flashByte (p : Part) (a : Nat) : Nat := (Sparse.get p.flash 0xFF a).toNat

/-- Bytes of the flash from an offset on. -/
def Part.flashBytes (p : Part) (a n : Nat) : List Nat := (List.range n).map (fun i => p.flashByte (a + i))

/-- The number that bytes spell, the first byte the lowest (R384, R390). A digest is named by the number of its bytes in this order. -/
def leNum (l : List Nat) : Nat := l.foldr (fun b n => b + 256 * n) 0

/-- The `n` lowest bytes of a number, the lowest first. -/
def leList (n v : Nat) : List Nat := (List.range n).map (fun i => v / 256 ^ i % 256)

/-- A little-endian word of the flash. -/
def Part.flashWord (p : Part) (a : Nat) : BitVec 32 := BitVec.ofNat 32 (leNum (p.flashBytes a 4))

/-! ### The Jextum file (R46, R47) -/

/-- The header of the Jextum file at a flash offset has the values of R46. -/
def Part.jxHeader (p : Part) (a : Nat) : Bool :=
  p.flashWord a == 0x4254584A && p.flashWord (a + 4) == 0x01200001 && p.flashWord (a + 8) == 8 &&
    (List.range 11).all (fun k => p.flashWord (a + 20 + 4 * k) == 0)

/-- The verified copy of the file's entries: chip lane L, group g as number 8 L + g. -/
def Part.jxCopy (p : Part) (a : Nat) : Sparse (BitVec 32) :=
  (List.range 2304).filterMap (fun k =>
    let v := p.flashWord (a + 64 + 4 * k)
    if v = 0xFFFFFFFF then none else some (k, v))

/-- SHA-384 of the file's 9,280 bytes. -/
def Part.jxDigest (p : Part) (a : Nat) : BitVec 384 := Config.sha384 (p.flashBytes a 9280)

/-- The file's digest is the active generation's JX_DIGEST (R47, R390). -/
def Part.jxVerified (p : Part) (a : Nat) : Bool := leNum ((List.range 48).map (fun i => p.genB (16 + i))) == (p.jxDigest a).toNat

/-! ### Images (R384, R385) -/

/-- ASCII "CLNY" or "CHTN". -/
def imgMagic (colony : Bool) : BitVec 32 := if colony then 0x594E4C43 else 0x4E544843

/-- The largest BODY_LEN of R384. -/
def imgMax (colony : Bool) : Nat := if colony then 7340032 else 327680

/-- SVN of the image copy at an offset. -/
def Part.imgSvn (p : Part) (a : Nat) : Nat := p.flashByte (a + 6)

/-- VERSION. -/
def Part.imgVersion (p : Part) (a : Nat) : Nat := (p.flashWord (a + 8)).toNat

/-- BODY_LEN. -/
def Part.imgLen (p : Part) (a : Nat) : Nat := (p.flashWord (a + 12)).toNat

/-- BODY_DIGEST. -/
def Part.imgDigest (p : Part) (a : Nat) : Nat := leNum (p.flashBytes (a + 16) 48)

/-- SHA-384 of the body that follows the 8 KiB header. -/
def Part.bodyDigest (p : Part) (a : Nat) : BitVec 384 := Config.sha384 (p.flashBytes (a + 8192) (p.imgLen a))

/-- An image copy is valid (R385): `sig` tells that SIG verifies under the Kimund firmware key, `otp` is the OTP counter. -/
def Part.imgValid (p : Part) (colony : Bool) (a : Nat) (sig : Bool) (otp : Nat) : Bool :=
  p.flashWord a == imgMagic colony && leNum (p.flashBytes (a + 4) 2) == 1 && decide (1 ≤ p.imgLen a ∧ p.imgLen a ≤ imgMax colony) &&
    sig && decide (otp ≤ p.imgSvn a) && p.imgDigest a == (p.bodyDigest a).toNat

/-- The offsets of copies A and B (R382). -/
def imgCopies (colony : Bool) : Nat × Nat := if colony then (0x1000000, 0x1800000) else (0x100000, 0x200000)

/-- The copy that the part runs: of two valid ones the higher SVN, then the higher VERSION, then A; and whether it is the only valid one (R385). -/
def Part.imgPick (p : Part) (colony sigA sigB : Bool) (otp : Nat) : Option (Nat × Bool) :=
  let a := (imgCopies colony).1
  let b := (imgCopies colony).2
  match p.imgValid colony a sigA otp, p.imgValid colony b sigB otp with
  | true, true =>
    if p.imgSvn a < p.imgSvn b ∨ (p.imgSvn a = p.imgSvn b ∧ p.imgVersion a < p.imgVersion b) then some (b, false) else some (a, false)
  | true, false => some (a, true)
  | false, true => some (b, true)
  | false, false => none

/-! ### The keys of the ownership roots (R389, R391) -/

/-- SHA-384 of the public key that the flash holds for a root slot. -/
def Part.rootKeyDigest (p : Part) (r : Nat) : BitVec 384 := Config.sha384 (p.flashBytes (0x10000 + 0x1000 * r) 2592)

/-- The key in flash is the one whose digest the ROOTS region holds. -/
def Part.rootKeyOk (p : Part) (m : Sparse (BitVec 32)) (r : Nat) : Bool :=
  leNum ((List.range 48).map (fun i => otpByte m (0x100 + 64 * r + i))) == (p.rootKeyDigest r).toNat

/-- Of the generation slots whose signature verifies under the flash key of their ROOT_SLOT, those whose key the ROOTS region backs (R391). -/
def Part.sigMask (p : Part) (m : Sparse (BitVec 32)) (sigs : Nat) : Nat :=
  bitsOf ((List.range 8).map (fun g => nbit sigs g && p.rootKeyOk m (genByte (genWords m g) 4)))

/-! ### The identity keys (R393) -/

/-- The bytes of the active generation. -/
def Part.genBytes (p : Part) : List Nat := (List.range 256).map p.genB

/-- The DeviceID and Alias keys of a BOOT: DeviceID from the unique device secret with DEBUG as context, which only with DEBUG 0 has
Kimund's certificate, Alias from the DeviceID seed with the BODY_DIGEST of the running image and the SHA-384 of the active generation, certified by
the DeviceID key. No register shows a secret key. -/
def Part.identity (p : Part) (m : Sparse (BitVec 32)) : Ident :=
  let dev := Config.hkdf384 ((List.range 48).map (fun i => otpByte m (0x40 + i))) [p.getF .otpv OTPV.ACTIVE.DEBUG]
  let ali := Config.hkdf384 (leList 48 dev.toNat) (leList 48 p.boot.chitinImg.1 ++ leList 48 (Config.sha384 p.genBytes).toNat)
  Ident.mk dev ali (!p.bit .otpv OTPV.ACTIVE.DEBUG) (Config.ecdsaSign dev (leList 96 (Config.p384Public ali).toNat))

/-- What the Alias key signs. Without keys, of which there are none before a generation is active, the value is that of an all-zero seed
(log entry 82, DESIGN CHOICE). -/
def Trust.sign (t : Trust) (l : List Nat) : BitVec 768 := Config.ecdsaSign ((t.ident.map (fun i => i.aliasSeed)).getD 0) l

end Sys2Proof.Machine
end

