-- ==== Sys2Proof/Machine/ModeCmds.lean ====
section
/-! DEFINITION. Meanings of the mode commands (R20 to R31, R326 to R330 where they change the role) and of Firefly's own
(R424 to R449). -/

namespace Sys2Proof.Machine

/-- A write of GLB.MODE_REQ with GO and a target (R28). -/
def Part.modeReq (p : Part) (req : Requester) (key : BitVec 8) (goal : Mode) : Part :=
  p.ifPermitted req .glb 0x104 (fun q => (q.setF .glb GLB.MODE_REQ.TARGET goal.code).submitMode req key.toNat goal.code)

/-- MODE_REQ_STANDBY (R518). -/
def execModeReqStandby (req : Requester) (key : BitVec 8) (s : State) := s.via (fun p => p.modeReq req key .standby)

/-- MODE_REQ_SENTINEL (R29). -/
def execModeReqSentinel (req : Requester) (key : BitVec 8) (s : State) := s.via (fun p => p.modeReq req key .sentinel)

/-- MODE_REQ_BOOT (R22) (log entry 23, DEDUCED). -/
def execModeReqBoot (req : Requester) (key : BitVec 8) (s : State) := s.via (fun p => p.modeReq req key .boot)

/-- MODE_REQ_FABRIC_MEMBER (R28). -/
def execModeReqFabricMember (req : Requester) (key : BitVec 8) (s : State) := s.via (fun p => p.modeReq req key .fabricMember)

/-- MODE_REQ_FABRIC_ROOT (R28). -/
def execModeReqFabricRoot (req : Requester) (key : BitVec 8) (s : State) := s.via (fun p => p.modeReq req key .fabricRoot)

/-- HIVE_WITHDRAWAL (R22): a fabric role becomes PARTITIONED. -/
def execHiveWithdrawal (s : State) :=
  s.via (fun p => match p.md.role with
    | some r => if r.isFabric then p.trigger (.role .partitioned 0xB) else p
    | none => p)

/-- A step of the recovery ladder deeper than `step` is running: a warm device reset until BOOT is left, or a power cycle (R365, R366). -/
def Part.deeper (p : Part) (step : Nat) : Bool :=
  (decide (step < 4) && p.md.mode == .boot) || (decide (step < 5) && p.md.going == some .powerCycle)

/-- RECOVER_WARM_RESET (R366): KEY 0xC3. -/
def execRecoverWarmReset (req : Requester) (key : BitVec 8) (s : State) :=
  s.via (fun p => p.ifPermitted req .glb 0x210 (fun q0 =>
    let q := (q0.setF .glb GLB.RECOVER.ACTION 2).count .glb 4 1
    if key ≠ 0xC3 ∨ q.deeper 4 = true then q.setF .glb GLB.RECOVER.REJ 1 else q.trigger (.warm 4)))

/-- RECOVER_POWER_CYCLE (R448, R366). -/
def execRecoverPowerCycle (req : Requester) (key : BitVec 8) (s : State) :=
  s.via (fun p => p.ifPermitted req .glb 0x210 (fun q0 =>
    let q := (q0.setF .glb GLB.RECOVER.ACTION 3).count .glb 4 1
    if key ≠ 0xC3 then q.setF .glb GLB.RECOVER.REJ 1 else q.trigger .powerCycle))

/-- DEGRADED_EXIT (R360): every kind of redundancy consumed is back. -/
def Part.degradedExit (p : Part) : Part :=
  let twins := (List.range 32).all (fun l => !p.bit (.smw l) SMW.LINK_CTL.TWIN_EN || p.getF (.smw l) SMW.LINK_STAT.BREAK_CAUSE == 0 ||
    (p.lk l).twinOk)
  let back := fun (k : Nat) => nbit p.sfgStat.toNat k && (k != 1 || twins)
  match p.md.role with
  | some r => if p.md.mode = .degraded ∧ p.md.lost.all back then p.enter r 7 else p
  | none => p

/-- DEGRADED_EXIT (R360). -/
def execDegradedExit (s : State) := s.via Part.degradedExit

/-! ### Firefly -/

/-- WAKE_SEQUENCE (R432). -/
def execWakeSequence (s : State) := s.via Part.wakeDone

/-- WAKE_STEP_TIMEOUT (R433). -/
def execWakeStepTimeout (s : State) := s.via Part.wakeStepFail

/-- STANDBY_ENTRY_COMPLETE (R428). -/
def execStandbyEntryComplete (s : State) := s.via Part.standbyDone

/-- STANDBY_ENTRY_ACK_MISSING (R428). -/
def execStandbyEntryAckMissing (s : State) := s.via Part.standbyRefused

/-- Every enabled station's lanes start again from their start entries on the return from STANDBY, without steps 2 to 5 of R38 (R430). -/
def Part.relock (p : Part) : Part :=
  let ports := (List.range 128).filter p.present
  let links := (List.range 32).filter (fun l => p.linkPresent l && p.stnOn (l / 2))
  let p1 := ports.foldl (fun (q : Part) t =>
    (q.lanesOf t).foldl (fun (r : Part) k => r.startLane (t / 8) k (rateGroup (r.getF (.port t) PORT.PORT_STAT.RATE)) none) q) p
  links.foldl Part.startLink p1

/-- What the wake's source goes on to once the part is back: a port that saw electrical idle end follows its partner (R445), a sleeping link wakes
(R147, R430). -/
def Part.wokenBy (p : Part) (src idx : Nat) : Part :=
  if src = 2 then p.idleFollow (8 * (idx / 16) + idx % 16 / 2)
  else if src = 3 ∧ p.linkState (idx - 256) = 7 then p.enterWait (idx - 256) else p

/-- STANDBY_WAKE (R430). -/
def execStandbyWake (retained : Bool) (s : State) :=
  s.via (fun p =>
    let q := p.standbyWake retained
    match p.md.going with
    | some (.wake src idx) => if p.md.mode = .standby ∧ retained ∧ q.md.mode = p.md.from_ then q.relock.wokenBy src idx else q
    | _ => q)

/-- A time that FFY.IDLE_CTL sets has passed since `idleSince`. -/
def Part.idleFor (p : Part) (ns : Nat) : Bool := match p.ffy.idleSince with
  | some t => decide (t + ns ≤ p.now)
  | none => false

/-- IDLE_STANDBY_TIMER (R427): the acceptance condition has held for STBY_MS. -/
def execIdleStandbyTimer (s : State) :=
  s.via (fun p =>
    let ms := p.getF .ffy FFY.IDLE_CTL.STBY_MS
    if p.md.mode = .transparent ∧ ms ≠ 0 ∧ p.standbyOk ∧ p.idleFor (ms * 1000000) then p.trigger (.idlePolicy .standby) else p)

/-- IDLE_SENTINEL_TIMER (R427): STANDBY has lasted for SENT_S. -/
def execIdleSentinelTimer (s : State) :=
  s.via (fun p =>
    let sec := p.getF .ffy FFY.IDLE_CTL.SENT_S
    if p.md.mode = .standby ∧ sec ≠ 0 ∧ p.idleFor (sec * 1000000000) then p.trigger (.idlePolicy .sentinel) else p)

/-- THERMAL_SAMPLE (R425): Firefly runs in every mode but OFF. -/
def execThermalSample (temps : List Nat) (uv ov : Nat) (s : State) :=
  s.via (fun p => if p.md.mode = .off then p else p.thermal temps uv ov)

/-- TRIP (R426): the trip that a sample qualified. -/
def execTrip (s : State) :=
  s.via (fun p => match p.ffy.tripQ with
    | some (c, k, r) => p.trip c k r
    | none => p)

/-- TRIP_WAKE_HOLD_END (R426): held wakes whose inputs still stand are acted on. -/
def execTripWakeHoldEnd (stand : Bool) (s : State) :=
  s.via (fun p => if p.wakesHeld then p else
    let l := if stand then p.ffy.held else []
    l.foldl (fun q e => q.trigger (.wake e.1 e.2)) { p with ffy := { p.ffy with held := [] } })

/-- TRIP_CLEAR (R426): a write of TRIP_STAT.CLEAR. -/
def execTripClear (req : Requester) (s : State) := s.via (fun p => p.ifPermitted req .ffy 0x140 Part.clearTrip)

/-- REFCLK_LOSS (R444): loss of REFCLK, or of the core PLL's lock, while the rails are on. -/
def execRefclkLoss (pll : Bool) (s : State) :=
  s.via (fun p => if (if pll then p.md.mode.core else p.md.mode.rails) then p.trip (if pll then 5 else 4) 0 0 else p)

/-- AVS_REQUEST (R436). -/
def execAvsRequest (k : Fin 4) (s : State) := s.via (fun p => if p.md.mode.rails then p.avsRequest k else p)

/-- AVS_ACK (R436). -/
def execAvsAck (k : Fin 4) (mv : Nat) (s : State) := s.via (fun p => p.avsAck k mv)

/-- AVS_ATTEMPT_FAIL (R436): 1 no response, 2 bad CRC, 3 error status, 4 VDone absent. -/
def execAvsAttemptFail (k : Fin 4) (why : Fin 5) (s : State) := s.via (fun p => p.avsFail k why)

/-- AVS_SILENT_PROBE (R438). -/
def execAvsSilentProbe (k : Fin 4) (good : Bool) (s : State) := s.via (fun p => p.avsProbe k good)

/-- LOAD_STEP_HOLD_END (R439): HOLD_US has passed since the last event; VT without the offset is sent by a request of its own. -/
def execLoadStepHoldEnd (s : State) :=
  s.via (fun p => match p.ffy.hold with
    | some t => if t ≤ p.now then ({ p with ffy := { p.ffy with hold := none } }).setF .pwr PWR.LOAD_STAT.HOLD 0 else p
    | none => p)

/-- RAMP_LIMITER_UPDATE (R440): `want` is the current the traffic asks for; how many matches the cap leaves is a free value
(log entry 49, DEDUCED) (log entry 19, DESIGN CHOICE). -/
def execRampLimiterUpdate (want : Nat) (s : State) :=
  s.via (fun p =>
    let prev := p.getF .pwr PWR.LOAD_STAT.EST_A
    let ramp := min 10 (max 1 (p.getF .pwr PWR.RAMP_CFG.RAMP_A))
    let lim := min p.ceiling (prev + ramp)
    let p1 := (p.setF .pwr PWR.LOAD_STAT.EST_A (min lim want)).setF .pwr PWR.LOAD_STAT.CEIL_A p.ceiling
    if lim < want then
      let x := (p1.setF .pwr PWR.LOAD_STAT.LIMITING 1).free32
      { (x.1.count .pwr 4 1) with ffy := { x.1.ffy with cap := x.2.toNat % 81 } }
    else { (p1.setF .pwr PWR.LOAD_STAT.LIMITING 0) with ffy := { p1.ffy with cap := 80 } })

/-- SHALLOW_MV: below 10 acts as 10. -/
def Part.shallowMv (p : Part) : Nat := max 10 (p.getF .clk CLK.DROOP_CFG.SHALLOW_MV)

/-- DEEP_MV: not above SHALLOW_MV acts as SHALLOW_MV + 10, below 10 as 10. -/
def Part.deepMv (p : Part) : Nat :=
  let d := max 10 (p.getF .clk CLK.DROOP_CFG.DEEP_MV)
  if d ≤ p.shallowMv then p.shallowMv + 10 else d

/-- DROOP_DETECT (R441): a detector reads `mv` below the target. -/
def execDroopDetect (mv : Nat) (s : State) :=
  s.via (fun p =>
    if p.deepMv ≤ mv then
      (({ p with ffy := { p.ffy with stretch := 2 } }).count .clk 1 1).err .clk 0
    else if p.shallowMv ≤ mv then
      ({ p with ffy := { p.ffy with stretch := max 1 p.ffy.stretch } }).count .clk 0 1
    else p)

/-- DROOP_RECOVER (R441): the stretch ends after `cycles` stretched core cycles. -/
def execDroopRecover (cycles : Nat) (s : State) :=
  s.via (fun p => if p.ffy.stretch = 0 then p
    else ({ p with ffy := { p.ffy with stretch := 0 } }).count .clk 2 cycles)

/-- POWER_CYCLE_HOLD_END (R448). -/
def execPowerCycleHoldEnd (s : State) := s.via Part.cycleDone

/-- FIREFLY_RESTART (R354, R446): the controller alone restarts; pins, timers and regulator state hold. -/
def execFireflyRestart (s : State) := s.via (fun p => if p.md.mode = .off then p else (p.count .ffy 7 1).err .ffy 4)

/-- FAULT_N (R24, R337, R426): a trip, FENCED, or a failed BOOT. -/
def Part.faultN (p : Part) : Bool :=
  p.bit .ffy FFY.TRIP_STAT.FAULT || p.md.mode == .fenced || p.bootFailed

/-- ALERT_N (R337, R449). -/
def Part.alertN (p : Part) : Bool :=
  if p.md.mode.core then nbit p.errSum.toNat 25 || p.md.mode == .degraded || p.md.mode == .fenced
  else !p.coolerThan (p.getF .ffy FFY.TEMP_CFG.WARN_C : Int)

/-- The hottest sensor in whole degrees. -/
def Part.hottest (p : Part) : Int := (p.temps.foldl max (-1024)) / 4

/-- The eight bytes of SMBus STATUS (R449). -/
def Part.smbStatus (p : Part) : List Byte :=
  let silent := (List.range 4).any p.silent
  [BitVec.ofNat 8 p.md.mode.code, BitVec.ofNat 8 (p.getF .ffy FFY.WAKE_LAST.SRC), BitVec.ofNat 8 (p.getF .ffy FFY.TRIP_STAT.CAUSE),
   BitVec.ofInt 8 p.hottest,
   BitVec.ofNat 8 (b2n p.faultN + 2 * b2n p.alertN + 4 * b2n silent + 8 * b2n (p.bit .pwr PWR.LOAD_STAT.THROTTLED)
     + 16 * b2n p.md.sentIntent), BitVec.ofNat 8 (p.getF .pwr PWR.RAIL_STAT.PG), 0, 0]

/-- SMBUS_STATUS (R449). -/
def execSmbusStatus (s : State) := s.via (fun p => if p.md.mode = .off then p else p.emit (.reply 0xD0 p.smbStatus))

/-- TEMPS (R449). -/
def execTemps (s : State) :=
  s.via (fun p => if p.md.mode = .off then p
    else p.emit (.reply 0xD1 ((List.range 8).flatMap (fun k =>
      [BitVec.ofNat 8 (p.getF .ffy (FFY.TEMP.VALUE.ix k)), BitVec.ofNat 8 (p.getF .ffy (FFY.TEMP.VALUE.ix k) / 256)]))))

/-- A command with a data byte (R449): a wrong byte, or a command that the mode does not accept, is answered with a NACK and changes nothing. -/
def Part.bmcWrite (p : Part) (code : Nat) (ok : Bool) (f : Part → Part) : Part :=
  if p.md.mode = .off then p else if ok then f p else p.emit (.nack code)

/-- CLEAR_FAULT (R449). -/
def execClearFault (data : BitVec 8) (s : State) := s.via (fun p => p.bmcWrite 0xD2 (data == 0xA5) Part.clearTrip)

/-- POWER_CYCLE (R448): accepted with the rails on. -/
def execPowerCycle (data : BitVec 8) (s : State) :=
  s.via (fun p => p.bmcWrite 0xD3 (data == 0x3C && p.md.mode.rails) (fun q => q.trigger .powerCycle))

/-! ### Stations -/

/-- STATION_ENABLE (R38). -/
def execStationEnable (n : Fin 16) (s : State) := s.via (fun p => p.stnAnnounce n)

/-- STATION_POWER_UP (R38). -/
def execStationPowerUp (n : Fin 16) (ok : Bool) (s : State) := s.via (fun p => p.stnPowerUp n ok)

/-- PCIE_RATE_CHANGE (R50): `found` gives what each lane measures, lowest lane first. -/
def execPcieRateChange (t : Fin 128) (rate : Fin 7) (found : List LaneMeas) (s : State) :=
  s.via (fun p => if p.present t then p.rateChange t rate found else p)

/-- BACKGROUND_ADAPT (R51): the eyes measured at the current code and at the trial code. -/
def execBackgroundAdapt (n : Fin 16) (lane : Fin 16) (eCur eTry : List (Nat × Nat)) (s : State) :=
  s.via (fun p => p.bgAdapt n lane eCur eTry)

/-- L0P_WIDTH_REDUCE (R70). -/
def execL0pWidthReduce (t : Fin 128) (width : Nat) (s : State) := s.via (fun p => p.widthDown t width)

/-- L0P_WIDTH_INCREASE (R70). -/
def execL0pWidthIncrease (t : Fin 128) (width : Nat) (s : State) := s.via (fun p => p.widthUp t width)

/-- MARGIN_GO (R71). -/
def execMarginGo (req : Requester) (n : Fin 16) (w : Word) (s : State) :=
  s.via (fun p => p.ifPermitted req (.serdes n) 0x110 (fun q => q.marginGo n w))

/-- MARGIN_RUN_END (R71). -/
def execMarginRunEnd (n : Fin 16) (errors : Nat) (s : State) := s.via (fun p => p.marginEnd n errors)

/-- ALIGN_GROUP (R68). -/
def execAlignGroup (l : Fin 32) (s : State) :=
  s.via (fun p => if p.linkState l = 0 ∨ 6 ≤ p.linkState l then p else p.sendAlign l)

/-- CLK.L1SS_ADV: the port advertises L1.1 and L1.2 (R445). -/
def Part.l1ssAdv (p : Part) (t : Nat) : Bool := nbit (p.getF .clk (CLK.L1SS_ADV.PORT.ix (t / 32))) (t % 32)

/-- PCIE_L1_SUBSTATE_CHANGE (R518): the port enters L1, or L1.1 or L1.2 where it advertises them (R445), or leaves it for L0; the idle count of R427
restarts when the acceptance condition breaks. -/
def execPcieL1SubstateChange (t : Fin 128) (goal : Ltssm) (s : State) :=
  s.via (fun p =>
    let from_ := (p.pt t).ltssm
    let isL1 := fun (x : Ltssm) => x = .l1 ∨ x = .l11 ∨ x = .l12
    if ¬((isL1 from_ ∨ from_ = .l0 ∨ from_ = .l0p) ∧ (isL1 goal ∨ goal = .l0)) ∨ ((goal = .l11 ∨ goal = .l12) ∧ p.l1ssAdv t = false) then p
    else (p.setPt t { p.pt t with ltssm := goal }).idleWatch)

end Sys2Proof.Machine
end

