-- ==== Sys2Proof/Machine/Tables.lean ====
section
/-! DEFINITION. The tables behind TBL: their shapes, the structural rules, the Guarded Write Port's checks, and what a written
entry changes (R77, R82, R83, R243 to R251, R257, R266, R304, R305, R320, R406 to R408, R485, R486, R521, R522). -/

namespace Sys2Proof.Machine

/-! ### Shapes (R82, R83, R243, R249, R257, R304, R320, R485) -/

/-- Entries of a table. -/
def tblCount (t : Nat) : Nat := [16384, 65536, 16384, 4096, 131072, 64, 8192].getD t 0

/-- Words of an entry. -/
def tblWords (t : Nat) : Nat := [16, 8, 8, 8, 8, 4, 4].getD t 0

/-- The bits of word `w` that a write sets; the others are reserved, or read-only (INTX of an FBT entry). -/
def tblMask (t w : Nat) : BitVec 32 :=
  match t with
  | 0 => if w ≤ 1 then 0xFFFFFFFF else if w ≤ 3 then 0 else if w % 2 = 0 then 0xFFFFF03F else 0xFFFFFFFF
  | 1 => [0x07FFFFFF, 0x00FFFFFF, 0xFFFFFFFF, 0xFFFFFFFF, 0xFFFFFFFF, 0xFFFFFFFF, 0x0000FFFF, 0].getD w 0
  | 2 => [0x000000FF, 0x1F1F1F1F, 0x1F1F1F1F, 0xFFFFFFFF, 0xFFFFFFFF, 0, 0, 0].getD w 0
  | 3 => [0x0000007F, 0xFFFFFFFF, 0xFFFFFFFF, 0xFFFFFFFF, 0xFFFFFFFF, 0xFFFFFFFF, 0x0000003F, 0].getD w 0
  | 5 => [0x000FFFFF, 1].getD w 0
  | 6 => [0x000003FF, 0x0000FFFF].getD w 0
  | _ => 0

/-- STATE of a tracker entry as R257 codes it. -/
def OrtState.code : OrtState → Nat
  | .free => 0 | .localE => 1 | .origin => 2 | .far => 3 | .quarantine => 4

/-- Words of a tracker entry (R257). -/
def OrtEnt.words (e : OrtEnt) : List (BitVec 32) :=
  [e.state.code + 8 * (e.op % 4) + 32 * (e.domain % 64) + 2048 * (e.fabricId % 4096), e.origRid.toNat + 65536 * (e.origTag % 16384),
   e.target % 65536 + 65536 * (e.tgtTag % 16384) + 2 ^ 30 * b2n e.tagBound, e.source % 65536 + 65536 * (e.remain % 8192), e.deadline % 2 ^ 32,
   e.originChip % 128 + 128 * (e.originIdx % 131072), e.tgtRid.toNat, 0].map (BitVec.ofNat 32)

/-- An entry as TBL reads it. -/
def Part.entry (p : Part) (t i : Nat) : List (BitVec 32) :=
  if t = 4 then (p.oe i).words else (List.range (tblWords t)).map (fun w => p.tw t i w)

/-- Bits [lo + n - 1 : lo] of word `w` of an entry. -/
def ef (e : List (BitVec 32)) (w lo n : Nat) : Nat := (e.getD w 0).toNat / 2 ^ lo % 2 ^ n

/-- A 64-bit field of words `w` and `w + 1`. -/
def ef64 (e : List (BitVec 32)) (w : Nat) : Nat := ef e w 0 32 + 2 ^ 32 * ef e (w + 1) 0 32

/-- The entry is in force: VALID, PRESENT, or ATTACHED or REMOTE (R522). -/
def entryOn (t : Nat) (e : List (BitVec 32)) : Bool := ef e 0 0 1 == 1 || (t == 5 && ef e 1 0 1 == 1)

/-- An entry with its VALID, PRESENT, or ATTACHED and REMOTE bits at 0, as an invalidate leaves it (R266). -/
def entryOff (t : Nat) (e : List (BitVec 32)) : List (BitVec 32) :=
  let e1 := e.set 0 (e.getD 0 0 &&& 0xFFFFFFFE)
  if t = 5 then e1.set 1 (e1.getD 1 0 &&& 0xFFFFFFFE) else e1

/-- Stores an entry. -/
def Part.setEntry (p : Part) (t i : Nat) (e : List (BitVec 32)) : Part :=
  (List.range (tblWords t)).foldl (fun q w => q.setTw t i w (e.getD w 0)) p

/-! ### Structural rules: 0 OK, 3 BAD_FIELD, 4 DUP, 5 OVERLAP, 6 CAPACITY -/

/-- Base of BAR slot `k` of an FBT entry. -/
def fbtBase (e : List (BitVec 32)) (k : Nat) : Nat := ef64 e (4 + 2 * k) / 4096 * 4096

/-- BAR slot `k` of an FBT entry is wrong (R244). A slot describes a 64-bit BAR when its size or its base does not fit 32 bits. -/
def fbtSlotBad (e : List (BitVec 32)) (k : Nat) : Bool :=
  let s := ef e (4 + 2 * k) 0 6
  let wide := decide (31 < s) || ef e (5 + 2 * k) 0 32 != 0
  s != 0 && (decide (s < 12 ∨ 40 < s) || fbtBase e k % 2 ^ s != 0 || (wide && (k == 5 || ef e (6 + 2 * k) 0 6 != 0)))

/-- The FBT's rules (R244) (log entry 37, DEDUCED). -/
def Part.fbtRule (p : Part) (i : Nat) (e : List (BitVec 32)) : Nat :=
  let t := ef e 0 3 7
  let d := ef e 0 10 6
  let vb := ef e 0 16 7
  let pf := ef e 1 17 14
  let pfOk := pf != i && (p.validIn 0).contains pf && p.tf 0 pf 1 16 1 == 0 && p.tf 0 pf 0 3 7 == t
  if p.role t ≠ 3 ∨ !(p.vbPresent d vb && p.vbKind d vb == 1) ∨ (List.range 6).any (fbtSlotBad e) = true ∨
    (ef e 1 31 1 = 1 ∧ (ef e 1 16 1 = 0 ∨ !pfOk)) then 3
  else if (p.validIn 0).any (fun f => f != i && ((p.tf 0 f 0 3 7 == t && p.tf 0 f 1 0 16 == ef e 1 0 16) ||
    (p.fbtDom f == d && p.tf 0 f 0 16 7 == vb && p.tf 0 f 0 23 8 == ef e 0 23 8))) then 4
  else 0

/-- The WTT's rules (R250, R251). -/
def Part.wttRule (p : Part) (tr : Trust) (i : Nat) (e : List (BitVec 32)) : Nat :=
  let s := ef e 0 20 6
  let b := ef64 e 2
  let g := ef64 e 4
  if s < 21 ∨ 40 < s ∨ b % 2 ^ s ≠ 0 ∨ g % 2 ^ 21 ≠ 0 ∨ 2 ^ 64 < g + 2 ^ s ∨ 5 < ef e 0 9 3 ∨ 128 ≤ ef e 1 8 16 % 512 ∨
    (ef e 0 26 1 = 1 ∧ tr.streams.all (fun x => x.1 != ef e 1 0 8) = true) then 3
  else if (p.validIn 1).any (fun w => w != i && p.tf 1 w 0 14 6 == ef e 0 14 6 &&
    sharedBytes b (b + 2 ^ s) (p.tq64 1 w 2) (p.tq64 1 w 2 + 2 ^ p.tf 1 w 0 20 6) != 0) then 5
  else if 2 ^ 25 < (((p.validIn 1).filter (fun w => w != i)).map (fun w => 2 ^ (p.tf 1 w 0 20 6 - 21))).sum + 2 ^ (s - 21) then 6
  else 0

/-- The FRT's rules (R305); a LOCAL entry's path fields are ignored. -/
def Part.frtRule (p : Part) (i : Nat) (e : List (BitVec 32)) : Nat :=
  let links := (List.range (ef e 0 5 3 + 1)).map (fun k => ef e (1 + k / 4) (8 * (k % 4)) 5)
  let masks := (List.range (ef e 0 5 3 + 1)).map (fun k => ef e (3 + k / 4) (8 * (k % 4)) 8)
  let isLocal := ef e 0 1 1 == 1
  if isLocal ≠ (i / 128 == p.chip) then 3
  else if isLocal then 0
  else if links.eraseDups.length ≠ links.length ∨ masks.foldl (fun a m => a ||| m) 0 ≠ 255 then 3
  else 0

/-- The domain table's rules (R82) (log entry 37, DEDUCED). -/
def Part.domRule (p : Part) (i : Nat) (e : List (BitVec 32)) : Nat :=
  let up := ef e 0 13 7
  if ef e 0 0 1 = 1 ∧ (ef e 1 0 1 = 1 ∨ p.role up ≠ 1 ∨ p.getF (.port up) PORT.PORT_CTL.DOMAIN ≠ i) then 3
  else if (List.range 64).any (fun j => j != i && (p.tf 5 j 0 0 1 == 1 || p.tf 5 j 1 0 1 == 1) && p.tf 5 j 0 1 12 == ef e 0 1 12) then 4
  else 0

/-- The field cases of the virtual bridge table (R79, R83), for an entry written with PRESENT 1. -/
def Part.vbFieldBad (p : Part) (i : Nat) (e : List (BitVec 32)) : Bool :=
  let d := i / 128
  let vb := i % 128
  let kind := ef e 0 1 2
  let t := ef e 0 3 7
  kind == 3 || (kind == 2 && ef e 1 15 1 == 0) || (vb % 8 != 0 && !p.vbPresent d (vb / 8 * 8)) ||
    (kind == 0 && !(p.role t == 2 && p.getF (.port t) PORT.PORT_CTL.DOMAIN == d && p.getF (.port t) PORT.PORT_CTL.VB == vb))

/-- The cases about a change of PRESENT or of KIND (R83), for every write (log entry 37, DEDUCED). -/
def Part.vbChangeBad (p : Part) (i : Nat) (e : List (BitVec 32)) : Bool :=
  let d := i / 128
  let vb := i % 128
  let was := p.vbPresent d vb
  let is := ef e 0 0 1 == 1
  (was && !is && vb % 8 == 0 && (List.range 7).any (fun k => p.vbPresent d (vb + 1 + k))) ||
    (p.vbKind d vb == 1 && ef e 0 1 2 != 1 && (p.fnsOf d vb) != []) || (was != is && p.tf 5 d 0 0 1 == 1)

/-- The structural rules of a table for an entry about to be written (R522) (log entry 37, DEDUCED). -/
def Part.tblRule (p : Part) (tr : Trust) (t i : Nat) (e : List (BitVec 32)) : Nat :=
  if t = 6 then (if (entryOn 6 e && p.vbFieldBad i e) || p.vbChangeBad i e then 3 else 0)
  else if !entryOn t e then 0
  else match t with
    | 0 => p.fbtRule i e
    | 1 => p.wttRule tr i e
    | 2 => p.frtRule i e
    | 5 => p.domRule i e
    | _ => 0

/-! ### The Guarded Write Port (R408) -/

/-- The function an FBT entry binds. -/
def fbtRes (e : List (BitVec 32)) : Res := .fn (ef e 0 3 7) (BitVec.ofNat 16 (ef e 1 0 16))

/-- The record of the function at FBT index `f` is held by another domain than `d`. -/
def Part.fnElse (p : Part) (tr : Trust) (f d : Nat) : Bool :=
  match tr.ownOf (fbtRes (p.entry 0 f)) with
  | some (.owned x) => x != d
  | _ => false

/-- The check of a valid FBT entry: the function, and the rules of SRIOV_LOCK. -/
def Part.guardFbt (p : Part) (tr : Trust) (i : Nat) (e : List (BitVec 32)) : Bool :=
  let d := ef e 0 10 6
  let pf := ef e 1 17 14
  let vfOk := !(ef e 1 31 1 == 1 && p.fnElse tr pf d) || p.tf 0 pf 0 31 1 == 1
  let unlock := p.tf 0 i 0 31 1 == 1 && ef e 0 31 1 == 0
  let vfs := (p.validIn 0).filter (fun v => p.tf 0 v 1 16 1 == 1 && p.tf 0 v 1 31 1 == 1 && p.tf 0 v 1 17 14 == i)
  tr.mayBind (fbtRes e) d && vfOk && !(unlock && vfs.any (fun v => p.fnElse tr v d))

/-- The check of a valid window. -/
def Part.guardWtt (p : Part) (tr : Trust) (e : List (BitVec 32)) : Bool :=
  let d := ef e 0 14 6
  let tgt := ef e 1 8 16
  let lo := ef64 e 4
  let hi := lo + 2 ^ ef e 0 20 6
  let g := tr.grant (ef e 6 0 16)
  let known := p.tf 5 d 0 0 1 == 1 || p.tf 5 d 1 0 1 == 1
  if tgt / 512 % 128 ≠ p.chip then ef e 6 0 16 == 0 || g.isSome
  else p.ownsAll tr (tgt % 512) lo hi d || (match g with
    | some x => x.kind == 0 && known && x.grantee == p.fabricId d && x.target == tgt && decide (x.base ≤ lo ∧ hi ≤ x.base + 2 ^ x.log2) &&
        (List.range 3).all (fun k => ef e 0 (2 + k) 1 == 0 || nbit x.perm k) && (ef e 0 8 1 == 0 || x.atsOk)
    | none => false)

/-- A member of a multicast group is owned by domain `d` or covered by a MULTICAST grant of its owner to `d` for the group
(log entry 38, DEDUCED). -/
def Part.memberOk (p : Part) (tr : Trust) (i lp : Nat) : Bool :=
  let d := i / 64
  tr.ownedBy (.port lp) d || (match tr.ownOf (.port lp) with
    | some (.owned o) => tr.grants.any (fun x => match x.2 with
      | some g => x.1 != 0 && g.kind == 1 && g.mcg == i && g.target == p.gport lp && g.grantor == p.fabricId o && g.grantee == p.fabricId d
      | none => false)
    | _ => false)

/-- Local ports that are members of a Multicast Group Table entry: ports, then agents. -/
def mgtMembers (e : List (BitVec 32)) : List Nat :=
  (List.range 128).filter (fun t => ef e (1 + t / 32) (t % 32) 1 == 1) ++ ((List.range 6).filter (fun a => ef e 6 a 1 == 1)).map (fun a => 256 + a)

/-- The check of a domain table entry with ATTACHED or REMOTE 1. -/
def Part.guardDom (tr : Trust) (i : Nat) (e : List (BitVec 32)) : Bool :=
  let fixed := Sparse.get tr.fixed 0 i
  (ef e 0 0 1 == 0 || tr.ownedBy (.port (ef e 0 13 7)) i) && !(tr.holds i && fixed != 0 && fixed != ef e 0 1 12 + 1)

/-- The check of R408 for an entry about to be written through window 0. What leaves an entry not in force always passes
(log entry 38, DEDUCED). -/
def Part.guardOk (p : Part) (tr : Trust) (t i : Nat) (e : List (BitVec 32)) : Bool :=
  if !entryOn t e then true
  else match t with
    | 0 => p.guardFbt tr i e
    | 1 => p.guardWtt tr e
    | 3 => (mgtMembers e).all (p.memberOk tr i)
    | 5 => Part.guardDom tr i e
    | 6 => ef e 0 1 2 != 0 || tr.ownedBy (.port (ef e 0 3 7)) (i / 128)
    | _ => true

/-! ### What a written entry changes -/

/-- Backing of a port beyond its outstanding credit returns to its pools (R521). -/
def Part.releaseAllFree (p : Part) (t : Nat) : Part := ((p.releaseFreeBacking t 0).releaseFreeBacking t 1).releaseFreeBacking t 2

/-- An FBT entry is written. A binding of another function, domain, bridge or VDEVFN starts without INTx bits, emulated BARs and FLR (R98); records
follow (R406), and backing (R521). -/
def State.commitFbt (s : State) (i : Nat) (e : List (BitVec 32)) : State :=
  let p := s.part
  let old := p.entry 0 i
  let was := entryOn 0 old
  let is := entryOn 0 e
  let same := was && is && fbtRes old == fbtRes e && ef old 0 10 21 == ef e 0 10 21
  let p1 := if same then p else
    let q := p.intxClearFn i
    { q with cfg := q.cfg.filter (fun x => x.1 / 8 != vbarKey i 0 / 8), flr := Sparse.set q.flr 0 i 0 }
  let p2 := p1.setEntry 0 i (e.set 2 (p1.tw 0 i 2))
  let p3 := if same then p2 else (p2.releaseAllFree (ef old 0 3 7)).releaseAllFree (ef e 0 3 7)
  let t1 := if was && !(is && fbtRes old == fbtRes e) then s.trust.unbind (fbtRes old) else s.trust
  let t2 := if is then t1.setOwn (fbtRes e) (some (.owned (ef e 0 10 6))) else t1
  { s with part := p3, trust := t2 }.settleGrants

/-- A domain table entry is written; Chitin fixes the fabric ID of an index that owns nothing (R408). -/
def State.commitDom (s : State) (i : Nat) (e : List (BitVec 32)) : State :=
  let fix := entryOn 5 e && (!s.trust.holds i || Sparse.get s.trust.fixed 0 i == 0)
  let t1 := if fix then { s.trust with fixed := Sparse.set s.trust.fixed 0 i (ef e 0 1 12 + 1) } else s.trust
  { s with part := s.part.setEntry 5 i e, trust := t1 }.settleGrants

/-- Presence Detect Changed in the Slot Status of a bridge, with its hot-plug interrupt (R83; layout of log entry 12). -/
def Part.presenceChanged (p : Part) (d vb : Nat) : Part :=
  (p.setCf d (2 + vb) 0x88 19 1 1).bridgeMsi d vb (p.cf d (2 + vb) 0x88 3 1 = 1 ∧ p.cf d (2 + vb) 0x88 5 1 = 1)

/-- A virtual bridge table entry is written: a bridge that appears or goes starts from reset, and a change of KIND shows in the slot and
to the domain (R83, R92). -/
def Part.commitBridge (p : Part) (i : Nat) (e : List (BitVec 32)) : Part :=
  let d := i / 128
  let vb := i % 128
  let was := p.vbPresent d vb
  let is := ef e 0 0 1 == 1
  let turned := was && is && p.vbKind d vb != ef e 0 1 2
  let p1 := p.setEntry 6 i e
  let p2 := if was ≠ is then p1.resetCfg d (2 + vb) false else p1
  let p3 := if turned then p2.irq (.cfn d) 4 else p2
  if turned && ef e 1 15 1 == 1 && p.tf 5 d 0 0 1 == 1 then (p3.presenceChanged d vb).dllChanged d vb else p3

/-- An accepted entry takes effect. -/
def State.commitEntry (s : State) (t i : Nat) (e : List (BitVec 32)) : State :=
  match t with
  | 0 => s.commitFbt i e
  | 5 => s.commitDom i e
  | 6 => { s with part := s.part.commitBridge i e }
  | _ => { s with part := s.part.setEntry t i e }

/-! ### An access (R266, R486, R522) -/

/-- The window of a requester: Colony's is 0, Chitin's 1. -/
def Requester.window : Requester → Option Nat
  | .colony => some 0
  | .chitin => some 1
  | .cf _ => none

/-- The words of ACC_DATA that a write takes: those of the entry, without reserved bits (log entry 36, DESIGN CHOICE). -/
def Part.accData (p : Part) (w t : Nat) : List (BitVec 32) :=
  (List.range (tblWords t)).map (fun k => BitVec.ofNat 32 (p.getF .tbl (TBL.ACC_DATA.DATA.ix2 w k)) &&& tblMask t k)

/-- ACC_DATA holds an entry as read or as written; words beyond it read 0. -/
def Part.showEntry (p : Part) (w : Nat) (e : List (BitVec 32)) : Part :=
  (List.range 16).foldl (fun (q : Part) k => q.setF .tbl (TBL.ACC_DATA.DATA.ix2 w k) (e.getD k 0).toNat) p

/-- RESULT of an access through window `w` and the entry it writes, in the order of R522. -/
def State.tblDecide (s : State) (w t i op : Nat) : Nat × Option (List (BitVec 32)) :=
  if 7 ≤ t then (2, none)
  else if tblCount t ≤ i then (1, none)
  else if op = 3 then (3, none)
  else if op = 0 then (0, none)
  else if t = 4 then (8, none)
  else
    let e := if op = 1 then s.part.accData w t else entryOff t (s.part.entry t i)
    let r := s.part.tblRule s.trust t i e
    if r ≠ 0 then (r, none)
    else if w = 0 ∧ op = 1 ∧ !s.part.guardOk s.trust t i e then (7, none)
    else (0, some e)

/-- An access of window `w` with its table, index and operation (log entry 36, DESIGN CHOICE). -/
def State.tblRun (s : State) (w t i op : Nat) : State :=
  let x := s.tblDecide w t i op
  let s1 := match x.2 with
    | some e => s.commitEntry t i e
    | none => s
  let p1 := s1.part.setF .tbl (TBL.ACC_STAT.RESULT.ix w) x.1
  { s1 with part := if x.1 = 0 then p1.showEntry w (p1.entry t i) else p1.err .tbl 4 }

/-- A write of ACC_CTL with GO and an operation, for the TABLE and INDEX that the register holds (R266) (log entry 36, DESIGN CHOICE). -/
def State.tblAccess (s : State) (req : Requester) (op : Nat) : State :=
  match req.window with
  | none => s
  | some w =>
    let x := s.part.permitted req .tbl (0x100 + 0x80 * w)
    if !x.1 then { s with part := x.2 }
    else
      let p := x.2.setF .tbl (TBL.ACC_CTL.OP.ix w) op
      { s with part := p }.tblRun w (p.getF .tbl (TBL.ACC_CTL.TABLE.ix w)) (p.getF .tbl (TBL.ACC_CTL.INDEX.ix w)) op

/-! ### PORT_CTL (R77, R406, R408, R521) -/

/-- The check of a PORT_CTL write. -/
def Part.guardPort (p : Part) (tr : Trust) (t role d : Nat) : Bool :=
  match role with
  | 0 => true
  | 3 => p.role t == 3 || tr.ownOf (.port t) == none
  | _ => tr.mayBind (.port t) d

/-- The records after a port takes a role: what lay behind a ROLE 3 port is unbound when it leaves that role, the port is bound by ROLE 1 or 2
and unbound by 0 or 3. -/
def Trust.portRole (tr : Trust) (t old role d : Nat) : Trust :=
  let t1 := if role = 0 then tr else { tr with lastRole := Sparse.set tr.lastRole 0 t role }
  let behind := (t1.own.map (fun e => e.1)).filter (fun r => r.portOf == t && r != .port t)
  let t2 := if old = 3 ∧ role ≠ 3 then behind.foldl Trust.unbind t1 else t1
  if role = 1 ∨ role = 2 then t2.setOwn (.port t) (some (.owned d)) else t2.unbind (.port t)

/-- PORT_CTL takes a role, a domain and a bridge; a port that held ROLE 1 of a domain and no longer does detaches it (R406). A domain whose
PERST_N is asserted gets its ports in reset (R111). -/
def State.portSet (s : State) (t role d vb : Nat) : State :=
  let p := s.part
  let old := p.role t
  let od := p.getF (.port t) PORT.PORT_CTL.DOMAIN
  let moved := decide (old ≠ role ∨ ((role = 1 ∨ role = 2) ∧ od ≠ d))
  let p1 := if moved then p.intxClearPort t else p
  let pg := Page.port t
  let p2 := ((p1.setF pg PORT.PORT_CTL.ROLE role).setF pg PORT.PORT_CTL.DOMAIN d).setF pg PORT.PORT_CTL.VB vb
  let p3 := if moved then (p2.releaseAllFree t).setF pg PORT.PORT_STAT.IN_RESET (b2n ((role == 1 || role == 2) && (p2.domReset d || (p2.perstLow d && p2.md.mode != .boot)))) else p2
  let s1 := { s with part := p3, trust := s.trust.portRole t old role d }.settleGrants
  if old = 1 ∧ (role ≠ 1 ∨ od ≠ d) then s1.detach od else s1

/-- A PORT_CTL write submitted to the Guarded Write Port by Colony, or made by Chitin: after the requester's earlier posted writes to the page
(R16), and dropped while the station's clock is stopped (R19) (log entries 38 and 77, DEDUCED). -/
def State.portCtlWrite (s : State) (req : Requester) (t : Nat) (w : BitVec 32) : State :=
  let role := PORT.PORT_CTL.ROLE.of w
  let d := PORT.PORT_CTL.DOMAIN.of w
  let x := s.part.guardAccess req (.port t) 0x100
  let s1 := { s with part := x.2 }
  if !x.1 || (decide (req = .colony) && !s1.part.guardPort s1.trust t role d) then s1 else s1.portSet t role d (PORT.PORT_CTL.VB.of w)

/-! ### Meanings -/

/-- TBL_READ (R266). -/
def execTblRead (req : Requester) (s : State) : Host.Outcome State Fault Refusal := .next (s.tblAccess req 0)

/-- TBL_WRITE (R522). -/
def execTblWrite (req : Requester) (s : State) : Host.Outcome State Fault Refusal := .next (s.tblAccess req 1)

/-- TBL_INVALIDATE (R266). -/
def execTblInvalidate (req : Requester) (s : State) : Host.Outcome State Fault Refusal := .next (s.tblAccess req 2)

/-- TBL_OP_RESERVED (R266). -/
def execTblOpReserved (req : Requester) (s : State) : Host.Outcome State Fault Refusal := .next (s.tblAccess req 3)

/-- PORT_CTL_WRITE (R77). -/
def execPortCtlWrite (req : Requester) (t : Fin 128) (w : Word) (s : State) : Host.Outcome State Fault Refusal := .next (s.portCtlWrite req t.val w)

end Sys2Proof.Machine
end

