-- ==== Sys2Proof/Machine/Scrub.lean ====
section
/-! DEFINITION. Memories: ECC errors by what the word holds, the patrol scrubber, row repair, and a retired buffer quarter
(R300, R302, R351 to R354, R356); the recovery ladder's domain reset (R366). -/

namespace Sys2Proof.Machine

/-! ### What an uncorrectable error strikes (R354) -/

/-- A unit or packet that carries a completion goes on with POISON or EP set (R300). -/
def Body.poisoned (b : Body) : Body :=
  match b with
  | .local t => .local { t with ep := true }
  | .unit h i => .unit { h with poison := true } i

/-- The error strikes the data of a frame: a completion goes on poisoned, another frame is discarded and answered with CA or DATA_UE. -/
def Part.dataUe (p : Part) (i : Nat) : Part :=
  match p.fr i with
  | none => p
  | some f => if f.kind = 2 then p.setFr i (some { f with body := f.body.poisoned }) else p.dropFrame i .ca 8

/-- The frames that hold a buffer cell. -/
def Part.framesOfCell (p : Part) (c : Nat) : List Nat :=
  (p.frames.filter (fun e => match e.2 with
    | some f => f.cells.contains c
    | none => false)).map (fun e => e.1)

/-- The error strikes a word of a frame's Cocoon header: the unit is corrupt (R302). A frame without one is struck in its data. -/
def Part.headerUe (p : Part) (i : Nat) : Part :=
  match p.fr i with
  | some f => (match f.body with
    | .unit _ _ => (p.err .ccn 0).dropFrame i .ur 4
    | .local _ => p.dataUe i)
  | none => p

/-- The error strikes a cell in a replay slot: a completion goes on poisoned; another unit is answered, its sequences are voided and the
slot is sent again empty (log entry 62). -/
def Part.replayUe (p : Part) (l seq : Nat) : Part :=
  let b := p.lk l
  match b.unacked.find? (fun x => x.seq == seq) with
  | none => p
  | some x =>
    let put := fun (q : Part) (y : TxSlot) => q.setLk l { q.lk l with unacked := (q.lk l).unacked.map (fun z => if z.seq = seq then y else z) }
    match x.unit with
    | some (.unit h i, k) =>
      (match i with
      | .tlp t => if t.kind = .cpl then
          put p { x with unit := some (.unit { h with poison := true } i, k), load := match x.load with
            | .cell (some u) => .cell (some u.poisoned)
            | y => y }
        else put ((p.answerUnit l h i .ca 8).voidSeq h h.fseq (unitCells h)) { x with load := .cell none, unit := none }
      | _ => put (p.voidSeq h h.fseq (unitCells h)) { x with load := .cell none, unit := none })
    | _ => p

/-! ### Quarters (R188, R190, R356) -/

/-- The quarter of a buffer word (log entry 75, DESIGN CHOICE). -/
def rowQuarter (a : Nat) : Nat := a / 4 / 65536

/-- A quarter is retired: its queued cells are handled as struck, its cells are withheld, and the part enters FENCED with cause 3
(log entry 66, DEDUCED). -/
def Part.retireQuarter (p : Part) (q : Nat) : Part :=
  let struck := (p.frames.filter (fun e => match e.2 with
    | some f => f.cells.any (fun c => c / 65536 == q && (p.cr c).state == .queued)
    | none => false)).map (fun e => e.1)
  let p1 := struck.foldl (fun (r : Part) i => r.dataUe i) p
  (p1.setF .pwr PWR.UNIT_STAT.QTR (p1.getF .pwr PWR.UNIT_STAT.QTR &&& (15 - 2 ^ q))).trigger (.fenced 3)

/-- A buffer bank reports an uncorrectable error in a row; the sixteenth distinct row of a quarter retires it (log entry 66, DEDUCED). -/
def Part.rowUe (p : Part) (a : Nat) : Part :=
  let q := rowQuarter a % 4
  if p.ueRows.contains a then p
  else
    let p1 := { p with ueRows := p.ueRows ++ [a] }
    if (p1.ueRows.filter (fun x => rowQuarter x % 4 == q)).length = 16 then p1.retireQuarter q else p1

/-! ### The scrubber and repairs (R351 to R353) -/

/-- Records an ECC event in GLB.ECC_LAST. -/
def Part.eccLast (p : Part) (mem addr : Nat) (ue : Bool) : Part :=
  (((p.setF .glb GLB.ECC_LAST.MEM mem).setF .glb GLB.ECC_LAST.UE (b2n ue)).setF .glb GLB.ECC_LAST.REPAIRED 0).setF .glb GLB.ECC_LAST.ADDR addr

/-- The page and error bit of a corrected error by what the word holds; the next bit is that of an uncorrectable one (R216, R268, R295). Words
without a bit of their own have none. -/
def eccBit (mem what : Nat) : Option (Page × Nat) :=
  if what = 4 then some (.ord, 5)
  else if what = 3 ∨ (5 ≤ what ∧ what ≤ 8) then some (.tbl, 5)
  else if mem = 0 ∨ what = 2 then some (.buf, 6)
  else none

/-- An uncorrectable error in a word at `addr` of a memory, which holds: 0 cell data, 1 a word of a Cocoon header, 2 accounting state of station
`ix`, 3 tracker entry `ix`, 4 ledger slot `ix`, 5 to 8 entry `ix` of the FBT, WTT, FRT or Multicast Group Table, 9 record slot `ix` of Antenna,
10 Colony's, 11 Firefly's own state, 12 the register at address `ix`. In the replay memory, data is that of SEQ `addr` of link `ix` (log entry 66, DEDUCED). -/
def Part.eccUe (p : Part) (mem addr what ix : Nat) : Part :=
  match what with
  | 0 => if 1 < mem then p else if mem = 1 then p.replayUe (ix % 32) addr else ((p.framesOfCell (addr / 4)).foldl (fun (q : Part) i => q.dataUe i) p).rowUe addr
  | 1 => if 1 < mem then p else if mem = 1 then p.replayUe (ix % 32) addr else ((p.framesOfCell (addr / 4)).foldl (fun (q : Part) i => q.headerUe i) p).rowUe addr
  | 2 => p.containStation (ix % 16)
  | 3 => p.ortDeadline ix
  | 4 => p.slotDeadline ix
  | 9 =>
    let q := { p with ant := { p.ant with ring := Sparse.del p.ant.ring ix, lostBefore := satAdd 16 p.ant.lostBefore 1 } }
    (q.bumpF .ant ANT.STAT.LOST 1).err .ant 1
  | 10 => p.emit (.colonyIrq 2)
  | 11 => (p.count .ffy 7 1).err .ffy 4
  | 12 => { p with regUe := (ix / 4 * 4 :: p.regUe).eraseDups }
  | _ => p.setTw (what - 5) ix 0 (p.tw (what - 5) ix 0 &&& 0xFFFFFFFE)

/-- A codeword is read and corrected (R352): `err` 0 clean, 1 corrected, 2 uncorrectable (log entry 66, DEDUCED). -/
def Part.scrub (p : Part) (mem addr err what ix : Nat) : Part :=
  match err with
  | 0 => p
  | e =>
    let p1 := p.eccLast mem addr (e == 2)
    let p2 := match eccBit mem what with
      | some (pg, b) => p1.err pg (if e = 2 then b + 1 else b)
      | none => p1
    if e = 2 then p2.eccUe mem addr what ix else p2

/-- A row of sub-array `arr` of a memory is copied to a spare row (R353); with the fourth the sub-array has none left, and the part enters
DEGRADED. A sub-array without a spare row left repairs nothing (log entry 66, DEDUCED). -/
def Part.rowRepair (p : Part) (mem arr addr : Nat) : Part :=
  let k := arr * 8 + mem
  let used := Sparse.get p.spare 0 k
  if 4 ≤ used then p
  else
    let p1 := { p with spare := Sparse.set p.spare 0 k (used + 1) }
    let p2 := if p1.getF .glb GLB.ECC_LAST.MEM = mem ∧ p1.getF .glb GLB.ECC_LAST.ADDR = addr then p1.setF .glb GLB.ECC_LAST.REPAIRED 1 else p1
    if used = 3 then p2.trigger (.degraded 2) else p2

/-! ### Recovery step 3 (R365, R366) -/

/-- A submission of GLB.RECOVER with ACTION 1. -/
def Part.recoverDomain (p : Part) (key : BitVec 8) (d : Nat) : Part :=
  let p1 := ((p.setF .glb GLB.RECOVER.ACTION 1).setF .glb GLB.RECOVER.DOMAIN d).count .glb 4 1
  if key ≠ 0xC3 ∨ !p.attached d ∨ p.deeper 3 = true then p1.setF .glb GLB.RECOVER.REJ 1 else p1.domainReset d

/-! ### Meanings -/

/-- PATROL_SCRUB (R352): a codeword at `addr` of memory `mem` (0 buffer, 1 replay, 2 table, 3 Antenna, 4 Colony, 5 Firefly). -/
def execPatrolScrub (mem : Fin 6) (addr : Nat) (err : Fin 3) (what : Fin 13) (ix : Nat) (s : State) :=
  s.viaRemoval (fun p => if p.md.mode.rails then p.hostLinks (fun q => q.scrub mem addr err what ix) else p)

/-- ROW_REPAIR (R353). -/
def execRowRepair (mem : Fin 6) (arr addr : Nat) (s : State) := s.via (fun p => if p.md.mode.rails then p.rowRepair mem arr addr else p)

/-- RECOVER_DOMAIN_RESET (R366). -/
def execRecoverDomainReset (req : Requester) (key : BitVec 8) (d : Fin 64) (s : State) :=
  s.via (fun p => p.ifPermitted req .glb 0x210 (fun q => q.recoverDomain key d))

end Sys2Proof.Machine
end

