-- ==== Sys2Proof/Machine/Boot.lean ====
section
/-! DEFINITION. Firmware: the mask ROM, Chitin and the active generation, Colony and its watchdog, entry to the first role (R24, R30, R31, R37,
R47, R77, R382 to R393, R414, R415). What a signature check answers is an operand. -/

namespace Sys2Proof.Machine

/-! ### The Jextum file (R47) -/

/-- Chitin reads and checks the file, or goes on with default entries (R47). -/
def Part.loadJext (p : Part) (a : Nat) : Part :=
  if p.jxHeader a && p.jxVerified a then { p with jext := some (p.jxCopy a) } else ({ p with jext := none }).err .otpv 4

/-! ### Chitin starts (R386 steps 1 to 3) -/

/-- OTPV.ACTIVE as R391 fills it from the OTP; `sigs` tells whose signature verifies. -/
def activeWord (m : Sparse (BitVec 32)) (sigs : Nat) : Nat :=
  let g := genActive m sigs
  g.getD 0 + 8 * b2n g.isSome + 16 * bitsOf ((List.range 8).map (fun i => genValid m sigs i))
    + 2 ^ 12 * bitsOf ((List.range 8).map (fun i => genBlank m i)) + 2 ^ 20 * bitsOf ((List.range 8).map (fun i => otpRevoked m i))
    + 2 ^ 28 * otpRoot m + 2 ^ 30 * b2n (otpSealed m)
    + 2 ^ 31 * b2n (match g with
      | some i => nbit (genByte (genWords m i) 3) 2
      | none => false)

/-- The OTPV page after Chitin has read the OTP (R391, R423). -/
def Part.loadOtpv (p : Part) (m : Sparse (BitVec 32)) (sigs svn : Nat) : Part :=
  let p1 := p.wr (Page.otpv.base + 0x100) (BitVec.ofNat 32 (activeWord m sigs))
  let p2 := ((p1.setF .otpv OTPV.SVN.CHITIN_OTP (otpSvn m 0)).setF .otpv OTPV.SVN.COLONY_OTP (otpSvn m 1)).setF .otpv OTPV.SVN.CHITIN_RUN svn
  let p3 := match genActive m sigs with
    | some g => ((genWords m g).zipIdx).foldl (fun (q : Part) e => q.setF .otpv (OTPV.GEN.WORD.ix e.2) e.1.toNat) p2
    | none => p2
  if (List.range 8).any (fun g => !genBlank m g && !genValid m sigs g) then p3.err .otpv 0 else p3

/-- The station of R30. -/
def Part.trStation (p : Part) : Nat := if p.genB 6 = 0xFF then 0 else p.genB 6 % 16

/-- The upstream port of TRANSPARENT on that station (R390). -/
def Part.trUp (p : Part) : Nat := if p.genB 7 = 0xFF then 0 else p.genB 7 % 8

/-- Chitin enables a station (R37). -/
def Part.bootStation (p : Part) (n : Nat) : Part := (p.setF .glb (GLB.STN_CFG.EN.ix n) 1).stnAnnounce n

/-- The generation's settings go into GLB, FAB and GPIO (R37, R116, R367, R386 step 2) (log entry 24, DEDUCED). -/
def Part.loadSettings (p : Part) : Part :=
  let p1 := p.setF .fab FAB.CHIP_ID.CHIP (p.genB 5)
  let p2 := (List.range 16).foldl (fun (q : Part) n =>
    q.wr (Page.glb.base + 0x140 + 4 * n) (BitVec.ofNat 32 (q.getF .otpv (OTPV.GEN.WORD.ix (16 + n))) &&& 0x0FFFFFF3)) p1
  let p3 := (List.range 16).foldl (fun (q : Part) i =>
    let b := q.genB (128 + i)
    q.perstMap i (GLB.PERST_MAP.EN.into (GLB.PERST_MAP.DOMAIN.into 0 (b % 64)) (b / 64 % 2))) p2
  let owner := (List.range 16).map (fun k => p.genB (144 + k / 2) / 16 ^ (k % 2) % 16)
  let word := fun (l : List Nat) => (l.zipIdx.map (fun e => (if e.1 = 6 ∨ e.1 = 7 then 0 else e.1) * 16 ^ e.2)).sum
  (p3.setF .gpio GPIO.OWNER.OWNER_LO (word (owner.take 8))).setF .gpio GPIO.OWNER.OWNER_HI (word (owner.drop 8))

/-- The units of R30 are started, and with START 1 every other station the generation enables (R37) (log entries 44 and 72, DEDUCED). -/
def Part.startUnits (p : Part) : Part :=
  let p1 := if nbit (p.getF .pwr PWR.UNIT_STAT.QTR) 0 then p else p.announce (.quarter 0)
  let p2 := (p1.bistGo 0).bootStation p.trStation
  if p.startPart then
    ((List.range 16).filter (fun n => n != p.trStation && nbit (p.getF .otpv (OTPV.GEN.WORD.ix (16 + n))) 2)).foldl Part.bootStation p2
  else p2

/-- The cause with which this BOOT ends in MAINTENANCE (R22): a confirmed ENTER_MAINTENANCE, or an effective strap sampled at the deassertion of
a reset pin. -/
def Part.maintCause (p : Part) : Option Nat :=
  if p.md.lastCause = 0xA then some 0xA
  else if (p.md.lastCause = 0 ∨ p.md.lastCause = 3) ∧ p.strapEff then some 9 else none

/-- The mask ROM runs and starts Chitin (R386 steps 1 to 3), or stays as the recovery responder (R388) (log entry 27, DESIGN CHOICE). -/
def State.chitinBoot (s : State) (sigA sigB : Bool) (sigs : Nat) : State :=
  let p := s.part
  if p.md.mode ≠ .boot ∨ p.boot.chitin = true ∨ p.boot.rom = true ∨ p.ffy.chipRst = true ∨ p.md.going ≠ none then s
  else
    let s0 := { s with trust := Trust.reset }
    match p.imgPick false sigA sigB (otpSvn s.otp 0) with
    | none => { s0 with part := { p with boot := { p.boot with rom := true } } }
    | some (a, alt) =>
      let p1 := { p with boot := { p.boot with chitin := true, chitinImg := (p.imgDigest a, p.imgVersion a) } }
      let p2 := if alt then p1.err .otpv 1 else p1
      let p3 := p2.loadOtpv s.otp (p.sigMask s.otp sigs) (p.imgSvn a)
      let valid := p3.bit .otpv OTPV.ACTIVE.GEN_VALID
      let p4 := if valid then ((p3.loadSettings).loadJext (p3.getF .otpv (OTPV.GEN.WORD.ix 3))).startUnits
        else { p3 with boot := { p3.boot with noGen := true } }
      { s0 with
        part := match p4.maintCause with
          | some c => { (p4.enter .maintenance c) with boot := { p4.boot with byStrap := decide (c = 9) } }
          | none => p4
        trust := { Trust.reset with ident := if valid then some (p3.identity s.otp) else none } }

/-! ### Colony (R386 steps 4 to 6, R414, R415) -/

/-- Chitin loads a Colony image, releases Colony and hands over the SPI controller; both copies may fail (log entry 27, DESIGN CHOICE). -/
def Part.colonyLoad (p : Part) (sigA sigB : Bool) : Part :=
  if !p.boot.chitin ∨ p.boot.noGen = true ∨ p.boot.run = true ∨ !p.md.mode.core ∨ p.md.mode = .maintenance ∨ p.md.mode = .test ∨
    ¬(p.boot.colony = 0 ∨ p.boot.restart.isSome = true) then p
  else match p.imgPick true sigA sigB (p.getF .otpv OTPV.SVN.COLONY_OTP) with
  | some (a, alt) =>
    let p1 := if alt then p.err .otpv 1 else p
    let p2 := { p1 with boot := { p1.boot with colony := 1, run := true, kick := p1.now, colonyImg := (p.imgDigest a, p.imgVersion a) },
                        stuck := p1.stuck.erase (.agent 2) }
    let p3 := (p2.setF .otpv OTPV.SVN.COLONY_RUN (p.imgSvn a)).setF .spi SPI.OWNER.COLONY 1
    if p3.bit .pwr PWR.UNIT_STAT.COLONY then p3 else p3.announce .colony
  | none => { p with boot := { p.boot with colony := 2 } }

/-- A write of MBX.WD.KICK: it restarts the watchdog, and the first one sets COLONY_UP and ends a restart (R386 step 6, R415 step 5). -/
def Part.kick (p : Part) : Part :=
  if !p.boot.run then p
  else
    let p1 := { p with boot := { p.boot with kick := p.now, restart := none, failed := none } }
    if p.md.colonyUp then p1 else p1.setColonyUp true

/-- A restart that has not come to its first watchdog write has failed (R415). -/
def Part.restartFail (p : Part) : Part :=
  match p.boot.restart with
  | none => p
  | some _ => ({ p with boot := { p.boot with restart := none, failed := some p.now, run := false } }).trigger (.degraded 5)

/-- The next restart attempt begins (R415). -/
def Part.restartRetry (p : Part) : Part :=
  match p.boot.failed with
  | none => p
  | some _ => { p with boot := { p.boot with restart := some p.now, failed := none, restarts := p.boot.restarts + 1 } }

/-! ### Entry to the first role (R22, R30, R31) -/

/-- The units of R30 have passed their checks (log entry 44, DEDUCED). -/
def Part.trUnits (p : Part) : Bool :=
  p.stnOn p.trStation && p.getF .glb (GLB.STN_STAT.MODE_ACT.ix p.trStation) == 0 && p.planeState 0 == 3 &&
    nbit (p.getF .pwr PWR.UNIT_STAT.QTR) 0 && p.md.mode.core

/-- Chitin builds the single domain of TRANSPARENT (R77, R82, R83) (log entry 44, DEDUCED). -/
def State.trDomain (s : State) : State :=
  let n := s.part.trStation
  let up := 8 * n + s.part.trUp
  let down := ((List.range 8).map (fun k => 8 * n + k)).filter (fun t => t != up && s.part.present t)
  let s1 := s.portSet up 1 0 0
  let s2 := (down.zipIdx).foldl (fun (r : State) e =>
    (r.portSet e.1 2 0 e.2).commitEntry 6 e.2 [BitVec.ofNat 32 (1 + 8 * e.1), 0, 0, 0]) s1
  s2.commitEntry 5 0 [BitVec.ofNat 32 (1 + 2 ^ 13 * up), 0, 0, 0]

/-- Entry to TRANSPARENT (R30, R31), with START 0 the further stations of TR_EXTRA after it (log entries 15 and 25 and 44, DEDUCED). -/
def State.transparentEntry (s : State) : State :=
  let p := s.part
  let go := !p.startPart || (p.boot.colony == 2 && p.fallback)
  if p.md.mode = .boot ∧ p.boot.chitin ∧ !p.boot.noGen ∧ go = true ∧ p.trUnits = true ∧ p.md.going = none then
    let s1 := s.trDomain
    let p1 := s1.part.enter .transparent p.md.lastCause
    let extra := (List.range 16).filter (fun n => n != p.trStation && nbit (p.genB 8 + 256 * p.genB 9) n)
    let p2 := if p.startPart then p1 else extra.foldl Part.bootStation p1
    { s1 with part := if p2.exhausted then p2.trigger (.degraded 2) else p2 }
  else s

/-- Entry to PARTITIONED (R22): Colony is verified and started, and Hive says that it has attached the configured domains
(log entries 15 and 44, DEDUCED). -/
def Part.partitionedEntry (p : Part) : Part :=
  if p.md.mode = .boot ∧ p.boot.chitin ∧ !p.boot.noGen ∧ p.startPart ∧ p.boot.colony = 1 ∧ p.md.colonyUp ∧ p.md.going = none then
    let p1 := p.enter .partitioned p.md.lastCause
    if p1.exhausted then p1.trigger (.degraded 2) else p1
  else p

/-! ### Meanings -/

/-- CHITIN_BOOT (R386): whether SIG of image copy A and of copy B verifies, and which generations' signature blocks do (log entry 27,
DESIGN CHOICE). -/
def execChitinBoot (sigA sigB : Bool) (sigs : Fin 256) (s : State) : Host.Outcome State Fault Refusal := .next (s.chitinBoot sigA sigB sigs)

/-- COLONY_LOAD (R386): whether SIG of image copy A and of copy B verifies (log entry 27, DESIGN CHOICE). -/
def execColonyLoad (sigA sigB : Bool) (s : State) := s.via (fun p => p.colonyLoad sigA sigB)

/-- COLONY_UP (R386): Colony's first watchdog write. -/
def execColonyUp (s : State) := s.via (fun p => if p.md.colonyUp then p else p.kick)

/-- KICK (R414). -/
def execKick (s : State) := s.via Part.kick

/-- PANIC (R414). -/
def execPanic (s : State) := s.via (fun p => if p.boot.run then p.colonyCrash else p)

/-- WATCHDOG_EXPIRE (R414): no write of KICK for 500 ms. -/
def execWatchdogExpire (s : State) :=
  s.via (fun p => if p.boot.run ∧ p.boot.restart = none ∧ p.boot.kick + 500000000 ≤ p.now then p.colonyCrash else p)

/-- COLONY_CRASH (R415): Colony's fatal-exception signal, or an error in its SRAM that it does not survive. -/
def execColonyCrash (s : State) := s.via (fun p => if p.boot.run then p.colonyCrash else p)

/-- COLONY_RESTART_FAIL (R415). -/
def execColonyRestartFail (s : State) := s.via Part.restartFail

/-- COLONY_RESTART_RETRY (R415). -/
def execColonyRestartRetry (s : State) := s.via Part.restartRetry

/-- TRANSPARENT_ENTRY (R30). -/
def execTransparentEntry (s : State) : Host.Outcome State Fault Refusal := .next s.transparentEntry

/-- PARTITIONED_ENTRY (R22). -/
def execPartitionedEntry (s : State) := s.via Part.partitionedEntry

end Sys2Proof.Machine
end

