-- ==== Sys2Proof/Machine/Service.lean ====
section
/-! DEFINITION. Maintenance commands: who may give them when, staging and physical presence, and what each does (R371, R383, R388, R389, R392,
R416 to R420). The transport (MCTP from the BMC) is the command; what a signature check answers is an operand. -/

namespace Sys2Proof.Machine

/-! ### OTP programming (R389, R423) -/

/-- Programs words from word index `i` on. When programming does not verify, which of the bits are programmed is free, and OTP_FAIL is set
(log entry 17, DESIGN CHOICE). -/
def State.otpProg (s : State) (i : Nat) (l : List (BitVec 32)) (ok : Bool) : State :=
  if ok then { s with otp := otpWrite s.otp i l }
  else
    let r := (l.zipIdx).foldl (fun (t : State) e =>
      let x := t.part.free32
      { t with otp := otpOr t.otp (i + e.2) (e.1 &&& x.2), part := x.1 }) s
    { r with part := r.part.err .otpv 3 }

/-- The response of a command that programs OTP (log entry 17, DESIGN CHOICE). -/
def progCode (ok : Bool) : Nat := if ok then 0 else 0xA

/-- The words of an SVN counter with its lowest zero bits programmed until it counts `v` (R389, R418) (log entry 28, DEDUCED). -/
def svnRaise (m : Sparse (BitVec 32)) (c v : Nat) : List (BitVec 32) :=
  let have_ := otpSvn m c
  let zeros := (List.range 256).filter (fun b => !(otpWord m (0x80 + 8 * c + b / 32)).getLsbD (b % 32))
  let take := zeros.take (v - have_)
  (List.range 8).map (fun w => BitVec.ofNat 32 ((take.filter (fun b => b / 32 == w)).map (fun b => 2 ^ (b % 32))).sum)

/-- The 16 words of a root slot for a key digest (R389; the layout is log entry 14's). -/
def rootSlot (digest : BitVec 384) : List (BitVec 32) :=
  let body := (List.range 12).map (fun i => digest.extractLsb' (32 * i) 32) ++ [0xA5, 0, 0]
  body ++ [crc32 (wordBytes body)]

/-! ### Effects (R418) -/

/-- WRITE_GEN (R392): OK 0, BAD_ARG 4, BAD_SIG 5, GEN_FULL 6, OTP_FAIL 0xA. -/
def State.writeGen (s : State) (m : Maint) : State × Nat :=
  match genNext s.otp with
  | none => (s, 6)
  | some g =>
    if m.words.length ≠ 64 ∨ !genLegal m.words g ∨ genByte m.words 4 ≠ otpRoot s.otp then (s, 4)
    else if !m.sigOk then (s, 5)
    else (s.otpProg (0x200 + 64 * g) m.words m.progOk, progCode m.progOk)

/-- REVOKE_GEN: slots 1 to 7, in all three copies of the bit. -/
def State.revokeGen (s : State) (m : Maint) : State × Nat :=
  if m.arg = 0 ∨ 7 < m.arg then (s, 4)
  else (s.otpProg 0 [BitVec.ofNat 32 (2 ^ (8 + m.arg) + 2 ^ (16 + m.arg) + 2 ^ (24 + m.arg))] m.progOk, progCode m.progOk)

/-- SET_ROOT: a generation signed by the key of the new root slot, then the slot with the digest of that key, which is already in flash. -/
def State.setRoot (s : State) (m : Maint) : State × Nat :=
  let gen := m.words
  if otpRoot s.otp = 3 then (s, 7)
  else match genNext s.otp with
  | none => (s, 6)
  | some g =>
    if m.words.length ≠ 64 ∨ m.arg ≤ otpRoot s.otp ∨ 3 < m.arg ∨ !(rootWords s.otp m.arg).all (· == 0) ∨ !genLegal gen g ∨
      genByte gen 4 ≠ m.arg then (s, 4)
    else if !m.sigOk then (s, 5)
    else
      let s1 := s.otpProg (0x200 + 64 * g) gen m.progOk
      ((if m.progOk then s1.otpProg (0x40 + 16 * m.arg) (rootSlot (s.part.rootKeyDigest m.arg)) true else s1), progCode m.progOk)

/-- BLOW_SEAL (R419): at once the strap has no effect. -/
def State.blowSeal (s : State) (m : Maint) : State × Nat :=
  let s1 := s.otpProg 0 [0xFF] m.progOk
  ({ s1 with part := s1.part.setF .otpv OTPV.ACTIVE.SEALED (b2n (otpSealed s1.otp)) }, progCode m.progOk)

/-- ADVANCE_SVN: never above the SVN of the running image. -/
def State.advanceSvn (s : State) (m : Maint) : State × Nat :=
  let run := s.part.getF .otpv (if m.arg = 0 then OTPV.SVN.CHITIN_RUN else OTPV.SVN.COLONY_RUN)
  if 1 < m.arg ∨ run < m.arg2 then (s, 4)
  else (s.otpProg (0x80 + 8 * m.arg) (svnRaise s.otp m.arg m.arg2) m.progOk, progCode m.progOk)

/-- FORCE_RELEASE (R406): a resource with a record is reset and freed. -/
def State.forceRelease (s : State) (m : Maint) : State × Nat :=
  match m.res with
  | none => (s, 4)
  | some r =>
    match s.trust.ownOf r with
    | none => (s, 4)
    | some _ =>
      let x := s.freeRes r
      (x.1, if x.2 then 0 else 4)

/-- FLASH_WRITE below 0x0100_0000 (R383); under the mask ROM the Chitin image copies and board data only (R388). -/
def State.flashWrite (s : State) (m : Maint) : State × Nat :=
  let n := m.words.length
  let lo := if s.part.boot.romMaint then 0x20000 else 0
  let hi := if s.part.boot.romMaint then 0x300000 else 0x1000000
  if m.arg < lo ∨ hi < m.arg + n then (s, 4)
  else ({ s with part := { s.part with flash := (m.words.zipIdx).foldl (fun f e => Sparse.set f 0xFF (m.arg + e.2) (e.1.setWidth 8)) s.part.flash } }, 0)

/-- The test units that TEST_ENTER starts: bit n station n, bit 16 memory BIST, bits 17 to 20 the planes (log entry 45, DEDUCED). -/
def testUnits (stns test : Nat) : Nat := if test = 3 then 2 ^ 16 else if test = 4 then 15 * 2 ^ 17 else stns % 2 ^ 16

/-- TEST_ENTER: MAINTENANCE becomes TEST when debug is unlocked; the cause that MODE_STAT shows is free, the manual names none
(log entry 45, DEDUCED) (log entry 16, DESIGN CHOICE). -/
def State.testEnter (s : State) (m : Maint) : State × Nat :=
  let p := s.part
  if !p.bit .otpv OTPV.ACTIVE.DEBUG then (s, 9)
  else if 4 < m.arg2 ∨ testUnits m.arg m.arg2 = 0 then (s, 4)
  else
    let x := p.free32
    let p1 := x.1.enter .test (x.2.toNat % 16)
    let p2 := { p1 with boot := { p1.boot with tests := testUnits m.arg m.arg2 } }
    ({ s with part := if m.arg2 = 4 then (List.range 4).foldl Part.bistGo p2 else p2 }, 0)

/-- TEST ends (R22): back to MAINTENANCE (log entry 45, DEDUCED) (log entry 16, DESIGN CHOICE). -/
def Part.testExit (p : Part) : Part :=
  if p.md.mode = .test then
    let x := p.free32
    let p1 := x.1.enter .maintenance (x.2.toNat % 16)
    { p1 with boot := { p1.boot with tests := 0 } }
  else p

/-- RECOVER (R388): MAINTENANCE, under the mask ROM when no Chitin image runs. -/
def State.recover (s : State) : State × Nat :=
  let p1 := s.part.enter .maintenance 0xA
  ({ s with part := { p1 with boot := { p1.boot with romMaint := p1.boot.rom } } }, 0)

/-- Runs an accepted command (log entry 28, DEDUCED). -/
def State.maintRun (s : State) (m : Maint) : State × Nat :=
  match m.code with
  | 0x01 => ({ s with part := s.part.trigger (.warm 0xA) }, 0)
  | 0x02 => s.recover
  | 0x03 => s.writeGen m
  | 0x04 => s.revokeGen m
  | 0x05 => s.setRoot m
  | 0x06 => s.blowSeal m
  | 0x07 => s.advanceSvn m
  | 0x08 => s.forceRelease m
  | 0x09 => s.flashWrite m
  | 0x10 => s.testEnter m
  | 0x11 => ({ s with part := s.part.testExit }, 0)
  | 0x12 => ({ s with part := s.part.trigger (.warm 4) }, 0)
  | _ => (s, 4)

/-! ### Acceptance and staging (R371, R417 to R420) -/

/-- The command is accepted in the mode (R418), and by the mask ROM (R388) (log entry 28, DEDUCED). -/
def Part.maintMode (p : Part) (code : Nat) : Bool :=
  let m := p.md.mode
  let full := p.boot.chitin && !p.boot.romMaint
  match code with
  | 0x01 => full && (m.isRole || m == .degraded || m == .fenced)
  | 0x02 => p.bootFailed
  | 0x08 => full && m.isRole
  | 0x09 => m == .maintenance
  | 0x11 => full && m == .test
  | 0x12 => m == .maintenance || m == .test
  | _ => full && m == .maintenance

/-- The commands that need presence (log entry 28, DEDUCED). -/
def needsPresence (code : Nat) : Bool := decide (1 ≤ code ∧ code ≤ 8)

/-- Presence is given by the session: MAINTENANCE entered with MAINT_STRAP, while it is effective (R417, R419). -/
def Part.strapSession (p : Part) : Bool := p.md.mode == .maintenance && p.boot.byStrap && p.strapEff

/-- Somebody answers the BMC: Chitin, or the mask ROM (R388, R418). -/
def Part.maintOn (p : Part) : Bool := p.md.mode.core && (p.boot.chitin || p.boot.rom)

/-- OTPV.STAGE shows a command and its response code. -/
def Part.noteCmd (p : Part) (code rc : Nat) : Part := (p.setF .otpv OTPV.STAGE.CMD code).setF .otpv OTPV.STAGE.LAST_RESULT rc

/-- Answers a command with a code, which OTPV.STAGE shows. -/
def Part.bmcAnswer (p : Part) (code rc : Nat) : Part := (p.noteCmd code rc).emit (.reply code [BitVec.ofNat 8 rc])

/-- A maintenance command arrives. One that leaves through a warm device reset is answered before it (log entry 28, DEDUCED). -/
def State.submit (s : State) (m : Maint) : State :=
  let p := s.part
  if !p.maintOn then s
  else if p.boot.staged.isSome then { s with part := p.emit (.reply m.code [2]) }
  else if !p.maintMode m.code then { s with part := p.bmcAnswer m.code 3 }
  else if needsPresence m.code ∧ !p.strapSession then
    let p1 := p.bmcAnswer m.code 1
    { s with part := { p1 with boot := { p1.boot with staged := some (m, p.now) } } }
  else if m.code = 0x12 then ({ s with part := p.bmcAnswer m.code 0 }.maintRun m).1
  else
    let x := s.maintRun m
    { x.1 with part := x.1.part.bmcAnswer m.code x.2 }

/-- A qualified press (R416, R417): it counts, and commits the staged command, whose result OTPV.STAGE shows (log entry 28, DEDUCED). While
Chitin does not run (STANDBY) the press commits nothing, and a command whose mode has gone answers NOT_IN_MODE (R22; log entry 28, DEDUCED). -/
def State.press (s : State) : State :=
  let p := s.part
  if p.md.mode = .off then s
  else
    let p1 := { p with ffy := { p.ffy with presses := p.ffy.presses + 1 } }.count .ffy 2 1
    match p1.boot.staged with
    | none => { s with part := p1 }
    | some (m, _) =>
      let s1 := { s with part := { p1 with boot := { p1.boot with staged := none } } }
      let x := s1.maintRun m
      if !p.md.mode.core then { s with part := p1 }
      else if !p.maintMode m.code then { s with part := s1.part.noteCmd m.code 3 }
      else if m.code = 0x01 ∧ x.2 = 0 then x.1 else { x.1 with part := x.1.part.noteCmd m.code x.2 }

/-- T3 expires: the staged command is dropped (R371). -/
def Part.stageExpire (p : Part) : Part :=
  match p.boot.staged with
  | none => p
  | some _ => (({ p with boot := { p.boot with staged := none } }).setF .otpv OTPV.STAGE.LAST_RESULT 8).err .otpv 2

/-- The STATUS response: mode, staging state, last result. The mask ROM reports NOT_IN_MODE as its last result until it is in MAINTENANCE (R388)
(log entry 41, DESIGN CHOICE). -/
def Part.maintStatus (p : Part) : List Byte :=
  let last := if p.boot.rom && p.md.mode == .boot then 3 else p.getF .otpv OTPV.STAGE.LAST_RESULT
  [BitVec.ofNat 8 p.md.mode.code, BitVec.ofNat 8 (b2n p.boot.staged.isSome), BitVec.ofNat 8 last]

/-- A command with a number or two and nothing else. -/
def plain (code arg arg2 : Nat) : Maint := Maint.mk code arg arg2 [] none true true

/-! ### Meanings -/

/-- ENTER_MAINTENANCE (R418). -/
def execEnterMaintenance (s : State) : Host.Outcome State Fault Refusal := .next (s.submit (plain 0x01 0 0))

/-- RECOVER (R418). -/
def execRecover (s : State) : Host.Outcome State Fault Refusal := .next (s.submit (plain 0x02 0 0))

/-- WRITE_GEN (R392): the 64 words of the generation; whether its signature verifies, and whether programming does. -/
def execWriteGen (words : List Word) (sigOk prog : Bool) (s : State) : Host.Outcome State Fault Refusal :=
  .next (s.submit (Maint.mk 0x03 0 0 words none sigOk prog))

/-- REVOKE_GEN (R418). -/
def execRevokeGen (g : Fin 256) (prog : Bool) (s : State) : Host.Outcome State Fault Refusal :=
  .next (s.submit (Maint.mk 0x04 g 0 [] none true prog))

/-- SET_ROOT (R418): the generation's 64 words. -/
def execSetRoot (r : Fin 256) (words : List Word) (sigOk prog : Bool) (s : State) : Host.Outcome State Fault Refusal :=
  .next (s.submit (Maint.mk 0x05 r 0 words none sigOk prog))

/-- BLOW_SEAL (R419). -/
def execBlowSeal (prog : Bool) (s : State) : Host.Outcome State Fault Refusal := .next (s.submit (Maint.mk 0x06 0 0 [] none true prog))

/-- ADVANCE_SVN (R418): counter 0 Chitin, 1 Colony, and the value to reach. -/
def execAdvanceSvn (c v : Fin 256) (prog : Bool) (s : State) : Host.Outcome State Fault Refusal :=
  .next (s.submit (Maint.mk 0x07 c v [] none true prog))

/-- FORCE_RELEASE (R406). -/
def execForceRelease (r : Res) (s : State) : Host.Outcome State Fault Refusal := .next (s.submit (Maint.mk 0x08 0 0 [] (some r) true true))

/-- FLASH_WRITE (R383). -/
def execFlashWrite (addr : Nat) (data : List Byte) (s : State) : Host.Outcome State Fault Refusal :=
  .next (s.submit (Maint.mk 0x09 addr 0 (data.map (fun b => b.setWidth 32)) none true true))

/-- TEST_ENTER (R418): stations, and the test. -/
def execTestEnter (stns : BitVec 16) (test : Fin 256) (s : State) : Host.Outcome State Fault Refusal := .next (s.submit (plain 0x10 stns.toNat test))

/-- TEST_EXIT (R418): the command, or a unit's test that has finished, the last of which ends TEST. -/
def execTestExit (finished : Option (Fin 21)) (s : State) : Host.Outcome State Fault Refusal :=
  match finished with
  | none => .next (s.submit (plain 0x11 0 0))
  | some k => s.via (fun p =>
      if p.md.mode = .test ∧ nbit p.boot.tests k then
        let p1 := { p with boot := { p.boot with tests := p.boot.tests - 2 ^ k.val } }
        if p1.boot.tests = 0 then p1.testExit else p1
      else p)

/-- EXIT (R418). -/
def execExit (s : State) : Host.Outcome State Fault Refusal := .next (s.submit (plain 0x12 0 0))

/-- STATUS (R418) (log entry 41, DESIGN CHOICE). -/
def execStatus (s : State) := s.via (fun p => if p.maintOn then p.emit (.reply 0x20 p.maintStatus) else p)

/-- PRESENCE_PRESS (R416). -/
def execPresencePress (s : State) : Host.Outcome State Fault Refusal := .next s.press

/-- STAGE_EXPIRE (R371). -/
def execStageExpire (s : State) := s.via Part.stageExpire

end Sys2Proof.Machine
end

