-- ==== Sys2Proof/Machine/Spdm.lean ====
section
/-! DEFINITION. What Chitin answers: measurements, sessions, grants and releases over SPDM (R394, R395, R405 to R412), and the services it gives
Colony through MBX.CC (R422, R396). -/

namespace Sys2Proof.Machine

/-! ### Measurements (R395) -/

/-- A grant entry in the layout of R410 (log entry 40, DESIGN CHOICE). -/
def Grant.words (g : Grant) : List Nat :=
  [1 + 2 * (g.kind % 4) + 8 * (g.perm % 8) + 64 * b2n g.atsOk + 128 * (g.log2 % 64), g.grantor % 4096 + 4096 * (g.grantee % 4096),
   g.target % 65536 + 65536 * (g.mcg % 4096), g.base % 2 ^ 32, g.base / 2 ^ 32 % 2 ^ 32, g.issuer % 128, g.serial % 2 ^ 32, 0]

/-- An ownership record as words: kind, port, the function or the range, state and domain (log entry 40, DESIGN CHOICE). -/
def ownWords (e : Res × Own) : List Nat :=
  let st := match e.2 with
    | .owned d => 1 + 256 * d
    | .quarantined d => 2 + 256 * d
  match e.1 with
  | .port t => [0, t, 0, 0, st]
  | .fn t r => [1, t, r.toNat, 0, st]
  | .range t b k => [2, t, b, k, st]

/-- Grants that involve a fabric domain, with their index. -/
def Trust.grantsOf (t : Trust) (fid : Nat) : List (Nat × Grant) :=
  t.grants.filterMap (fun e => match e.2 with
    | some g => if g.grantor = fid ∨ g.grantee = fid then some (e.1, g) else none
    | none => none)

/-- SHA-384 as a number. -/
def shaNum (l : List Nat) : Nat := (Config.sha384 l).toNat

/-- A measurement block. Block 7 is the requesting domain's; the BMC's is of no grant and no record (log entry 43, DEDUCED). -/
def State.measure (s : State) (who : Option Nat) (i : Nat) : List Nat :=
  let p := s.part
  let jx := p.getF .otpv (OTPV.GEN.WORD.ix 3)
  match i with
  | 1 => [Config.maskRom.toNat]
  | 2 => [p.boot.chitinImg.1, p.getF .otpv OTPV.SVN.CHITIN_RUN, p.boot.chitinImg.2]
  | 3 => if p.boot.run then [p.boot.colonyImg.1, p.getF .otpv OTPV.SVN.COLONY_RUN, p.boot.colonyImg.2] else [0, 0, 0]
  | 4 => [shaNum p.genBytes, p.getF .otpv OTPV.ACTIVE.GEN, p.getF .otpv OTPV.ACTIVE.ROOT]
  | 5 => if p.jext.isSome then
      [(p.jxDigest jx).toNat, (p.flashWord (jx + 12)).toNat, (p.flashWord (jx + 16)).toNat]
    else [0, 0, 0]
  | 6 => [p.getF .otpv OTPV.ACTIVE.DEBUG, p.getF .otpv OTPV.ACTIVE.SEALED, b2n p.boot.byStrap]
  | 7 => match who with
    | none => [shaNum []]
    | some d => [shaNum (((s.trust.grantsOf (p.fabricId d)).flatMap (fun e => e.1 :: e.2.words)) ++
        ((s.trust.own.filter (fun e => e.2.dom == d)).flatMap ownWords))]
  | 8 => [(p.peek .glb 0).toNat, Config.deviceId.toNat]
  | _ => []

/-- Chitin runs. -/
def Part.chitinOn (p : Part) : Bool := p.md.mode.core && p.boot.chitin

/-- A requester reaches Chitin's responder: the BMC over MCTP, a host through the DOE of its Control Function, which answers configuration requests
normally (R85, R394) (log entry 43, DEDUCED). -/
def Part.spdmOpen (p : Part) (who : Option Nat) : Bool :=
  p.chitinOn && (match who with
    | none => true
    | some d => p.attached d && !p.domReset d && !p.inFlr d && p.md.mode != .boot && p.md.mode != .maintenance && p.md.mode != .test)

/-- Chitin answers a host through the DOE of its Control Function, where the host's object waits: the words of the answer's encoding, which no
rule states, and their number are free (R86, R394; log entry 12, PRESUMED). -/
def Part.doeAnswer (p : Part) (who : Option Nat) : Part :=
  match who with
  | none => p
  | some d =>
    let b := p.doeOf d
    match b.serving with
    | none => p
    | some w =>
      let x := p.free32
      let n := x.2.toNat % 1024 + 1
      let words := (List.range n).map (fun k => Config.freeWord (x.1.freeCtr + k))
      let q := { x.1 with freeCtr := x.1.freeCtr + n }
      q.setDoe d (DoeBlk.mk b.inw (w :: BitVec.ofNat 32 (n + 2) :: words) none b.err)

/-- An SPDM request and its answer, which goes back the way the request came; a request that is not answered leaves the exchange waiting. -/
def State.asked (s : State) (who : Option Nat) (f : State → State) : State :=
  let r := f s
  if r.part.out.length = s.part.out.length then r else { r with part := r.part.doeAnswer who }

/-- Answers GET_MEASUREMENTS of one block, of all (255), or of their number (0), with the signature of the Alias key over what it answers
(R393, R394) (log entry 29, PRESUMED). -/
def State.getMeasurements (s : State) (who : Option Nat) (i : Nat) : State :=
  let signed := fun (l : List Nat) => Output.spdm 0x60 (l ++ [(s.trust.sign l).toNat])
  if !s.part.spdmOpen who then s
  else
    let out := if i = 0 then signed [8]
      else if i = 255 then signed ((List.range 8).flatMap (fun k => s.measure who (k + 1)))
      else if i ≤ 8 then signed (s.measure who i)
      else .spdm 0x7F [1]
    { s with part := s.part.emit out }

/-- KEY_EXCHANGE: one session more, or Busy beyond 128 (R394) (log entry 43, DEDUCED) (log entry 29, PRESUMED). -/
def State.keyExchange (s : State) (who : Option Nat) : State :=
  if !s.part.spdmOpen who then s
  else if 128 ≤ s.trust.sessions.length then { s with part := s.part.emit (.spdm 0x7F [3]) }
  else { s with trust := { s.trust with sessions := s.trust.sessions ++ [who] }, part := s.part.emit (.spdm 0x64 []) }

/-! ### Grants (R405, R410 to R412) -/

/-- The vendor payload of a response, byte by byte (R405): command, status, the length of the results, the results. -/
def vendorBytes (cmd status : Nat) (results : List Nat) : List Nat := cmd :: status :: (leList 2 results.length ++ results)

/-- A vendor-defined response (log entry 43, DEDUCED) (log entry 29, PRESUMED). -/
def State.vendor (s : State) (cmd status : Nat) (results : List Nat) : State :=
  { s with part := s.part.emit (.spdm 0x7E (vendorBytes cmd status results)) }

/-- The results of GRANT_CREATE (R405): the index on the grantee's chip, ISSUER, SERIAL. -/
def grantResults (index issuer serial : Nat) : List Nat := leList 2 index ++ [issuer % 256, 0] ++ leList 4 serial

/-- A host's request comes in a secured session; a copy that another chip's Chitin asks for comes in theirs. -/
def State.inSession (s : State) (d : Nat) : Bool := s.part.spdmOpen (some d) && s.trust.sessions.contains (some d)

/-- The arguments of a grant are legal (R410). -/
def Grant.legal (g : Grant) : Bool :=
  decide (g.kind < 3) && decide (g.grantee < 4096) && decide (g.perm < 8) && decide (g.target % 512 < 262) && decide (g.mcg < 4096) &&
    (g.kind != 0 || (decide (21 ≤ g.log2 ∧ g.log2 ≤ 40) && g.base % 2 ^ g.log2 == 0 && decide (g.base + 2 ^ g.log2 ≤ 2 ^ 64)))

/-- Domain `d` owns the target of a grant on this chip (R411 step 1); a CAPTURE grant concerns its grantor's own frames. -/
def State.ownsTarget (s : State) (d : Nat) (g : Grant) : Bool :=
  match g.kind with
  | 0 => s.part.ownsAll s.trust (g.target % 512) g.base (g.base + 2 ^ g.log2) d
  | 1 => s.trust.ownedBy (.port (g.target % 512)) d
  | _ => true

/-- The lowest free entry of the grant table (log entry 20, DESIGN CHOICE). -/
def Trust.freeGrant (t : Trust) : Option Nat := ((List.range 4096).drop 1).find? (fun i => (t.grant i).isNone)

/-- Installs a grant on this chip (log entries 8 and 30, DESIGN CHOICE). -/
def State.installGrant (s : State) (i : Nat) (g : Grant) : State :=
  let t1 := { s.trust with grants := Sparse.set s.trust.grants none i (some g) }
  { s with trust := t1, part := { s.part with ant := { s.part.ant with grants := t1.captureGrants } } }

/-- The grantee's host is on this chip (log entry 30, DESIGN CHOICE). -/
def Part.granteeHere (p : Part) (fid : Nat) : Bool :=
  match p.domIdx fid with
  | some d => p.tf 5 d 0 0 1 == 1
  | none => false

/-- GRANT_CREATE: `issued` is none for the owner's request on this chip, else the issuer, serial and signature of a copy that another chip's Chitin asks this
one to install; `far` is what the other chips' Chitins that have a part in it answer, and the index on the grantee's chip
(log entries 8 and 30, DESIGN CHOICE). -/
def State.grantCreate (s : State) (d : Nat) (g0 : Grant) (issued : Option (Nat × Nat × BitVec 768)) (far : Nat × Nat) : State :=
  let p := s.part
  let g1 := { g0 with grantor := p.fabricId d, issuer := (issued.map (fun (x : Nat × Nat × BitVec 768) => x.1)).getD p.chip,
                      serial := (issued.map (fun (x : Nat × Nat × BitVec 768) => x.2.1)).getD s.trust.serial }
  let g := { g1 with sig := (issued.map (fun (x : Nat × Nat × BitVec 768) => x.2.2)).getD (s.trust.sign g1.words) }
  let tgtHere := decide (g.target / 512 % 128 = p.chip)
  let byeHere := p.granteeHere g.grantee
  match issued with
  | none =>
    if !s.inSession d then { s with part := p.emit (.spdm 0x7F []) }
    else if !g.legal then s.vendor 1 2 []
    else if tgtHere && !s.ownsTarget d g then s.vendor 1 1 []
    else if !(tgtHere && byeHere) && far.1 != 0 then s.vendor 1 far.1 []
    else
      let s1 := { s with trust := { s.trust with serial := (s.trust.serial + 1) % 2 ^ 32 } }
      if tgtHere || byeHere then
        match s.trust.freeGrant with
        | none => s.vendor 1 3 []
        | some i => (s1.installGrant i g).vendor 1 0 (grantResults (if byeHere then i else far.2) p.chip g.serial)
      else s1.vendor 1 0 (grantResults far.2 p.chip g.serial)
  | some _ =>
    if !p.chitinOn then s
    else if !g.legal then s.vendor 1 2 []
    else if tgtHere && !s.ownsTarget d g then s.vendor 1 1 []
    else match s.trust.freeGrant with
      | none => s.vendor 1 3 []
      | some i => (s.installGrant i g).vendor 1 0 (grantResults i g.issuer g.serial)

/-- GRANT_REVOKE by the grantor: the target chip's copy goes first, then this chip's windows that relied on the grant (R412). `far` is what the
target chip answers when the target is elsewhere (log entry 30, DESIGN CHOICE). -/
def State.grantRevoke (s : State) (d issuer serial far : Nat) : State :=
  let p := s.part
  if !s.inSession d then { s with part := p.emit (.spdm 0x7F []) }
  else match s.trust.grants.find? (fun e => match e.2 with
    | some g => g.issuer == issuer && g.serial == serial
    | none => false) with
  | some (i, some g) =>
    if g.grantor ≠ p.fabricId d then s.vendor 2 1 []
    else if g.target / 512 % 128 = p.chip ∨ far = 0 then (s.dropGrant i).vendor 2 0 []
    else s.vendor 2 far []
  | _ => s.vendor 2 far []

/-- A resource of this chip names something that can have a record (R406). -/
def Res.legal (r : Res) : Bool :=
  match r with
  | .range t b k => decide (t < 128 ∧ 21 ≤ k ∧ k ≤ 40) && b % 2 ^ k == 0
  | r => decide (r.portOf < 128)

/-- RESOURCE_RELEASE by the owner: the resource is reset and its record freed (log entry 30, DESIGN CHOICE). -/
def State.resourceRelease (s : State) (d : Nat) (r : Res) : State :=
  if !s.inSession d then { s with part := s.part.emit (.spdm 0x7F []) }
  else if !r.legal then s.vendor 3 2 []
  else match s.trust.ownOf r with
    | none => s.vendor 3 1 []
    | some o =>
      if o.dom ≠ d then s.vendor 3 1 []
      else
        let x := s.freeRes r
        x.1.vendor 3 (if x.2 then 0 else 6) []

/-- GRANT_LIST: up to 32 entries that involve the requester, and the next index. -/
def State.grantList (s : State) (d first : Nat) : State :=
  if !s.inSession d then { s with part := s.part.emit (.spdm 0x7F []) }
  else
    let l := (s.trust.grantsOf (s.part.fabricId d)).filter (fun e => decide (first ≤ e.1))
    let next := match l.drop 32 with
      | [] => 0xFFFF
      | e :: _ => e.1
    s.vendor 4 0 (leList 2 (min 32 l.length) ++ leList 2 next ++ (l.take 32).flatMap (fun e => e.2.words.flatMap (leList 4)))

/-! ### Services for Colony (R422) -/

/-- A request of Colony in MBX.CC with the result of serving it: response words go to CC_DATA. -/
def State.ccDone (s : State) (op result : Nat) (words : List Nat) : State :=
  let p := s.part
  let p1 := (words.zipIdx).foldl (fun (q : Part) e => q.setF .mbx (MBX.CC_DATA.DATA.ix e.2) e.1) p
  let p2 := (p1.setF .mbx MBX.CC_CMD.OP op).setF .mbx MBX.CC_STAT.RESULT result
  { s with part := p2.setF .mbx MBX.CC_STAT.RSP_LEN (4 * words.length) }

/-- Chitin serves Colony's request (log entry 40, DESIGN CHOICE). -/
def State.serve (s : State) (f : State → State) : State := if s.part.chitinOn ∧ s.part.boot.run then f s else s

/-- The ranges of this chip that have a record. -/
def Trust.rangeCount (t : Trust) : Nat := (t.own.filter (fun e => match e.1 with
  | .range _ _ _ => true
  | _ => false)).length

/-- RANGE_ASSIGN: 0 OK, 1 DENIED, 2 BAD_ARG, 3 NOT_FOUND (log entry 40, DESIGN CHOICE). -/
def State.rangeAssign (s : State) (d t base log2 : Nat) : State × Nat :=
  let r := Res.range t base log2
  let meets := (s.trust.rangesAt t).any (fun e => sharedBytes base (base + 2 ^ log2) e.1 (e.1 + 2 ^ e.2) != 0)
  if !r.legal then (s, 2)
  else if !s.trust.pools.contains t then (s, 3)
  else match s.trust.ownOf r with
    | some o => if o.dom = d then ({ s with trust := s.trust.setOwn r (some (.owned d)) }, 0) else (s, 1)
    | none => if meets ∨ 4096 ≤ s.trust.rangeCount then (s, 1) else ({ s with trust := s.trust.setOwn r (some (.owned d)) }, 0)

/-- RANGE_RELEASE: the range is unbound. -/
def State.rangeRelease (s : State) (t base log2 : Nat) : State × Nat :=
  let r := Res.range t base log2
  match s.trust.ownOf r with
  | none => (s, 3)
  | some _ => ({ s with trust := s.trust.unbind r }.settleGrants, 0)

/-- Chitin has keyed a selective stream with the device at a port (log entry 40, DESIGN CHOICE). -/
def Trust.addStream (t : Trust) (sid lp : Nat) : Trust := { t with streams := t.streams.filter (fun x => x.1 != sid) ++ [(sid, lp)] }

/-- A port is declared a pool port (log entry 40, DESIGN CHOICE). -/
def Trust.addPool (t : Trust) (lp : Nat) : Trust := { t with pools := t.pools.filter (· != lp) ++ [lp] }

/-! ### Meanings -/

/-- GET_MEASUREMENTS (R395): of a domain's host or the BMC, for a block, all blocks (255) or their number (0). -/
def execGetMeasurements (who : Option (Fin 64)) (i : Fin 256) (s : State) : Host.Outcome State Fault Refusal :=
  .next (s.asked (who.map (fun d => d.val)) (fun r => r.getMeasurements (who.map (fun d => d.val)) i))

/-- KEY_EXCHANGE (R394). -/
def execKeyExchange (who : Option (Fin 64)) (s : State) : Host.Outcome State Fault Refusal :=
  .next (s.asked (who.map (fun d => d.val)) (fun r => r.keyExchange (who.map (fun (d : Fin 64) => d.val))))

/-- GRANT_CREATE (R411). -/
def execGrantCreate (d : Fin 64) (kind perm log2 : Fin 256) (ats : Bool) (grantee target mcg : Fin 65536) (base : BitVec 64)
    (issued : Option (Fin 128 × Word × BitVec 768)) (farStatus : Fin 7) (farIndex : Fin 65536) (s : State) : Host.Outcome State Fault Refusal :=
  .next (s.asked (if issued.isNone then some d.val else none) (fun r =>
    r.grantCreate d (Grant.mk kind perm ats log2 0 grantee target mcg base.toNat 0 0 0)
      (issued.map (fun (x : Fin 128 × Word × BitVec 768) => (x.1.val, x.2.1.toNat, x.2.2))) (farStatus, farIndex)))

/-- GRANT_REVOKE (R412). -/
def execGrantRevoke (d : Fin 64) (issuer : Fin 128) (serial : Word) (farStatus : Fin 7) (s : State) : Host.Outcome State Fault Refusal :=
  .next (s.asked (some d.val) (fun r => r.grantRevoke d issuer serial.toNat farStatus))

/-- RESOURCE_RELEASE (R406). -/
def execResourceRelease (d : Fin 64) (r : Res) (s : State) : Host.Outcome State Fault Refusal := 
  .next (s.asked (some d.val) (fun q => q.resourceRelease d r))

/-- GRANT_LIST (R405). -/
def execGrantList (d : Fin 64) (first : Fin 65536) (s : State) : Host.Outcome State Fault Refusal := 
  .next (s.asked (some d.val) (fun r => r.grantList d first))

/-- GRANT_READ (R422). -/
def execGrantRead (i : Fin 65536) (s : State) : Host.Outcome State Fault Refusal :=
  .next (s.serve (fun r => if 4096 ≤ i.val then r.ccDone 1 2 [] else match r.trust.grant i with
    | none => r.ccDone 1 3 []
    | some g => r.ccDone 1 0 g.words))

/-- RANGE_ASSIGN (R422). -/
def execRangeAssign (d : Fin 64) (t : Fin 512) (base : BitVec 64) (log2 : Fin 256) (s : State) : Host.Outcome State Fault Refusal :=
  .next (s.serve (fun r => let x := r.rangeAssign d t base.toNat log2
                           x.1.ccDone 2 x.2 []))

/-- RANGE_RELEASE (R422). -/
def execRangeRelease (t : Fin 512) (base : BitVec 64) (log2 : Fin 256) (s : State) : Host.Outcome State Fault Refusal :=
  .next (s.serve (fun r => let x := r.rangeRelease t base.toNat log2
                           x.1.ccDone 3 x.2 []))

/-- IDE_STREAM (R396): Colony learns only whether keying a selective stream with the device at a port succeeded. -/
def execIdeStream (sid : Fin 256) (t : Fin 128) (ok : Bool) (s : State) : Host.Outcome State Fault Refusal :=
  .next (s.serve (fun r => if ok then
    State.ccDone { r with trust := r.trust.addStream sid t } 4 0 []
    else r.ccDone 4 1 []))

/-- OWNER_READ (R422). -/
def execOwnerRead (res : Res) (s : State) : Host.Outcome State Fault Refusal :=
  .next (s.serve (fun r => if !res.legal then r.ccDone 5 2 [] else match r.trust.ownOf res with
    | none => r.ccDone 5 0 [0]
    | some (.owned d) => r.ccDone 5 0 [1 + 256 * d]
    | some (.quarantined d) => r.ccDone 5 0 [2 + 256 * d]))

/-- POOL_DECLARE (R422): only a FREE port becomes a pool port. -/
def execPoolDeclare (t : Fin 512) (s : State) : Host.Outcome State Fault Refusal :=
  .next (s.serve (fun r => if 128 ≤ t.val then r.ccDone 6 2 []
    else if (r.trust.ownOf (.port t)).isSome then r.ccDone 6 1 []
    else State.ccDone { r with trust := r.trust.addPool t } 6 0 []))

end Sys2Proof.Machine
end

