-- ==== Sys2Proof/Machine/Hive.lean ====
section
/-! DEFINITION. Hive's mailbox services (R402 to R404): Hive takes the request from MB_DATA, submits what it decides through the Guarded Write
Port or Chitin's services, and completes the mailbox. Handles are the model's (a local port, or 65536 times the port plus the PRID). -/

namespace Sys2Proof.Machine

/-! ### Requests and responses (R403) -/

/-- Byte `k` of a domain's MB_DATA. -/
def Part.mbByte (p : Part) (d k : Nat) : Nat := (p.rd ((Page.cfmb d).base + 0x800 + k / 4 * 4)).toNat / 256 ^ (k % 4) % 256

/-- A little-endian field of `n` bytes. -/
def Part.mbField (p : Part) (d k n : Nat) : Nat := ((List.range n).map (fun i => p.mbByte d (k + i) * 256 ^ i)).sum

/-- Writes bytes of MB_DATA from byte 0. -/
def Part.setMb (p : Part) (d : Nat) (l : List Nat) : Part :=
  (l.zipIdx).foldl (fun (q : Part) e =>
    let a := (Page.cfmb d).base + 0x800 + e.2 / 4 * 4
    q.wr a ((Fld.mk 0 (8 * (e.2 % 4)) 8 0 0).into (q.rd a) e.1)) p

/-- The little-endian bytes of a number. -/
def mbLe (n v : Nat) : List Nat := (List.range n).map (fun i => v / 256 ^ i % 256)

/-- How a service ends: RESULT and the detail code of a refusal, or the response. -/
inductive Served where
  | no (result detail : Nat)
  | ok (bytes : List Nat)

/-- Hive serves the command of a domain's mailbox when it is PENDING with the opcode, under the request length of R404
(log entries 18 and 42, DESIGN CHOICE). -/
def State.hive (s : State) (d op len : Nat) (f : State → State × Served) : State :=
  let p := s.part
  if ¬(p.md.colonyUp ∧ p.mbPending d ∧ p.getF (.cfmb d) CFMB.MB_CMD.OPCODE = op) then s
  else
    let x := if p.getF (.cfmb d) CFMB.MB_CMD.LEN ≠ len then (s, Served.no 7 4) else f s
    match x.2 with
    | .ok l => { x.1 with part := (x.1.part.setMb d l).mbDone d 0 l.length }
    | .no r c => { x.1 with part := (x.1.part.setMb d [op % 256, op / 256, c, 0]).mbDone d r 4 }

/-- A refusal that a RESULT of the Guarded Write Port becomes (log entry 42, DESIGN CHOICE). -/
def refusal (res : Nat) : Served := if res = 7 then .no 4 2 else if res = 6 then .no 7 3 else if res = 4 ∨ res = 5 then .no 7 2 else .no 7 4

/-- Hive writes a table entry through window 0 (R266, R408); answers the RESULT (log entry 42, DESIGN CHOICE). -/
def State.hiveWrite (s : State) (t i op : Nat) (e : List (BitVec 32)) : State × Nat :=
  let p1 := (e.zipIdx).foldl (fun (q : Part) x => q.setF .tbl (TBL.ACC_DATA.DATA.ix2 0 x.2) x.1.toNat) s.part
  let p2 := ((p1.setF .tbl (TBL.ACC_CTL.TABLE.ix 0) t).setF .tbl (TBL.ACC_CTL.INDEX.ix 0) i).setF .tbl (TBL.ACC_CTL.OP.ix 0) op
  let s1 := { s with part := p2 }.tblRun 0 t i op
  (s1, s1.part.getF .tbl (TBL.ACC_STAT.RESULT.ix 0))

/-- The words of an entry with a field of word `w` set (log entry 42, DESIGN CHOICE). -/
def eset (e : List (BitVec 32)) (w lo n v : Nat) : List (BitVec 32) := e.set w ((Fld.mk 0 lo n 0 0).into (e.getD w 0) v)

/-- Hive changes the KIND of a bridge of a domain, with a port for KIND PORT. -/
def State.hiveKind (s : State) (d vb kind t : Nat) : State × Nat :=
  s.hiveWrite 6 (128 * d + vb) 1 (eset (eset (s.part.entry 6 (128 * d + vb)) 0 1 2 kind) 0 3 7 t)

/-! ### Topology -/

/-- GET_DOMAIN. -/
def State.getDomain (s : State) (d : Nat) : List Nat :=
  let p := s.part
  mbLe 2 (p.fabricId d) ++ [d, p.chip] ++ mbLe 2 (p.gport (p.uport d)) ++ [p.md.mode.code, (p.md.role.map Mode.code).getD 0]
    ++ mbLe 2 (p.bridges d).length ++ mbLe 2 ((p.validIn 1).filter (fun w => p.tf 1 w 0 14 6 == d)).length ++ mbLe 4 p.boot.restarts

/-- One entry of GET_BRIDGES. -/
def Part.bridgeEntry (p : Part) (d vb : Nat) : List Nat :=
  let kind := p.vbKind d vb
  let t := p.tf 6 (128 * d + vb) 0 3 7
  let up := if kind = 0 then p.bit (.port t) PORT.PORT_STAT.LINK_UP
    else if kind = 1 then (p.fnsOf d vb).any (fun f => p.bit (.port (p.tf 0 f 0 3 7)) PORT.PORT_STAT.LINK_UP) else false
  [vb, kind, b2n (kind != 2) + 2 * b2n up + 4 * b2n (p.dpcOn d vb), 0] ++ mbLe 2 (if kind = 0 then p.gport t else 0xFFFF)
    ++ mbLe 2 (p.fnsOf d vb).length

/-- GET_BRIDGES. -/
def State.getBridges (s : State) (d : Nat) : List Nat :=
  let l := s.part.bridges d
  mbLe 2 l.length ++ [0, 0] ++ l.flatMap (s.part.bridgeEntry d)

/-- The items of a list that are free: ports without record, functions at ROLE 3 ports without record, pool ports with their largest free range. -/
def State.freeItems (s : State) (list : Nat) (found : List FreeItem) : List FreeItem :=
  let p := s.part
  match list with
  | 0 => found.filter (fun x => p.present x.port && p.role x.port == 0 && (s.trust.ownOf (.port x.port)).isNone)
  | 1 => found.filter (fun x => p.role x.port == 3 && (s.trust.ownOf (.fn x.port x.prid)).isNone)
  | _ => found.filter (fun x => s.trust.pools.contains x.port)

/-- One entry of LIST_FREE. -/
def Part.freeEntry (p : Part) (list : Nat) (x : FreeItem) : List Nat :=
  mbLe 4 (if list = 1 then 65536 * x.port + x.prid.toNat else x.port) ++ mbLe 2 (p.gport x.port) ++ mbLe 2 x.vendor ++ mbLe 2 x.device
    ++ [b2n (list == 1 && x.vf), if list = 2 then x.log2 else 0]

/-- LIST_FREE. -/
def State.listFree (s : State) (d : Nat) (found : List FreeItem) : State × Served :=
  let list := s.part.mbByte d 0
  let first := s.part.mbField d 2 2
  if 2 < list then (s, .no 7 4)
  else
    let l := (s.freeItems list found).drop first
    let next := if l.length ≤ 128 then 0xFFFF else first + 128
    (s, .ok (mbLe 2 (min 128 l.length) ++ mbLe 2 next ++ (l.take 128).flatMap (s.part.freeEntry list)))

/-! ### Hot plug and binding -/

/-- A slot command to the expander of a present bridge with HP set (log entry 42, DESIGN CHOICE). -/
def State.slotCmd (s : State) (d most : Nat) : State × Served :=
  let p := s.part
  let vb := p.mbByte d 0
  if 128 ≤ vb ∨ !p.vbPresent d vb ∨ p.tf 6 (128 * d + vb) 1 15 1 = 0 then (s, .no 7 1)
  else if most < p.mbByte d 1 ∨ (most = 15 ∧ (p.mbByte d 1 % 4 = 3 ∨ p.mbByte d 1 / 4 = 3)) then (s, .no 7 4)
  else ({ s with part := p.emit (.i3c (p.tf 6 (128 * d + vb) 1 0 7) false 1) }, .ok [])

/-- BIND: Hive names the function's word 1 (but for its PRID) and BAR slots, which it knows from the device (log entry 42, DESIGN CHOICE). -/
def State.bindFn (s : State) (d : Nat) (w1 : BitVec 32) (bars : List (BitVec 32)) : State × Served :=
  let p := s.part
  let h := p.mbField d 0 4
  let t := h / 65536
  let vb := p.mbByte d 4
  let kind := p.vbKind d vb
  if 128 ≤ t ∨ p.role t ≠ 3 then (s, .no 7 1)
  else if 128 ≤ vb ∨ !p.vbPresent d vb ∨ (kind ≠ 1 ∧ kind ≠ 2) then (s, .no 7 1)
  else
    let a := if kind = 2 then s.hiveKind d vb 1 0 else (s, 0)
    if a.2 ≠ 0 then (a.1, refusal a.2)
    else match (List.range 16384).find? (fun i => !(p.validIn 0).contains i) with
      | none => (a.1, .no 7 3)
      | some i =>
        let w0 := BitVec.ofNat 32 (1 + 8 * t + 2 ^ 10 * d + 2 ^ 16 * vb + 2 ^ 23 * p.mbByte d 5)
        let b := a.1.hiveWrite 0 i 1 ([w0, (w1 &&& 0xFFFF0000) ||| BitVec.ofNat 32 (h % 65536), 0, 0] ++ bars.take 12)
        if b.2 = 0 then (b.1, .ok (mbLe 2 (b.1.part.vrid i).toNat ++ [0, 0]))
        else (if kind = 2 then (b.1.hiveKind d vb 2 0).1 else b.1, refusal b.2)

/-- UNBIND. -/
def State.unbindFn (s : State) (d : Nat) : State × Served :=
  let p := s.part
  match (p.fnsOf d (p.mbByte d 0)).find? (fun f => p.tf 0 f 0 23 8 == p.mbByte d 1) with
  | none => (s, .no 7 1)
  | some f =>
    let x := s.hiveWrite 0 f 2 []
    (x.1, if x.2 = 0 then .ok [] else refusal x.2)

/-- ATTACH_PORT (log entry 42, DESIGN CHOICE). -/
def State.attachPort (s : State) (d : Nat) : State × Served :=
  let p := s.part
  let t := p.mbField d 0 4
  let vb := p.mbByte d 4
  if 128 ≤ t ∨ !p.present t then (s, .no 7 1)
  else if 128 ≤ vb ∨ !p.vbPresent d vb ∨ p.vbKind d vb ≠ 2 ∨ p.tf 6 (128 * d + vb) 1 15 1 = 0 then (s, .no 7 1)
  else if p.role t ≠ 0 ∨ !p.guardPort s.trust t 2 d then (s, .no 4 2)
  else
    let s1 := s.portSet t 2 d vb
    let x := s1.hiveKind d vb 0 t
    (x.1, if x.2 = 0 then .ok [] else refusal x.2)

/-- DETACH_PORT. -/
def State.detachPort (s : State) (d : Nat) : State × Served :=
  let p := s.part
  let vb := p.mbByte d 0
  let t := p.tf 6 (128 * d + vb) 0 3 7
  if 128 ≤ vb ∨ !p.vbPresent d vb ∨ p.vbKind d vb ≠ 0 then (s, .no 7 1)
  else
    let x := s.hiveKind d vb 2 0
    if x.2 = 0 then (x.1.portSet t 0 d 0, .ok []) else (x.1, refusal x.2)

/-! ### Pool memory and channels -/

/-- POOL_ALLOC: Hive names the pool port when the request leaves it open, the range, and the access sizes that R404 leaves to it. The range is zero-filled
before it is mapped (R255) (log entry 42, DESIGN CHOICE). -/
def State.poolAlloc (s : State) (d any base maxreq atom : Nat) : State × Served :=
  let p := s.part
  let k := p.mbByte d 0
  let flags := p.mbByte d 1
  let want := p.mbField d 2 2
  let t := if want = 0xFFFF then any else want % 512
  if k < 21 ∨ 40 < k ∨ 64 ≤ flags ∨ (want ≠ 0xFFFF ∧ want / 512 ≠ p.chip) then (s, .no 7 4)
  else if !s.trust.pools.contains t then (s, .no 7 1)
  else if !p.bit (.port t) PORT.PORT_STAT.DL_UP then (s, .no 7 5)
  else match (List.range 65536).find? (fun i => !(p.validIn 1).contains i) with
    | none => (s, .no 7 3)
    | some i =>
      if (s.trust.ownOf (.range t base k)).isSome then (s, .no 7 2)
      else
        let a := s.rangeAssign d t base k
        if a.2 ≠ 0 then (a.1, if a.2 = 2 then .no 7 4 else .no 4 2)
        else
          let s1 : State := { a.1 with part := a.1.part.emit (.zeroFill t base k) }
          let w0 := 1 + 2 * (flags / 8 % 2) + 4 * (flags % 8) + 32 * atom + 512 * maxreq + 2 ^ 12 * (flags / 16 % 4) + 2 ^ 14 * d + 2 ^ 20 * k
          let b := p.mbField d 8 8
          let x := s1.hiveWrite 1 i 1 ([w0, 256 * p.gport t, b % 2 ^ 32, b / 2 ^ 32, base % 2 ^ 32, base / 2 ^ 32, 0, 0].map (BitVec.ofNat 32))
          if x.2 = 0 then (x.1, .ok (mbLe 4 i ++ mbLe 2 (p.gport t) ++ [0, 0] ++ mbLe 8 base))
          else ({ x.1 with trust := x.1.trust.setOwn (.range t base k) none }, refusal x.2)

/-- POOL_RELEASE. -/
def State.poolRelease (s : State) (d : Nat) : State × Served :=
  let i := s.part.mbField d 0 4
  if i < 65536 ∧ (s.part.validIn 1).contains i ∧ s.part.tf 1 i 0 14 6 = d then
    let x := s.hiveWrite 1 i 2 []
    (x.1, if x.2 = 0 then .ok [] else refusal x.2)
  else (s, .no 7 1)

/-- DRONE_ASSIGN: Hive chooses the physical channel. -/
def State.droneAssign (s : State) (d c : Nat) : State × Served :=
  let p := s.part
  let pg := Page.drn (c / 256)
  if 8 ≤ p.mbByte d 1 then (s, .no 7 4)
  else if p.bit pg (DRN.CH_BIND.VALID.ix (c % 256)) then (s, .no 7 2)
  else
    let s1 := s.droneBind .colony c (BitVec.ofNat 32 (1 + 2 * d + 128 * p.mbByte d 0 + 2 ^ 15 * p.mbByte d 1))
    let r := s1.part.getF pg DRN.BIND_RES.RESULT
    (s1, if s1.part.bit pg (DRN.CH_BIND.VALID.ix (c % 256)) then .ok [c / 256, c % 256] else refusal (if r = 0 then 7 else r))

/-- DRONE_RELEASE: the slot's channel is unbound, and its domain has released it. -/
def State.droneRelease (s : State) (d : Nat) : State × Served :=
  match s.part.chanAt d (s.part.mbByte d 0) with
  | none => (s, .no 7 1)
  | some c =>
    let s1 := s.droneBind .colony c 0
    if s1.part.bit (.drn (c / 256)) (DRN.CH_BIND.VALID.ix (c % 256)) then (s1, refusal 7)
    else ({ s1 with trust := { s1.trust with drone := Sparse.set s1.trust.drone 0 c 0 } }, .ok [])

/-! ### Capture -/

/-- COLLECTOR_SET: Colony programs Antenna with the requesting domain as collector. -/
def State.collectorSet (s : State) (d : Nat) : State × Served :=
  let p := s.part
  let f := p.mbByte d 0
  if 4 ≤ f ∨ 8 ≤ p.mbByte d 2 ∨ 8 ≤ p.mbByte d 3 then (s, .no 7 4)
  else
    let p1 := ((p.setF .ant ANT.CTL.MODE (f / 2)).setF .ant ANT.CTL.TEL_CLASS (p.mbByte d 2)).setF .ant ANT.CTL.MIRROR_CLASS (p.mbByte d 3)
    let p2 := (p1.setF .ant ANT.CTL.COLL_DOM (p.fabricId d)).setF .ant ANT.RING_CFG.SIZE_LOG2 (min 31 (p.mbByte d 1))
    let b := p.mbField d 8 8
    let p3 := (p2.setF .ant ANT.RING_BASE.BASE_LO (b / 4096 % 2 ^ 20)).setF .ant ANT.RING_BASE.BASE_HI (b / 2 ^ 32)
    let p4 := p3.captureEnable (f % 2 == 1)
    ({ s with part := p4 }, if f % 2 = 1 ∧ !p4.bit .ant ANT.CTL.EN then .no 7 5 else .ok [])

/-- CAPTURE_FILTER. -/
def State.captureFilter (s : State) (d : Nat) : State × Served :=
  let p := s.part
  let i := p.mbByte d 0
  let f := p.mbByte d 1
  if 4 ≤ i ∨ 128 ≤ f ∨ 16 ≤ p.mbByte d 7 then (s, .no 7 4)
  else
    let w0 := f % 32 + 32 * (p.mbField d 2 2 % 512) + 2 ^ 14 * (f / 32 % 2) + 2 ^ 16 * (p.mbField d 4 2 % 4096) + 2 ^ 28 * (f / 64)
    let w1 := p.mbByte d 6 + 256 * p.mbByte d 7 + 2 ^ 12 * min 31 (p.mbByte d 8)
    let a := Page.ant.base + 0x140 + 8 * i
    ({ s with part := (p.wr a (BitVec.ofNat 32 w0)).wr (a + 4) (BitVec.ofNat 32 w1) }, .ok [])

/-! ### Meanings -/

/-- GET_DOMAIN (R404). -/
def execGetDomain (d : Fin 64) (s : State) : Host.Outcome State Fault Refusal := .next (s.hive d 0x0001 0 (fun r => (r, .ok (r.getDomain d))))

/-- GET_BRIDGES (R404). -/
def execGetBridges (d : Fin 64) (s : State) : Host.Outcome State Fault Refusal := .next (s.hive d 0x0002 0 (fun r => (r, .ok (r.getBridges d))))

/-- LIST_FREE (R404), over what Hive has found behind the ports. -/
def execListFree (d : Fin 64) (found : List FreeItem) (s : State) : Host.Outcome State Fault Refusal :=
  .next (s.hive d 0x0003 4 (fun r => r.listFree d found))

/-- SLOT_POWER (R404). -/
def execSlotPower (d : Fin 64) (s : State) : Host.Outcome State Fault Refusal := .next (s.hive d 0x0100 2 (fun r => r.slotCmd d 1))

/-- SLOT_INDICATOR (R404). -/
def execSlotIndicator (d : Fin 64) (s : State) : Host.Outcome State Fault Refusal := .next (s.hive d 0x0101 2 (fun r => r.slotCmd d 15))

/-- BIND (R404). -/
def execBind (d : Fin 64) (w1 : Word) (bars : List Word) (s : State) : Host.Outcome State Fault Refusal :=
  .next (s.hive d 0x0200 8 (fun r => r.bindFn d w1 bars))

/-- UNBIND (R404). -/
def execUnbind (d : Fin 64) (s : State) : Host.Outcome State Fault Refusal := .next (s.hive d 0x0201 2 (fun r => r.unbindFn d))

/-- ATTACH_PORT (R404). -/
def execAttachPort (d : Fin 64) (s : State) : Host.Outcome State Fault Refusal := .next (s.hive d 0x0202 8 (fun r => r.attachPort d))

/-- DETACH_PORT (R404). -/
def execDetachPort (d : Fin 64) (s : State) : Host.Outcome State Fault Refusal := .next (s.hive d 0x0203 1 (fun r => r.detachPort d))

/-- POOL_ALLOC (R404). -/
def execPoolAlloc (d : Fin 64) (any : Fin 128) (base : BitVec 64) (maxreq : Fin 6) (atom : Fin 8) (s : State) :
    Host.Outcome State Fault Refusal :=
  .next (s.hive d 0x0300 16 (fun r => r.poolAlloc d any base.toNat maxreq atom))

/-- POOL_RELEASE (R404). -/
def execPoolRelease (d : Fin 64) (s : State) : Host.Outcome State Fault Refusal := .next (s.hive d 0x0301 4 (fun r => r.poolRelease d))

/-- DRONE_ASSIGN (R404). -/
def execDroneAssign (d : Fin 64) (c : Fin 512) (s : State) : Host.Outcome State Fault Refusal :=
  .next (s.hive d 0x0400 2 (fun r => r.droneAssign d c))

/-- DRONE_RELEASE (R404). -/
def execDroneRelease (d : Fin 64) (s : State) : Host.Outcome State Fault Refusal := .next (s.hive d 0x0401 1 (fun r => r.droneRelease d))

/-- COLLECTOR_SET (R404). -/
def execCollectorSet (d : Fin 64) (s : State) : Host.Outcome State Fault Refusal := .next (s.hive d 0x0500 16 (fun r => r.collectorSet d))

/-- CAPTURE_FILTER (R404). -/
def execCaptureFilter (d : Fin 64) (s : State) : Host.Outcome State Fault Refusal := .next (s.hive d 0x0501 16 (fun r => r.captureFilter d))

end Sys2Proof.Machine
end

