-- ==== Sys2Proof/Machine/Pages.lean ====
section
/-! DEFINITION. The GPIO, I3C and SPI pages (R367 to R369, R488 to R494). -/

namespace Sys2Proof.Machine

/-! ### GPIO (R488, R489) -/

/-- A request for pins of other owners is refused and reported; `who` is 0 for a GPIO register, 1 for I3C.SLOT_EN (R489). -/
def Part.pinBusy (p : Part) (who : Nat) (pins : List Nat) : Part :=
  match pins with
  | [] => p
  | k :: _ =>
    let p1 := ((p.setF .gpio GPIO.BUSY.PIN k).setF .gpio GPIO.BUSY.REQ who).setF .gpio GPIO.BUSY.PIN_BUSY 1
    ((p1.bumpF .gpio GPIO.BUSY.CNT pins.length).count .gpio 1 pins.length).err .gpio 0

/-- The level of an output that the GPIO feature drives (log entry 46, DEDUCED). -/
def Part.driveOut (p : Part) : Part :=
  (List.range 16).foldl (fun (q : Part) k =>
    if q.pinOwner k = 0 ∧ nbit (q.getF .gpio GPIO.DIR.DIR) k then
      let lvl := q.getF .gpio GPIO.IN.IN
      let bit := 2 ^ k
      q.setF .gpio GPIO.IN.IN (lvl - (if nbit lvl k then bit else 0) + (if nbit (q.getF .gpio GPIO.OUT.OUT) k then bit else 0))
    else q) p

/-- A write of DIR (0), OUT (1) or EDGE (2): the bits of pins that the GPIO feature owns take effect; others that the write would change are refused
(log entry 46, DEDUCED). -/
def Part.gpioWrite (p : Part) (reg : Nat) (w : BitVec 32) : Part :=
  let o := [0x108, 0x10C, 0x114].getD reg 0x108
  let n := if reg = 2 then 2 else 1
  let old := p.peek .gpio o
  let part_ := fun (x : BitVec 32) (k : Nat) => x.toNat / 2 ^ (n * k) % 2 ^ n
  let mine := (List.range 16).filter (fun k => p.pinOwner k == 0)
  let bad := (List.range 16).filter (fun k => p.pinOwner k != 0 && part_ old k != part_ w k)
  let stored := p.rd (Page.gpio.base + o)
  let v := mine.foldl (fun (x : BitVec 32) k => (Fld.mk 0 (n * k) n 0 0).into x (part_ w k)) stored
  let p1 := (p.wr (Page.gpio.base + o) v).driveOut
  let p2 := if reg = 1 then p1.count .gpio 2 1 else p1
  p2.pinBusy 0 bad

/-- SLOT_STAT: a SLOT_INT-owned pin that is low sets its bit under SLOT_EN; SLOT while both are set (R491) (log entry 47, DEDUCED). -/
def Part.slotLevels (p : Part) : Part :=
  let low := (List.range 16).filter (fun k => p.pinOwner k == 2 && !nbit (p.getF .gpio GPIO.IN.IN) k && nbit (p.getF .i3c I3C.SLOT_EN.EN) k)
  let p1 := p.setF .i3c I3C.SLOT_STAT.LOW ((low.map (fun k => 2 ^ k)).sum)
  if low = [] then p1 else p1.irq .i3c 16

/-- A pin takes a level: GPIO.IN shows it, and a selected edge on an input of the GPIO feature sets its interrupt (R489). -/
def Part.pinLevel (p : Part) (k : Nat) (high : Bool) : Part :=
  let lvl := p.getF .gpio GPIO.IN.IN
  let driven := p.pinOwner k == 0 && nbit (p.getF .gpio GPIO.DIR.DIR) k
  if nbit lvl k = high ∨ driven = true ∨ p.md.mode = .off then p
  else
    let p1 := p.setF .gpio GPIO.IN.IN (if high then lvl + 2 ^ k else lvl - 2 ^ k)
    let sel := nbit (p.getF .gpio GPIO.EDGE.EDGE) (2 * k + (if high then 0 else 1))
    let p2 := if p.pinOwner k = 0 ∧ sel = true then (p1.count .gpio 0 1).irq .gpio (2 ^ k) else p1
    if p.pinOwner k = 2 ∧ p.md.mode.core ∧ (high = true ∨ p.md.colonyUp) then p2.slotLevels else p2

/-- A write of I3C.SLOT_EN (R489, R491). -/
def Part.slotEnWrite (p : Part) (w : BitVec 32) : Part :=
  let bad := (List.range 16).filter (fun k => p.pinOwner k != 2 && w.getLsbD k)
  let old := p.getF .i3c I3C.SLOT_EN.EN
  let v := bitsOf ((List.range 16).map (fun k => if bad.contains k then nbit old k else w.getLsbD k))
  ((p.setF .i3c I3C.SLOT_EN.EN v).slotLevels).pinBusy 1 bad

/-! ### I3C0 and in-band interrupts (R491) -/

/-- Bytes into a buffer of a page, from byte 0. -/
def Part.setBuf (p : Part) (pg : Page) (o : Nat) (l : List Byte) : Part :=
  (l.zipIdx).foldl (fun (q : Part) e =>
    let a := pg.base + o + e.2 / 4 * 4
    q.wr a ((Fld.mk 0 (8 * (e.2 % 4)) 8 0 0).into (q.rd a) e.1.toNat)) p

/-- The first `n` bytes of a buffer. -/
def Part.getBuf (p : Part) (pg : Page) (o n : Nat) : List Byte :=
  (List.range n).map (fun k => BitVec.ofNat 8 ((p.rd (pg.base + o + k / 4 * 4)).toNat / 256 ^ (k % 4)))

/-- A write of C0_CMD with GO (log entry 47, DEDUCED). -/
def Part.i3cGo (p : Part) (w : BitVec 32) : Part :=
  if p.bit .i3c I3C.C0_STAT.BUSY ∨ !p.bit .i3c I3C.CTL.C0_EN then p
  else
    let p1 := p.wr (Page.i3c.base + 0x110) (w &&& 0x03FFFFFF)
    let len := I3C.C0_CMD.LEN.of w
    if len = 0 ∨ 256 < len then (p1.setF .i3c I3C.C0_STAT.RESULT 4).err .i3c 0
    else (p1.setF .i3c I3C.C0_STAT.BUSY 1).emit (.i3c (I3C.C0_CMD.ADDR.of w) (I3C.C0_CMD.RNW.of w == 1) len)

/-- The command in progress ends: 0 OK, 1 NACK, 2 arbitration lost, 3 timeout; a read leaves its bytes in C0_BUF. -/
def Part.i3cDone (p : Part) (result : Nat) (data : List Byte) : Part :=
  if !p.bit .i3c I3C.C0_STAT.BUSY then p
  else
    let l := if p.bit .i3c I3C.C0_CMD.RNW then data.take (p.getF .i3c I3C.C0_CMD.LEN) else []
    let p1 := ((p.setF .i3c I3C.C0_STAT.BUSY 0).setF .i3c I3C.C0_STAT.RESULT result).setF .i3c I3C.C0_STAT.RX_LEN l.length
    let p2 := ((p1.setBuf .i3c 0x400 l).count .i3c 0 1).irq .i3c 1
    if result = 0 then p2 else p2.err .i3c 0

/-- An in-band interrupt arrives. -/
def Part.ibiIn (p : Part) (addr mdb : Nat) : Part :=
  if !p.bit .i3c I3C.CTL.C0_EN ∨ !p.md.mode.core then p
  else
    let p1 := p.count .i3c 1 1
    if p1.ibi.length < 16 then ({ p1 with ibi := p1.ibi ++ [(addr, mdb)] }).irq .i3c 2
    else (p1.setF .i3c I3C.IBI.OVF 1).err .i3c 1

/-! ### MCTP (R490) -/

/-- A message on SMBus (0) or I3C1 (1). `eid` is the endpoint ID that a Set Endpoint ID assigns (log entry 47, DEDUCED). -/
def Part.mctpIn (p : Part) (bus src : Nat) (bytes : List Byte) (eid : Option Nat) : Part :=
  let on := if bus = 1 then p.bit .i3c I3C.CTL.T1_EN else p.bit .i3c I3C.CTL.SMB_EN
  let type := (bytes.headD 0).toNat % 128
  let vendor := (bytes.getD 1 0).toNat * 256 + (bytes.getD 2 0).toNat
  if !on ∨ !p.md.mode.core then p
  else if type = 0 ∨ type = 5 ∨ (type = 0x7E ∧ vendor = 0x1F6D) then
    let p1 := p.count .i3c 4 1
    match eid with
    | some e => if type = 0 then (p1.setF .i3c I3C.EP.EID e).setF .i3c I3C.EP.EID_VALID 1 else p1
    | none => p1
  else if p.bit .i3c I3C.MRX_STAT.AVAIL ∨ !p.md.colonyUp ∨ 1024 < bytes.length then
    ((p.setF .i3c I3C.MRX_STAT.OVF 1).count .i3c 2 1).err .i3c 2
  else
    let p1 := ((p.setF .i3c I3C.MRX_STAT.AVAIL 1).setF .i3c I3C.MRX_STAT.LEN bytes.length).setF .i3c I3C.MRX_STAT.BUS bus
    ((((p1.setF .i3c I3C.MRX_STAT.SRC_EID src).setBuf .i3c 0x800 bytes).count .i3c 3 1)).irq .i3c 4

/-- A write of MTX_CTL with GO; a length outside 1 to 1,024 sends nothing (log entry 47, DEDUCED). -/
def Part.mtxGo (p : Part) (w : BitVec 32) : Part :=
  if p.bit .i3c I3C.MTX_CTL.BUSY then p
  else
    let p1 := p.wr (Page.i3c.base + 0x124) (w &&& 0x000FFFFF)
    let len := I3C.MTX_CTL.LEN.of w
    if len = 0 ∨ 1024 < len then p1
    else (p1.setF .i3c I3C.MTX_CTL.BUSY 1).emit (.mctp (I3C.MTX_CTL.BUS.of w) (I3C.MTX_CTL.DST_EID.of w) (p.getBuf .i3c 0xC00 len))

/-- The message has been sent. -/
def Part.mtxDone (p : Part) : Part :=
  if p.bit .i3c I3C.MTX_CTL.BUSY then ((p.setF .i3c I3C.MTX_CTL.BUSY 0).count .i3c 5 1).irq .i3c 8 else p

/-! ### SPI (R383, R493) -/

/-- Bytes an operation touches: 0 READ, 1 PROGRAM, 2 ERASE_4K, 3 ERASE_64K (log entry 48, DEDUCED). -/
def spiSize (op len : Nat) : Nat := if op = 2 then 4096 else if op = 3 then 65536 else len

/-- An operation is refused: counted, with its RESULT (R493, R494) (log entry 48, DEDUCED). -/
def Part.spiRefuse (p : Part) (result : Nat) : Part :=
  let p1 := (p.setF .spi SPI.STAT.RESULT result).count .spi 4 1
  if result = 1 then (p1.bumpF .spi SPI.STAT.DENY_CNT 1).err .spi 0 else if result = 4 then p1.err .spi 2 else p1

/-- What the page SPI.CMD answers to a GO that it may not take at all: NOT_OWNER for a requester that may only read the page (R483, R493). -/
def Part.spiWrite (p : Part) (req : Requester) (f : Part → Part) : Part :=
  let q := p.ifPermitted req .spi 0x108 f
  if p.md.mode.core ∧ p.ffy.chipRst = false ∧ p.spi.isNone = true ∧ p.denied req .spi 0x108 true = some 8 then q.spiRefuse 4 else q

/-- A write of SPI.CMD with GO. Colony reads the whole flash, and writes or erases nothing below 0x0100_0000 (R383)
(log entry 48, DEDUCED) (log entry 6, PRESUMED). While the page's soft reset is on its way the operation is refused (R478), with a RESULT that the
manual does not name: a free value (log entry 3, DESIGN CHOICE). -/
def Part.spiGo (p : Part) (req : Requester) (op len : Nat) : Part :=
  if p.spi.isSome then p
  else if p.srstBusy .spi then
    let x := p.free32
    (x.1.setF .spi SPI.STAT.RESULT x.2.toNat).count .spi 4 1
  else
    let p1 := (p.setF .spi SPI.CMD.OP op).setF .spi SPI.CMD.LEN len
    let a := p.getF .spi SPI.ADDR.ADDR
    let owner := if p.bit .spi SPI.OWNER.COLONY then Requester.colony else .chitin
    let n := spiSize op len
    if req ≠ owner then p1.spiRefuse 4
    else if (op < 2 ∧ (len = 0 ∨ 256 < len)) ∨ (op = 1 ∧ 256 < a % 256 + len) ∨ (2 ≤ op ∧ a % n ≠ 0) then p1.spiRefuse 2
    else if req = .colony ∧ op ≠ 0 ∧ a < 0x1000000 then p1.spiRefuse 1
    else ({ p1 with spi := some (SpiOp.mk req op a len) }).setF .spi SPI.STAT.BUSY 1

/-- The flash with the bytes [lo, lo + n) replaced by `f`; erased bytes are not listed
(log entry 17, DESIGN CHOICE) (log entry 6, PRESUMED). -/
def flashFill (m : Sparse Byte) (lo n : Nat) (f : Nat → Byte) : Sparse Byte :=
  m.filter (fun e => decide (e.1 < lo)) ++ ((List.range n).map (fun k => (lo + k, f (lo + k)))).filter (fun e => e.2 != 0xFF)
    ++ m.filter (fun e => decide (lo + n ≤ e.1))

/-- The operation in progress completes. A program clears bits, an erase sets them all; what a failed one leaves is free in the bits it would have
changed (log entry 17, DESIGN CHOICE) (log entry 6, PRESUMED). -/
def Part.spiDone (p : Part) (ok : Bool) : Part :=
  match p.spi with
  | none => p
  | some x =>
    let n := spiSize x.op x.len
    let old := fun (a : Nat) => Sparse.get p.flash 0xFF a
    let buf := p.getBuf .spi 0x400 256
    let goal := fun (a : Nat) => if x.op = 1 then old a &&& buf.getD (a - x.addr) 0xFF else 0xFF
    let c := p.freeCtr
    let mix := fun (a : Nat) => old a ^^^ ((old a ^^^ goal a) &&& Config.freeByte (c + (a - x.addr)))
    let p1 := (({ p with spi := none }).setF .spi SPI.STAT.BUSY 0).setF .spi SPI.STAT.RESULT (if ok then 0 else 3)
    let p2 := if x.op = 0 then (p1.setBuf .spi 0x400 ((List.range n).map (fun k => old ((x.addr + k) % 2 ^ 26)))).count .spi 1 n
      else
        let q := { p1 with flash := flashFill p.flash x.addr n (if ok then goal else mix), freeCtr := if ok then c else c + n }
        if x.op = 1 then q.count .spi 2 n else q.count .spi 3 1
    let p3 := (p2.count .spi 0 1).irq .spi 1
    if ok then p3 else p3.err .spi 1

/-! ### Meanings -/

/-- GPIO_WRITE (R489): DIR 0, OUT 1 or EDGE 2. -/
def execGpioWrite (req : Requester) (reg : Fin 3) (w : Word) (s : State) :=
  s.via (fun p => p.ifPermitted req .gpio ([0x108, 0x10C, 0x114].getD reg.val 0x108) (fun q => q.gpioWrite reg w))

/-- GPIO_EDGE (R489): a pin changes its level. -/
def execGpioEdge (pin : Fin 16) (high : Bool) (s : State) := s.via (fun p => p.pinLevel pin high)

/-- SLOT_EN_WRITE (R491). -/
def execSlotEnWrite (req : Requester) (w : Word) (s : State) := s.via (fun p => p.ifPermitted req .i3c 0x11C (fun q => q.slotEnWrite w))

/-- SLOT_INT (R491): the pin goes low. -/
def execSlotInt (pin : Fin 16) (s : State) := s.via (fun p => if p.pinOwner pin = 2 then p.pinLevel pin false else p)

/-- I3C_COMMAND (R491): the word written to C0_CMD with GO. -/
def execI3cCommand (req : Requester) (w : Word) (s : State) := s.via (fun p => p.ifPermitted req .i3c 0x110 (fun q => q.i3cGo w))

/-- I3C_COMMAND_DONE (R491). -/
def execI3cCommandDone (result : Fin 4) (data : List Byte) (s : State) := s.via (fun p => p.i3cDone result data)

/-- IBI_RECEIVE (R491). -/
def execIbiReceive (addr : Fin 128) (mdb : Byte) (s : State) := s.via (fun p => p.ibiIn addr mdb.toNat)

/-- MCTP_RECEIVE (R490). -/
def execMctpReceive (bus : Fin 2) (src : Byte) (bytes : List Byte) (eid : Option Byte) (s : State) :=
  s.via (fun p => p.mctpIn bus src.toNat bytes (eid.map BitVec.toNat))

/-- MRX_POP (R490). -/
def execMrxPop (req : Requester) (s : State) := s.via (fun p => p.ifPermitted req .i3c 0x120 (fun q => q.setF .i3c I3C.MRX_STAT.AVAIL 0))

/-- MTX_GO (R490). -/
def execMtxGo (req : Requester) (w : Word) (s : State) := s.via (fun p => p.ifPermitted req .i3c 0x124 (fun q => q.mtxGo w))

/-- MTX_DONE (R490). -/
def execMtxDone (s : State) := s.via Part.mtxDone

/-- SPI_READ (R493). -/
def execSpiRead (req : Requester) (len : Fin 512) (s : State) := s.via (fun p => p.spiWrite req (fun q => q.spiGo req 0 len))

/-- SPI_PROGRAM (R493). -/
def execSpiProgram (req : Requester) (len : Fin 512) (s : State) := s.via (fun p => p.spiWrite req (fun q => q.spiGo req 1 len))

/-- ERASE_4K (R493). -/
def execErase4k (req : Requester) (s : State) := s.via (fun p => p.spiWrite req (fun q => q.spiGo req 2 0))

/-- ERASE_64K (R493). -/
def execErase64k (req : Requester) (s : State) := s.via (fun p => p.spiWrite req (fun q => q.spiGo req 3 0))

/-- SPI_DONE (R493). -/
def execSpiDone (ok : Bool) (s : State) := s.via (fun p => p.spiDone ok)

end Sys2Proof.Machine
end

