-- ==== Sys2Proof/Machine/Pins.lean ====
section
/-! DEFINITION. Firefly's pins as it qualifies them (R22, R23, R26, R111, R367, R424, R425, R431, R446, R447, R451). -/

namespace Sys2Proof.Machine

/-- A PERST_N is qualified asserted: ignored when it is not assigned; under the recorded role TRANSPARENT it counts for its deassertion, else it
resets its domain. -/
def Part.perstFall (p : Part) (i : Nat) : Part :=
  let f := p.ffy
  let p1 := { p with ffy := { f with perst := f.perst ||| 2 ^ i, high := f.high - (if nbit f.high i then 2 ^ i else 0) } }
  if !nbit (p.getF .ffy FFY.PERST_ARM.ARM) i ∨ !p.md.mode.core then p1
  else
    let p2 := { p1 with ffy := { p1.ffy with seen := p1.ffy.seen ||| 2 ^ i } }
    if p.md.role = some .transparent ∨ !p.bit .glb (GLB.PERST_MAP.EN.ix i) then p2
    else p2.domainReset (p.getF .glb (GLB.PERST_MAP.DOMAIN.ix i))

/-- PERST_N `i` is assigned to the domain that TRANSPARENT serves, local domain 0 (R26, R116; log entry 44). -/
def Part.perstServed (p : Part) (i : Nat) : Bool :=
  p.bit .glb (GLB.PERST_MAP.EN.ix i) && p.getF .glb (GLB.PERST_MAP.DOMAIN.ix i) == 0

/-- A PERST_N is qualified deasserted: a wake in SENTINEL and STANDBY and during STANDBY entry, which it abandons (R427); a warm device reset under
the role TRANSPARENT once its assertion was qualified, if it is assigned to the domain served (R26); else the end of its domain's reset (log
entry 50, DEDUCED). -/
def Part.perstRise (p : Part) (i : Nat) : Part :=
  let f := p.ffy
  let was := nbit f.seen i
  let p1 := { p with ffy := { f with perst := f.perst - (if nbit f.perst i then 2 ^ i else 0), high := f.high ||| 2 ^ i,
                                     seen := f.seen - (if was then 2 ^ i else 0) } }
  if !nbit (p.getF .ffy FFY.PERST_ARM.ARM) i then p1
  else if p.md.mode = .sentinel ∨ p.md.mode = .standby then p1.wakeEvent 1 i
  else
    let p2 := if p.entering then p1.wakeEvent 1 i else p1
    if p.md.role = some .transparent then (if was ∧ p.perstServed i = true then p2.trigger (.warm 1) else p2)
    else if p.bit .glb (GLB.PERST_MAP.EN.ix i) then p2.domainResetEnd (p.getF .glb (GLB.PERST_MAP.DOMAIN.ix i)) else p2

/-- CHIP_RST_N is qualified asserted: with the core running a warm device reset, the part held in BOOT (R446) (log entry 50, DEDUCED). -/
def Part.chipRstFall (p : Part) : Part :=
  let p1 := { p with ffy := { p.ffy with chipRst := true } }
  if p.md.mode.core then p1.trigger (.warm 3) else p1

/-- CHIP_RST_N is qualified deasserted after a qualified assertion: MAINT_STRAP is sampled, the hold ends; a wake in SENTINEL, BOOT from STANDBY
(R22). -/
def Part.chipRstRise (p : Part) (strap : Bool) : Part :=
  if !p.ffy.chipRst then p
  else
    let p1 := { p with ffy := { p.ffy with chipRst := false, strap := strap } }
    match p.md.mode with
    | .sentinel => p1.wakeEvent 4 0
    | .standby => ((p1.count .ffy 0 1).wakeLast 4 0).trigger (.warm 3)
    | _ => p1

/-- POR_N is qualified deasserted: SENTINEL, where a released PERST_N[0] or CHIP_RST_N counts as released now (R431)
(log entry 50, DEDUCED). -/
def Part.porRise (p : Part) (strap : Bool) (perstHigh : Nat) (chipHigh : Bool) : Part :=
  if p.md.mode ≠ .off then p
  else
    let p1 := { p with ffy := { p.ffy with strap := strap, high := perstHigh, perst := 65535 - perstHigh, chipRst := !chipHigh } }
    let p2 := p1.enter .sentinel 0
    if nbit (perstHigh &&& p2.getF .ffy FFY.PERST_ARM.ARM) 0 ∨ chipHigh = true then p2.wakeEvent 6 0 else p2

/-- An electrical-idle exit of a port: of an enabled one, or of one that was when the part left its last role mode (R425)
(log entry 50, DEDUCED). While the core runs, a port in Detect that hears a partner goes on to Polling, and one in L1.2 follows it into Recovery
(R445, R518, R519) (log entry 90, DEDUCED). -/
def Part.idleExit (p : Part) (t : Nat) : Part :=
  let on := if p.md.mode.core then p.present t else p.ffy.watch.contains t
  let p := if p.md.mode.core && on then p.idleFollow t else p
  if p.bit .ffy FFY.WAKE_EN.IDLE_EXIT ∧ on = true ∧ p.md.mode ≠ .off then p.wakeEvent 2 (16 * (t / 8) + 2 * (t % 8)) else p

/-! ### Meanings -/

/-- PERST_N_ASSERT (R424). -/
def execPerstNAssert (i : Fin 16) (s : State) := s.via (fun p => if p.md.mode = .off then p else p.perstFall i)

/-- PERST_N_DEASSERT (R26). -/
def execPerstNDeassert (i : Fin 16) (s : State) := s.via (fun p => if p.md.mode = .off then p else p.perstRise i)

/-- CHIP_RST_N_ASSERT (R446). -/
def execChipRstNAssert (s : State) := s.via (fun p => if p.md.mode = .off then p else p.chipRstFall)

/-- CHIP_RST_N_DEASSERT (R446): `strap` is MAINT_STRAP as sampled. -/
def execChipRstNDeassert (strap : Bool) (s : State) := s.via (fun p => if p.md.mode = .off then p else p.chipRstRise strap)

/-- POR_N_ASSERT (R447). -/
def execPorNAssert (s : State) : Host.Outcome State Fault Refusal := .next { s with part := s.part.powerOff, trust := Trust.reset }

/-- POR_N_DEASSERT (R431): the strap and the levels of the reset pins as sampled. -/
def execPorNDeassert (strap : Bool) (perst : BitVec 16) (chip : Bool) (s : State) := s.via (fun p => p.porRise strap perst.toNat chip)

/-- ELECTRICAL_IDLE_EXIT (R424). -/
def execElectricalIdleExit (t : Fin 128) (s : State) := s.via (fun p => p.idleExit t)

/-- GPIO_WAKE (R424): a WAKE-owned pin has been low for 100 µs. -/
def execGpioWake (pin : Fin 16) (s : State) :=
  s.via (fun p => if p.pinOwner pin = 1 ∧ p.bit .ffy FFY.WAKE_EN.GPIO ∧ p.md.mode ≠ .off then p.wakeEvent 5 pin else p)

/-- TIME_PPS_PULSE (R367): every pin that TIME_PPS owns pulses (log entry 46, DEDUCED). -/
def execTimePpsPulse (s : State) :=
  s.via (fun p => if p.md.mode.core then
    ((List.range 16).filter (fun k => p.pinOwner k == 5)).foldl (fun (q : Part) k => q.emit (.gpioPulse k)) p else p)

end Sys2Proof.Machine
end

