-- ==== Sys2Proof/Machine/Dispatch.lean ====
section
/-! DEFINITION. The meaning of every command: one arm per constructor. -/

namespace Sys2Proof.Machine

/-- The effect of a command on everything but the queue. -/
def exec (i : Instr) (s : State) : Host.Outcome State Fault Refusal :=
  match i with
  | .registerWrite req addr lo hi => Sys2Proof.Machine.execRegisterWrite req addr lo hi s
  | .postedWriteEffect req addr => Sys2Proof.Machine.execPostedWriteEffect req addr s
  | .clearingRead req addr wide => Sys2Proof.Machine.execClearingRead req addr wide s
  | .modeReqStandby req key => Sys2Proof.Machine.execModeReqStandby req key s
  | .modeReqSentinel req key => Sys2Proof.Machine.execModeReqSentinel req key s
  | .modeReqBoot req key => Sys2Proof.Machine.execModeReqBoot req key s
  | .modeReqFabricMember req key => Sys2Proof.Machine.execModeReqFabricMember req key s
  | .modeReqFabricRoot req key => Sys2Proof.Machine.execModeReqFabricRoot req key s
  | .transparentEntry => Sys2Proof.Machine.execTransparentEntry s
  | .partitionedEntry => Sys2Proof.Machine.execPartitionedEntry s
  | .fabricDiscovery found later => Sys2Proof.Machine.execFabricDiscovery found later s
  | .rootHeartbeat => Sys2Proof.Machine.execRootHeartbeat s
  | .heartbeatMiss => Sys2Proof.Machine.execHeartbeatMiss s
  | .handover req => Sys2Proof.Machine.execHandover req s
  | .degradedExit => Sys2Proof.Machine.execDegradedExit s
  | .stationConfigWrite req n w => Sys2Proof.Machine.execStationConfigWrite req n w s
  | .stationEnable n => Sys2Proof.Machine.execStationEnable n s
  | .stationPowerUp n ok => Sys2Proof.Machine.execStationPowerUp n ok s
  | .stationDisable n => Sys2Proof.Machine.execStationDisable n s
  | .pcieLinkUp t rate width flit reversed meas => Sys2Proof.Machine.execPcieLinkUp t rate width flit reversed meas s
  | .pcieRateChange t rate found => Sys2Proof.Machine.execPcieRateChange t rate found s
  | .backgroundAdapt n lane eCur eTry => Sys2Proof.Machine.execBackgroundAdapt n lane eCur eTry s
  | .l0pWidthReduce t width => Sys2Proof.Machine.execL0pWidthReduce t width s
  | .l0pWidthIncrease t width => Sys2Proof.Machine.execL0pWidthIncrease t width s
  | .marginGo req n w => Sys2Proof.Machine.execMarginGo req n w s
  | .marginRunEnd n errors => Sys2Proof.Machine.execMarginRunEnd n errors s
  | .forwardedClockLoss l => Sys2Proof.Machine.execForwardedClockLoss l s
  | .blockLockLoss l lane => Sys2Proof.Machine.execBlockLockLoss l lane s
  | .rxControlBlock l k b => Sys2Proof.Machine.execRxControlBlock l k b s
  | .alignGroup l => Sys2Proof.Machine.execAlignGroup l s
  | .configRequest t tlp sriov flr => Sys2Proof.Machine.execConfigRequest t tlp sriov flr s
  | .msixEnable d => Sys2Proof.Machine.execMsixEnable d s
  | .intxDisable d => Sys2Proof.Machine.execIntxDisable d s
  | .msixVectorRise d v => Sys2Proof.Machine.execMsixVectorRise d v s
  | .msixUnmask d v => Sys2Proof.Machine.execMsixUnmask d v s
  | .assertIntx t rid pin => Sys2Proof.Machine.execAssertIntx t rid pin s
  | .deassertIntx t rid pin => Sys2Proof.Machine.execDeassertIntx t rid pin s
  | .flrInitiate d => Sys2Proof.Machine.execFlrInitiate d s
  | .flrComplete d => Sys2Proof.Machine.execFlrComplete d s
  | .busMasterDisable d => Sys2Proof.Machine.execBusMasterDisable d s
  | .doorbellWrite d slot prod => Sys2Proof.Machine.execDoorbellWrite d slot prod s
  | .channelReset d slot => Sys2Proof.Machine.execChannelReset d slot s
  | .channelEnWrite d slot en => Sys2Proof.Machine.execChannelEnWrite d slot en s
  | .descriptorFetch d slot => Sys2Proof.Machine.execDescriptorFetch d slot s
  | .descriptorRun d slot => Sys2Proof.Machine.execDescriptorRun d slot s
  | .descriptorComplete d slot => Sys2Proof.Machine.execDescriptorComplete d slot s
  | .droneBindWrite req drone c w => Sys2Proof.Machine.execDroneBindWrite req drone c w s
  | .domainReset d => Sys2Proof.Machine.execDomainReset d s
  | .domainResetRelease d => Sys2Proof.Machine.execDomainResetRelease d s
  | .secondaryBusResetSet d fn => Sys2Proof.Machine.execSecondaryBusResetSet d fn s
  | .secondaryBusResetClear d fn => Sys2Proof.Machine.execSecondaryBusResetClear d fn s
  | .powerControllerOff d vb => Sys2Proof.Machine.execPowerControllerOff d vb s
  | .perstMapWrite req k w => Sys2Proof.Machine.execPerstMapWrite req k w s
  | .mbGo d => Sys2Proof.Machine.execMbGo d s
  | .mbAbort d => Sys2Proof.Machine.execMbAbort d s
  | .mbTimeout d => Sys2Proof.Machine.execMbTimeout d s
  | .nop d => Sys2Proof.Machine.execNop d s
  | .colonyResponse w => Sys2Proof.Machine.execColonyResponse w s
  | .rxParcel l hdr body crc load tagOk => Sys2Proof.Machine.execRxParcel l hdr body crc load tagOk s
  | .nullParcel l => Sys2Proof.Machine.execNullParcel l s
  | .replayTimeout l => Sys2Proof.Machine.execReplayTimeout l s
  | .creditTimeout l => Sys2Proof.Machine.execCreditTimeout l s
  | .linkBreak l cause => Sys2Proof.Machine.execLinkBreak l cause s
  | .forceBreak req l => Sys2Proof.Machine.execForceBreak req l s
  | .brokenExit l => Sys2Proof.Machine.execBrokenExit l s
  | .linkEnable req l en => Sys2Proof.Machine.execLinkEnable req l en s
  | .forwardedClockStable l => Sys2Proof.Machine.execForwardedClockStable l s
  | .lockDone l meas => Sys2Proof.Machine.execLockDone l meas s
  | .ts1Identified l chip stn link epoch => Sys2Proof.Machine.execTs1Identified l chip stn link epoch s
  | .ts2Confirmed l => Sys2Proof.Machine.execTs2Confirmed l s
  | .trainTmo l => Sys2Proof.Machine.execTrainTmo l s
  | .sleepReq l => Sys2Proof.Machine.execSleepReq l s
  | .sleepReqReceive l => Sys2Proof.Machine.execSleepReqReceive l s
  | .sleepAck l => Sys2Proof.Machine.execSleepAck l s
  | .sleepNak l => Sys2Proof.Machine.execSleepNak l s
  | .wake l => Sys2Proof.Machine.execWake l s
  | .wakeRetry l => Sys2Proof.Machine.execWakeRetry l s
  | .twinPairForm l => Sys2Proof.Machine.execTwinPairForm l s
  | .twinRestored l => Sys2Proof.Machine.execTwinRestored l s
  | .tlpReceive t tlp => Sys2Proof.Machine.execTlpReceive t tlp s
  | .tlpNullified t => Sys2Proof.Machine.execTlpNullified t s
  | .colonyRequest target tlp => Sys2Proof.Machine.execColonyRequest target tlp s
  | .trackResume k => Sys2Proof.Machine.execTrackResume k s
  | .ledgerSlotResume k => Sys2Proof.Machine.execLedgerSlotResume k s
  | .gateClear k => Sys2Proof.Machine.execGateClear k s
  | .creditAdvertise t type h d => Sys2Proof.Machine.execCreditAdvertise t type h d s
  | .backingRequest t type a need => Sys2Proof.Machine.execBackingRequest t type a need s
  | .droppableAdmit tgt cls a n tlp => Sys2Proof.Machine.execDroppableAdmit tgt cls a n tlp s
  | .matchPlane => Sys2Proof.Machine.execMatchPlane s
  | .landingAck plane result => Sys2Proof.Machine.execLandingAck plane result s
  | .agentConsume a => Sys2Proof.Machine.execAgentConsume a s
  | .ageDrop f => Sys2Proof.Machine.execAgeDrop f s
  | .stuckDeclaration f => Sys2Proof.Machine.execStuckDeclaration f s
  | .planeWatchdog p => Sys2Proof.Machine.execPlaneWatchdog p s
  | .planeLost p cause xp => Sys2Proof.Machine.execPlaneLost p cause xp s
  | .bistGo req p => Sys2Proof.Machine.execBistGo req p s
  | .bistEnd p pass => Sys2Proof.Machine.execBistEnd p pass s
  | .rejoin req p => Sys2Proof.Machine.execRejoin req p s
  | .planeJoinApply => Sys2Proof.Machine.execPlaneJoinApply s
  | .retire req p => Sys2Proof.Machine.execRetire req p s
  | .poolSizeWrite req addr w => Sys2Proof.Machine.execPoolSizeWrite req addr w s
  | .unitRequest req w => Sys2Proof.Machine.execUnitRequest req w s
  | .auditRound => Sys2Proof.Machine.execAuditRound s
  | .snap req => Sys2Proof.Machine.execSnap req s
  | .schedulerChoose xp sub fc => Sys2Proof.Machine.execSchedulerChoose xp sub fc s
  | .shaperRefill => Sys2Proof.Machine.execShaperRefill s
  | .tblRead req => Sys2Proof.Machine.execTblRead req s
  | .tblWrite req => Sys2Proof.Machine.execTblWrite req s
  | .tblInvalidate req => Sys2Proof.Machine.execTblInvalidate req s
  | .tblOpReserved req => Sys2Proof.Machine.execTblOpReserved req s
  | .portCtlWrite req t w => Sys2Proof.Machine.execPortCtlWrite req t w s
  | .completionReceive t tlp => Sys2Proof.Machine.execCompletionReceive t tlp s
  | .ortDeadline k => Sys2Proof.Machine.execOrtDeadline k s
  | .quarantineExpire k => Sys2Proof.Machine.execQuarantineExpire k s
  | .writeCommit f => Sys2Proof.Machine.execWriteCommit f s
  | .commitAckReceive h failed cause => Sys2Proof.Machine.execCommitAckReceive h failed cause s
  | .ledgerDeadline k => Sys2Proof.Machine.execLedgerDeadline k s
  | .fenceRead t tlp => Sys2Proof.Machine.execFenceRead t tlp s
  | .fenceComplete k => Sys2Proof.Machine.execFenceComplete k s
  | .journalLatch d w => Sys2Proof.Machine.execJournalLatch d w s
  | .cocoonUnitReceive l => Sys2Proof.Machine.execCocoonUnitReceive l s
  | .rsqCell xp => Sys2Proof.Machine.execRsqCell xp s
  | .holeTimeout src dst group cls => Sys2Proof.Machine.execHoleTimeout src dst group cls s
  | .holdCap xp => Sys2Proof.Machine.execHoldCap xp s
  | .probeOpen h => Sys2Proof.Machine.execProbeOpen h s
  | .probeVoid h n => Sys2Proof.Machine.execProbeVoid h n s
  | .probeResume l vc h ix => Sys2Proof.Machine.execProbeResume l vc h ix s
  | .sendFlowRetire src dst group cls => Sys2Proof.Machine.execSendFlowRetire src dst group cls s
  | .rxFlowStale src dst group cls => Sys2Proof.Machine.execRxFlowStale src dst group cls s
  | .rxFlowRetire src dst group cls => Sys2Proof.Machine.execRxFlowRetire src dst group cls s
  | .synthCplReceive h rid tag status => Sys2Proof.Machine.execSynthCplReceive h rid tag status s
  | .combineResolve k => Sys2Proof.Machine.execCombineResolve k s
  | .combineTmo k => Sys2Proof.Machine.execCombineTmo k s
  | .timeReq => Sys2Proof.Machine.execTimeReq s
  | .timeReqReceive l exch t1 => Sys2Proof.Machine.execTimeReqReceive l exch t1 s
  | .timeRespReceive l exch t1 t2 t3 => Sys2Proof.Machine.execTimeRespReceive l exch t1 t2 t3 s
  | .timeHoldover => Sys2Proof.Machine.execTimeHoldover s
  | .timeUnitSend => Sys2Proof.Machine.execTimeUnitSend s
  | .timeUnitReceive now epoch chip => Sys2Proof.Machine.execTimeUnitReceive now epoch chip s
  | .pcieLinkDown t => Sys2Proof.Machine.execPcieLinkDown t s
  | .portContainment t cause => Sys2Proof.Machine.execPortContainment t cause s
  | .containmentForce req t => Sys2Proof.Machine.execContainmentForce req t s
  | .expectDown req t => Sys2Proof.Machine.execExpectDown req t s
  | .containmentRelease req t => Sys2Proof.Machine.execContainmentRelease req t s
  | .containmentAutoRelease t => Sys2Proof.Machine.execContainmentAutoRelease t s
  | .dpcTrigger d vb sw => Sys2Proof.Machine.execDpcTrigger d vb sw s
  | .dpcClear d vb => Sys2Proof.Machine.execDpcClear d vb s
  | .stationContainment n => Sys2Proof.Machine.execStationContainment n s
  | .patrolScrub mem addr err what ix => Sys2Proof.Machine.execPatrolScrub mem addr err what ix s
  | .rowRepair mem arr addr => Sys2Proof.Machine.execRowRepair mem arr addr s
  | .recoverDomainReset req key d => Sys2Proof.Machine.execRecoverDomainReset req key d s
  | .recoverWarmReset req key => Sys2Proof.Machine.execRecoverWarmReset req key s
  | .recoverPowerCycle req key => Sys2Proof.Machine.execRecoverPowerCycle req key s
  | .errInj req addr w => Sys2Proof.Machine.execErrInj req addr w s
  | .softReset req addr => Sys2Proof.Machine.execSoftReset req addr s
  | .lock req addr => Sys2Proof.Machine.execLock req addr s
  | .irqSet req addr w => Sys2Proof.Machine.execIrqSet req addr w s
  | .counterClear req addr => Sys2Proof.Machine.execCounterClear req addr s
  | .histogramLatch req addr w => Sys2Proof.Machine.execHistogramLatch req addr w s
  | .captureEnable req en => Sys2Proof.Machine.execCaptureEnable req en s
  | .antTrigger pin => Sys2Proof.Machine.execAntTrigger pin s
  | .recordLatch req w => Sys2Proof.Machine.execRecordLatch req w s
  | .chitinBoot sigA sigB sigs => Sys2Proof.Machine.execChitinBoot sigA sigB sigs s
  | .colonyLoad sigA sigB => Sys2Proof.Machine.execColonyLoad sigA sigB s
  | .colonyUp => Sys2Proof.Machine.execColonyUp s
  | .kick => Sys2Proof.Machine.execKick s
  | .panic => Sys2Proof.Machine.execPanic s
  | .watchdogExpire => Sys2Proof.Machine.execWatchdogExpire s
  | .colonyCrash => Sys2Proof.Machine.execColonyCrash s
  | .colonyRestartFail => Sys2Proof.Machine.execColonyRestartFail s
  | .colonyRestartRetry => Sys2Proof.Machine.execColonyRestartRetry s
  | .enterMaintenance => Sys2Proof.Machine.execEnterMaintenance s
  | .recover => Sys2Proof.Machine.execRecover s
  | .writeGen words sigOk prog => Sys2Proof.Machine.execWriteGen words sigOk prog s
  | .revokeGen g prog => Sys2Proof.Machine.execRevokeGen g prog s
  | .setRoot r words sigOk prog => Sys2Proof.Machine.execSetRoot r words sigOk prog s
  | .blowSeal prog => Sys2Proof.Machine.execBlowSeal prog s
  | .advanceSvn c v prog => Sys2Proof.Machine.execAdvanceSvn c v prog s
  | .forceRelease r => Sys2Proof.Machine.execForceRelease r s
  | .flashWrite addr data => Sys2Proof.Machine.execFlashWrite addr data s
  | .testEnter stns test => Sys2Proof.Machine.execTestEnter stns test s
  | .testExit finished => Sys2Proof.Machine.execTestExit finished s
  | .exit => Sys2Proof.Machine.execExit s
  | .status => Sys2Proof.Machine.execStatus s
  | .presencePress => Sys2Proof.Machine.execPresencePress s
  | .stageExpire => Sys2Proof.Machine.execStageExpire s
  | .getMeasurements who k => Sys2Proof.Machine.execGetMeasurements who k s
  | .keyExchange who => Sys2Proof.Machine.execKeyExchange who s
  | .grantCreate d kind perm log2 ats grantee target mcg base issued farStatus farIndex => Sys2Proof.Machine.execGrantCreate d kind perm log2 ats grantee target mcg base issued farStatus farIndex s
  | .grantRevoke d issuer serial farStatus => Sys2Proof.Machine.execGrantRevoke d issuer serial farStatus s
  | .resourceRelease d r => Sys2Proof.Machine.execResourceRelease d r s
  | .grantList d first => Sys2Proof.Machine.execGrantList d first s
  | .linkKeying l ok => Sys2Proof.Machine.execLinkKeying l ok s
  | .unkeyedTimeout l => Sys2Proof.Machine.execUnkeyedTimeout l s
  | .keySwitch l => Sys2Proof.Machine.execKeySwitch l s
  | .rekey l ahead => Sys2Proof.Machine.execRekey l ahead s
  | .grantRead k => Sys2Proof.Machine.execGrantRead k s
  | .rangeAssign d t base log2 => Sys2Proof.Machine.execRangeAssign d t base log2 s
  | .rangeRelease t base log2 => Sys2Proof.Machine.execRangeRelease t base log2 s
  | .ideStream sid t ok => Sys2Proof.Machine.execIdeStream sid t ok s
  | .ownerRead res => Sys2Proof.Machine.execOwnerRead res s
  | .poolDeclare t => Sys2Proof.Machine.execPoolDeclare t s
  | .getDomain d => Sys2Proof.Machine.execGetDomain d s
  | .getBridges d => Sys2Proof.Machine.execGetBridges d s
  | .listFree d found => Sys2Proof.Machine.execListFree d found s
  | .slotPower d => Sys2Proof.Machine.execSlotPower d s
  | .slotIndicator d => Sys2Proof.Machine.execSlotIndicator d s
  | .bind d w1 bars => Sys2Proof.Machine.execBind d w1 bars s
  | .unbind d => Sys2Proof.Machine.execUnbind d s
  | .attachPort d => Sys2Proof.Machine.execAttachPort d s
  | .detachPort d => Sys2Proof.Machine.execDetachPort d s
  | .poolAlloc d any base maxreq atom => Sys2Proof.Machine.execPoolAlloc d any base maxreq atom s
  | .poolRelease d => Sys2Proof.Machine.execPoolRelease d s
  | .droneAssign d c => Sys2Proof.Machine.execDroneAssign d c s
  | .droneRelease d => Sys2Proof.Machine.execDroneRelease d s
  | .collectorSet d => Sys2Proof.Machine.execCollectorSet d s
  | .captureFilter d => Sys2Proof.Machine.execCaptureFilter d s
  | .perstNAssert k => Sys2Proof.Machine.execPerstNAssert k s
  | .perstNDeassert k => Sys2Proof.Machine.execPerstNDeassert k s
  | .chipRstNAssert => Sys2Proof.Machine.execChipRstNAssert s
  | .chipRstNDeassert strap => Sys2Proof.Machine.execChipRstNDeassert strap s
  | .porNAssert => Sys2Proof.Machine.execPorNAssert s
  | .porNDeassert strap perst chip => Sys2Proof.Machine.execPorNDeassert strap perst chip s
  | .electricalIdleExit t => Sys2Proof.Machine.execElectricalIdleExit t s
  | .smiwavenWakePattern l => Sys2Proof.Machine.execSmiwavenWakePattern l s
  | .gpioWake pin => Sys2Proof.Machine.execGpioWake pin s
  | .wakeSequence => Sys2Proof.Machine.execWakeSequence s
  | .wakeStepTimeout => Sys2Proof.Machine.execWakeStepTimeout s
  | .standbyEntryComplete => Sys2Proof.Machine.execStandbyEntryComplete s
  | .standbyWake retained => Sys2Proof.Machine.execStandbyWake retained s
  | .idleStandbyTimer => Sys2Proof.Machine.execIdleStandbyTimer s
  | .idleSentinelTimer => Sys2Proof.Machine.execIdleSentinelTimer s
  | .thermalSample temps uv ov => Sys2Proof.Machine.execThermalSample temps uv ov s
  | .trip => Sys2Proof.Machine.execTrip s
  | .tripWakeHoldEnd stand => Sys2Proof.Machine.execTripWakeHoldEnd stand s
  | .tripClear req => Sys2Proof.Machine.execTripClear req s
  | .refclkLoss pll => Sys2Proof.Machine.execRefclkLoss pll s
  | .stationPllUnlock n => Sys2Proof.Machine.execStationPllUnlock n s
  | .avsRequest k => Sys2Proof.Machine.execAvsRequest k s
  | .avsAck k mv => Sys2Proof.Machine.execAvsAck k mv s
  | .avsAttemptFail k why => Sys2Proof.Machine.execAvsAttemptFail k why s
  | .avsSilentProbe k good => Sys2Proof.Machine.execAvsSilentProbe k good s
  | .loadStepHoldEnd => Sys2Proof.Machine.execLoadStepHoldEnd s
  | .rampLimiterUpdate want => Sys2Proof.Machine.execRampLimiterUpdate want s
  | .droopDetect mv => Sys2Proof.Machine.execDroopDetect mv s
  | .droopRecover cycles => Sys2Proof.Machine.execDroopRecover cycles s
  | .powerCycleHoldEnd => Sys2Proof.Machine.execPowerCycleHoldEnd s
  | .fireflyRestart => Sys2Proof.Machine.execFireflyRestart s
  | .smbusStatus => Sys2Proof.Machine.execSmbusStatus s
  | .temps => Sys2Proof.Machine.execTemps s
  | .clearFault data => Sys2Proof.Machine.execClearFault data s
  | .powerCycle data => Sys2Proof.Machine.execPowerCycle data s
  | .gpioWrite req reg w => Sys2Proof.Machine.execGpioWrite req reg w s
  | .gpioEdge pin high => Sys2Proof.Machine.execGpioEdge pin high s
  | .slotEnWrite req w => Sys2Proof.Machine.execSlotEnWrite req w s
  | .slotInt pin => Sys2Proof.Machine.execSlotInt pin s
  | .i3cCommand req w => Sys2Proof.Machine.execI3cCommand req w s
  | .i3cCommandDone result data => Sys2Proof.Machine.execI3cCommandDone result data s
  | .ibiReceive addr mdb => Sys2Proof.Machine.execIbiReceive addr mdb s
  | .mctpReceive bus src bytes eid => Sys2Proof.Machine.execMctpReceive bus src bytes eid s
  | .mrxPop req => Sys2Proof.Machine.execMrxPop req s
  | .mtxGo req w => Sys2Proof.Machine.execMtxGo req w s
  | .mtxDone => Sys2Proof.Machine.execMtxDone s
  | .spiRead req len => Sys2Proof.Machine.execSpiRead req len s
  | .spiProgram req len => Sys2Proof.Machine.execSpiProgram req len s
  | .erase4k req => Sys2Proof.Machine.execErase4k req s
  | .erase64k req => Sys2Proof.Machine.execErase64k req s
  | .spiDone ok => Sys2Proof.Machine.execSpiDone ok s
  | .standbyEntryAckMissing => Sys2Proof.Machine.execStandbyEntryAckMissing s
  | .pcieL1SubstateChange t goal => Sys2Proof.Machine.execPcieL1SubstateChange t goal s
  | .timePpsPulse => Sys2Proof.Machine.execTimePpsPulse s
  | .hiveWithdrawal => Sys2Proof.Machine.execHiveWithdrawal s
  | .linkIdeEstablish t => Sys2Proof.Machine.execLinkIdeEstablish t s

end Sys2Proof.Machine
end

