-- ==== Sys2Proof/Machine/Tick.lean ====
section
/-! DEFINITION. What passes when no command waits: one nanosecond, and with it fabric time; then interrupt levels that have changed
and twin reserves that can grow (log entry 4). -/

namespace Sys2Proof.Machine

/-- What the wires at the PCIe ports finish in the nanosecond: the frames still arriving are whole, the transmitted TLPs are acknowledged
(R160, R175) (log entry 92, DESIGN CHOICE). -/
def Part.wireDone (p : Part) : Part :=
  { p with awaited := [], frames := p.frames.map (fun e => (e.1, e.2.map (fun f => { f with open_ := false }))) }

/-- The core cycles from `now` on for one nanosecond: 1.5 GHz, 1.125 GHz under a shallow stretch and 0.75 GHz under a deep one (R441). -/
def coreCycles (now stretch : Nat) : Nat :=
  let n := if stretch = 0 then 12 else if stretch = 1 then 9 else 6
  (now + 1) * n / 8 - now * n / 8

/-- The stations where the last choice left a queue waiting for shaper tokens count the core cycles of the nanosecond (R237 counter 3)
(log entry 93, DESIGN CHOICE). -/
def Part.shaperWaits (p : Part) : Part :=
  let held := fun (n : Nat) => p.regs.any (fun e => e.2.getLsbD 22 && decide ((Page.sch n).base + 0x700 ≤ e.1 ∧ e.1 < (Page.sch n).base + 0x840))
  ((List.range 16).filter held).foldl (fun (q : Part) n => q.count (.sch n) 3 (coreCycles p.now p.ffy.stretch)) p

/-- A page counts the core cycles of the nanosecond in which something waits; `doms` are the fabric IDs of what does (R455). -/
def Part.countWait (p : Part) (pg : Page) (n : Nat) (doms : List Nat) : Part :=
  let d := p.getF pg HDR.CNT_CTL.DOM
  if doms.isEmpty then p else p.count pg n (coreCycles p.now p.ffy.stretch) (if doms.contains d then some d else none)

/-- Fabric IDs of the requests that have landed at a PCIe port and lack a tag or a FAR entry there (R258). -/
def Part.tagWaits (p : Part) : List Nat :=
  p.tq.flatMap (fun e =>
    let t := e.1 / 128 * 8 + e.1 / 8 % 16
    if 2048 ≤ e.1 ∨ 8 ≤ e.1 / 8 % 16 then []
    else e.2.filterMap (fun x => match p.fr x.frame with
      | some f => (match f.body.tlp with
        | some m => if p.noTag t f m then some f.domf else none
        | none => none)
      | none => none))

/-- The waits that counters measure in core cycles: at the shapers (R237), for an entry, quota or tag (R267), for a slot (R294), of a channel for
admission, an entry or a slot (R110), for a combine entry (R331) (log entry 93, DESIGN CHOICE). -/
def Part.waits (p : Part) : Part :=
  let at_ := fun (why : Nat) => (p.waiting.filter (fun w => w.why == why)).map (fun w => w.req.fid)
  let ofDrone := fun (d : Nat) =>
    (p.waiting.filter (fun w => (w.why == 1 || w.why == 2) && (match w.req.ing with
      | .drone k _ => k == d
      | _ => false))).map (fun w => w.req.fid) ++
    (p.chan.filter (fun e => e.2.waits && e.1 / 256 == d)).map (fun e => p.fabricId (p.boundAt e.1).1)
  let combine := p.live.filterMap (fun e => match e.2.dest with
    | .mc _ => if p.wantsCombine e.2 then some e.2.domf else none
    | _ => none)
  ((((p.shaperWaits.countWait .fab 3 combine).countWait .tbl 6 (at_ 1 ++ p.tagWaits)).countWait .ord 6 (at_ 2)).countWait (.drn 0) 7
    (ofDrone 0)).countWait (.drn 1) 7 (ofDrone 1)

/-- One nanosecond passes. A change of an interrupt level that no command reported goes out (R93, R95), reserves carved in part grow (R197), and a
domain reset whose last step is due ends (R113), and the idle time of R427 runs. Fabric time advances by 256 steps of 1/256 ns while the core runs, and while an offset is left to
slew by up to 100 ppm of them more or fewer: one step in 40 ns (R327) (log entry 68, DEDUCED) (log entry 4, DESIGN CHOICE). -/
def tick (s : State) : State :=
  let p := s.part
  let run := match p.md.mode with
    | .off | .sentinel | .standby => false
    | _ => true
  let slewNow := run && decide (p.now % 40 = 0) && decide (p.slew ≠ 0)
  let up := decide (0 < p.slew)
  let step := if run then (if slewNow then (if up then 257 else 255) else 256) else 0
  let p1 := { p with now := p.now + 1, ftime := p.ftime + step,
                     slew := if slewNow then (if up then p.slew - 1 else p.slew + 1) else p.slew }
  { s with part := if run then p1.signals.growPairs.domainResetsDue.cplAgain.wireDone.idleWatch.waits else p1 }

end Sys2Proof.Machine
end

