-- ==== Sys2Proof/Pieces.lean ====
section
/-! DEFINITION. The pieces of the part's state, and for each command the pieces it can change: the terms the frame statements are in. A
command of no list below is one whose effect is a reset of the part or of its core, or leads to one. -/

namespace Sys2Proof

open Sys2Proof.Machine

/-- The pieces of the part's state, one for each field of `Part` but the counter of free values. -/
inductive Piece where
  | regs | now | ftime | slew | out | md | posted | shadow | cell | frames | nextFrame | voqs | flights
  | residues | arbA | arbG | arbV | cellTime | awaited | credAt | joining | starved | occ | refused
  | backing | stuck | audit | tq | deficit | stale | tok | shpAct | polTok | polAct | debt | withheld
  | tables | ort | ledger | fail | jrnl | gates | nextGate | waiting | cplWait | fences | link | txFlow
  | rxFlow | rsqIn | combine | port | cfg | sharers | intx | msix | flr | cfFlr | rstDue | doe | stnRest
  | chan | hist | domHist | ant | ffy | boot | time | ibi | spi | flash | spare | ueRows | regUe | jext
  | side | dfe | farPreset | laneRx | scr | lines
  deriving DecidableEq, Repr

/-- Two parts agree on a piece. -/
def Piece.same (p q : Part) : Piece → Prop
  | .regs => q.regs = p.regs
  | .now => q.now = p.now
  | .ftime => q.ftime = p.ftime
  | .slew => q.slew = p.slew
  | .out => q.out = p.out
  | .md => q.md = p.md
  | .posted => q.posted = p.posted
  | .shadow => q.shadow = p.shadow
  | .cell => q.cell = p.cell
  | .frames => q.frames = p.frames
  | .nextFrame => q.nextFrame = p.nextFrame
  | .voqs => q.voqs = p.voqs
  | .flights => q.flights = p.flights
  | .residues => q.residues = p.residues
  | .arbA => q.arbA = p.arbA
  | .arbG => q.arbG = p.arbG
  | .arbV => q.arbV = p.arbV
  | .cellTime => q.cellTime = p.cellTime
  | .awaited => q.awaited = p.awaited
  | .credAt => q.credAt = p.credAt
  | .joining => q.joining = p.joining
  | .starved => q.starved = p.starved
  | .occ => q.occ = p.occ
  | .refused => q.refused = p.refused
  | .backing => q.backing = p.backing
  | .stuck => q.stuck = p.stuck
  | .audit => q.audit = p.audit
  | .tq => q.tq = p.tq
  | .deficit => q.deficit = p.deficit
  | .stale => q.stale = p.stale
  | .tok => q.tok = p.tok
  | .shpAct => q.shpAct = p.shpAct
  | .polTok => q.polTok = p.polTok
  | .polAct => q.polAct = p.polAct
  | .debt => q.debt = p.debt
  | .withheld => q.withheld = p.withheld
  | .tables => q.tables = p.tables
  | .ort => q.ort = p.ort
  | .ledger => q.ledger = p.ledger
  | .fail => q.fail = p.fail
  | .jrnl => q.jrnl = p.jrnl
  | .gates => q.gates = p.gates
  | .nextGate => q.nextGate = p.nextGate
  | .waiting => q.waiting = p.waiting
  | .cplWait => q.cplWait = p.cplWait
  | .fences => q.fences = p.fences
  | .link => q.link = p.link
  | .txFlow => q.txFlow = p.txFlow
  | .rxFlow => q.rxFlow = p.rxFlow
  | .rsqIn => q.rsqIn = p.rsqIn
  | .combine => q.combine = p.combine
  | .port => q.port = p.port
  | .cfg => q.cfg = p.cfg
  | .sharers => q.sharers = p.sharers
  | .intx => q.intx = p.intx
  | .msix => q.msix = p.msix
  | .flr => q.flr = p.flr
  | .cfFlr => q.cfFlr = p.cfFlr
  | .rstDue => q.rstDue = p.rstDue
  | .doe => q.doe = p.doe
  | .stnRest => q.stnRest = p.stnRest
  | .chan => q.chan = p.chan
  | .hist => q.hist = p.hist
  | .domHist => q.domHist = p.domHist
  | .ant => q.ant = p.ant
  | .ffy => q.ffy = p.ffy
  | .boot => q.boot = p.boot
  | .time => q.time = p.time
  | .ibi => q.ibi = p.ibi
  | .spi => q.spi = p.spi
  | .flash => q.flash = p.flash
  | .spare => q.spare = p.spare
  | .ueRows => q.ueRows = p.ueRows
  | .regUe => q.regUe = p.regUe
  | .jext => q.jext = p.jext
  | .side => q.side = p.side
  | .dfe => q.dfe = p.dfe
  | .farPreset => q.farPreset = p.farPreset
  | .laneRx => q.laneRx = p.laneRx
  | .scr => q.scr = p.scr
  | .lines => q.lines = p.lines

/-- A register write reaches the word of MODE_REQ, whose GO may ask for a mode (R28). -/
def asksMode (req : Requester) (addr : Nat) (hi : Option Word) : Bool :=
  decide (req.locate addr = some (.glb, 0x104)) || (hi.isSome && decide (req.locate (addr + 4) = some (.glb, 0x104)))

/-- What the commands about register pages, pins, Firefly and firmware can change. -/
def registerPieces : Instr → Option (List Piece)
  | .registerWrite req addr _ hi =>
    if asksMode req addr hi then none else some [.regs, .md, .posted, .shadow, .tok]
  | .postedWriteEffect .. =>
    some [.regs, .md, .posted, .tok, .link, .ibi]
  | .clearingRead .. =>
    some [.regs, .out, .shadow, .ibi]
  | .degradedExit =>
    some [.regs, .md, .ffy]
  | .perstMapWrite .. | .mbGo .. | .mbAbort .. | .poolSizeWrite .. | .snap .. | .journalLatch .. | .errInj .. | .lock .. | .irqSet ..
    | .counterClear .. | .recordLatch .. =>
    some [.regs, .shadow]
  | .colonyResponse .. | .expectDown .. | .tripClear .. | .gpioWrite .. | .softReset .. =>
    some [.regs, .posted, .shadow]
  | .slotEnWrite .. | .mrxPop .. =>
    some [.regs, .posted, .shadow, .ibi]
  | .stationEnable .. | .thermalSample .. | .avsAck .. | .loadStepHoldEnd | .rampLimiterUpdate .. | .droopDetect .. | .droopRecover .. =>
    some [.regs, .ffy]
  | .pcieRateChange .. =>
    some [.regs, .out, .side, .dfe, .farPreset]
  | .marginRunEnd .. | .mbTimeout .. | .nop .. | .timeHoldover | .timeUnitReceive .. | .grantRead .. | .rangeAssign .. | .ideStream ..
    | .ownerRead .. | .poolDeclare .. | .getDomain .. | .getBridges .. | .listFree .. | .captureFilter .. | .fireflyRestart
    | .gpioEdge .. | .slotInt .. | .i3cCommandDone .. | .mctpReceive .. | .mtxDone =>
    some [.regs]
  | .clearFault .. | .msixUnmask .. | .slotPower .. | .slotIndicator .. =>
    some [.regs, .out]
  | .backgroundAdapt .. =>
    some [.regs, .side, .dfe]
  | .marginGo .. =>
    some [.regs, .md, .posted, .shadow]
  | .alignGroup .. =>
    some [.out, .link, .scr, .lines]
  | .status | .smbusStatus | .temps | .timePpsPulse =>
    some [.out]
  | .getMeasurements .. | .keyExchange .. | .grantList .. =>
    some [.out, .doe]
  | .bistGo .. =>
    some [.regs, .shadow, .ffy]
  | .rejoin .. =>
    some [.regs, .shadow, .joining]
  | .planeJoinApply =>
    some [.regs, .joining]
  | .unitRequest .. =>
    some [.regs, .md, .posted, .shadow, .ffy, .boot]
  | .histogramLatch .. =>
    some [.regs, .shadow, .hist, .domHist]
  | .captureEnable .. =>
    some [.regs, .shadow, .stuck, .ant]
  | .antTrigger .. =>
    some [.regs, .out, .ant]
  | .chitinBoot .. =>
    some [.regs, .md, .ffy, .boot, .jext]
  | .colonyLoad .. =>
    some [.regs, .stuck, .ffy, .boot]
  | .colonyUp | .kick | .panic | .watchdogExpire | .colonyCrash =>
    some [.regs, .md, .boot]
  | .colonyRestartRetry =>
    some [.boot]
  | .enterMaintenance | .recover | .writeGen .. | .revokeGen .. | .setRoot .. | .blowSeal .. | .advanceSvn .. | .forceRelease .. =>
    some [.regs, .out, .boot]
  | .flashWrite .. =>
    some [.regs, .out, .boot, .flash]
  | .testEnter .. | .testExit .. =>
    some [.regs, .out, .md, .ffy, .boot]
  | .stageExpire =>
    some [.regs, .boot]
  | .grantCreate .. =>
    some [.out, .doe, .ant]
  | .collectorSet .. =>
    some [.regs, .stuck, .ant]
  | .avsRequest .. | .avsSilentProbe .. =>
    some [.regs, .out, .ffy]
  | .i3cCommand .. | .mtxGo .. =>
    some [.regs, .out, .posted, .shadow, .ibi]
  | .ibiReceive .. =>
    some [.regs, .ibi]
  | .spiRead .. | .spiProgram .. | .erase4k .. | .erase64k .. =>
    some [.regs, .posted, .shadow, .spi]
  | _ => none

/-- What the commands about links and ports, flows and fabric time can change. -/
def linkPieces : Instr → Option (List Piece)
  | .stationPowerUp .. =>
    some [.regs, .out, .link, .port, .ffy, .side, .dfe, .farPreset, .laneRx, .scr, .lines]
  | .pcieLinkUp .. =>
    some [.regs, .out, .port, .side, .dfe, .farPreset]
  | .l0pWidthReduce .. | .containmentAutoRelease .. =>
    some [.regs, .port]
  | .domainResetRelease .. =>
    some [.regs, .port, .rstDue]
  | .l0pWidthIncrease .. =>
    some [.regs, .port, .ffy]
  | .nullParcel .. | .ts1Identified .. =>
    some [.regs, .out, .link, .scr, .lines]
  | .sleepReq .. =>
    some [.out, .link, .scr, .lines]
  | .forwardedClockStable .. | .ts2Confirmed .. | .twinPairForm .. | .probeResume .. =>
    some [.regs, .link]
  | .lockDone .. =>
    some [.regs, .out, .link, .side, .dfe, .farPreset]
  | .trainTmo .. | .wake .. =>
    some [.regs, .out, .link, .side, .dfe, .farPreset, .laneRx, .scr, .lines]
  | .wakeRetry .. =>
    some [.regs, .out, .link]
  | .sleepNak .. | .twinRestored .. | .timeReqReceive .. | .keySwitch .. | .rekey .. =>
    some [.link]
  | .sendFlowRetire .. =>
    some [.txFlow]
  | .rxFlowStale .. | .rxFlowRetire .. =>
    some [.rxFlow]
  | .timeReq =>
    some [.link, .time]
  | .timeRespReceive .. =>
    some [.regs, .ftime, .slew, .time]
  | .containmentRelease .. =>
    some [.regs, .posted, .shadow, .port]
  | .pcieL1SubstateChange .. =>
    some [.port, .ffy]
  | .linkIdeEstablish .. =>
    some [.port]
  | _ => none

/-- What the commands about requests, frames, cells and outcomes in the part can change. -/
def trafficPieces : Instr → Option (List Piece)
  | .rootHeartbeat | .timeUnitSend =>
    some [.regs, .cell, .frames, .nextFrame, .voqs, .occ, .audit, .txFlow]
  | .brokenExit .. =>
    some [.regs, .out, .cell, .occ, .audit, .link, .side, .dfe, .farPreset, .laneRx, .scr, .lines]
  | .sleepReqReceive .. =>
    some [.regs, .out, .cell, .frames, .voqs, .residues, .occ, .audit, .tq, .link, .combine, .scr, .lines]
  | .sleepAck .. =>
    some [.regs, .cell, .frames, .voqs, .residues, .occ, .audit, .tq, .link, .combine]
  | .tlpReceive .. =>
    some [.regs, .out, .cell, .frames, .nextFrame, .voqs, .residues, .awaited, .occ, .backing, .audit, .tq, .deficit, .stale, .tok,
      .polTok, .debt, .tables, .ort, .ledger, .fail, .jrnl, .gates, .nextGate, .waiting, .cplWait, .fences, .link, .txFlow, .combine,
      .port, .cfg, .sharers, .intx, .msix, .flr, .cfFlr, .doe, .chan, .hist, .domHist, .ant]
  | .tlpNullified .. =>
    some [.regs, .cell, .frames, .nextFrame, .voqs, .residues, .occ, .backing, .audit, .tq, .ort, .ledger, .gates, .fences, .link,
      .combine]
  | .colonyRequest .. =>
    some [.regs, .out, .cell, .frames, .nextFrame, .voqs, .occ, .backing, .audit, .ort, .ledger, .fail, .jrnl, .gates, .nextGate,
      .waiting, .fences, .link, .txFlow, .combine, .cfg, .sharers, .chan]
  | .trackResume .. | .ledgerSlotResume .. | .gateClear .. =>
    some [.regs, .out, .cell, .frames, .nextFrame, .voqs, .residues, .occ, .backing, .audit, .tq, .polTok, .debt, .ort, .ledger, .fail,
      .jrnl, .gates, .nextGate, .waiting, .cplWait, .fences, .link, .txFlow, .combine, .cfg, .sharers, .chan, .hist, .domHist, .ant]
  | .creditAdvertise .. =>
    some [.regs, .out, .credAt, .backing, .polTok, .withheld]
  | .backingRequest .. =>
    some [.regs, .cell, .frames, .voqs, .residues, .occ, .refused, .backing, .audit, .tq, .link]
  | .droppableAdmit .. =>
    some [.regs, .cell, .frames, .nextFrame, .voqs, .residues, .occ, .audit, .tq, .polTok, .link, .txFlow]
  | .matchPlane =>
    some [.regs, .cell, .frames, .nextFrame, .voqs, .flights, .residues, .arbA, .arbG, .arbV, .cellTime, .joining, .starved, .occ,
      .audit, .txFlow, .combine]
  | .agentConsume .. =>
    some [.regs, .out, .md, .posted, .shadow, .cell, .frames, .nextFrame, .voqs, .occ, .backing, .stuck, .audit, .tq, .ort, .ledger,
      .fail, .jrnl, .gates, .waiting, .fences, .link, .txFlow, .combine, .cfg, .chan, .hist, .domHist, .ibi, .regUe]
  | .ageDrop .. =>
    some [.regs, .cell, .frames, .nextFrame, .voqs, .residues, .occ, .audit, .tq, .link]
  | .schedulerChoose .. =>
    some [.regs, .out, .cell, .frames, .nextFrame, .voqs, .flights, .residues, .awaited, .occ, .backing, .audit, .tq, .deficit, .stale,
      .tok, .polTok, .ort, .ledger, .fail, .jrnl, .gates, .fences, .link, .txFlow, .combine, .cfg, .chan, .hist, .ant, .scr, .lines]
  | .shaperRefill =>
    some [.tok, .shpAct, .polTok, .polAct, .debt]
  | .completionReceive .. =>
    some [.regs, .out, .cell, .frames, .nextFrame, .voqs, .residues, .occ, .backing, .audit, .tq, .polTok, .debt, .ort, .gates,
      .cplWait, .link, .txFlow, .hist, .domHist, .ant]
  | .ortDeadline .. | .synthCplReceive .. =>
    some [.regs, .out, .cell, .frames, .nextFrame, .voqs, .occ, .backing, .audit, .ort, .gates, .link, .txFlow, .cfg, .chan]
  | .quarantineExpire .. =>
    some [.backing, .ort, .gates]
  | .writeCommit .. | .combineResolve .. | .combineTmo .. =>
    some [.regs, .out, .cell, .frames, .nextFrame, .voqs, .occ, .backing, .audit, .ort, .ledger, .fail, .jrnl, .gates, .fences, .link,
      .txFlow, .combine, .cfg, .chan]
  | .commitAckReceive .. =>
    some [.regs, .out, .ledger, .fail, .jrnl, .gates, .fences, .combine, .cfg, .chan]
  | .ledgerDeadline .. =>
    some [.regs, .out, .ledger, .fail, .jrnl, .gates, .fences, .cfg, .chan]
  | .fenceRead .. =>
    some [.regs, .out, .cell, .frames, .nextFrame, .voqs, .residues, .occ, .backing, .audit, .tq, .polTok, .debt, .ort, .ledger, .fail,
      .jrnl, .gates, .nextGate, .waiting, .fences, .link, .txFlow, .combine, .cfg, .sharers, .chan, .ant]
  | .fenceComplete .. =>
    some [.regs, .shadow, .cell, .frames, .nextFrame, .voqs, .occ, .audit, .fail, .gates, .fences, .link]
  | .cocoonUnitReceive .. | .rsqCell .. =>
    some [.regs, .out, .cell, .frames, .nextFrame, .voqs, .occ, .backing, .audit, .ort, .ledger, .fail, .jrnl, .gates, .fences, .link,
      .txFlow, .rxFlow, .rsqIn, .combine, .cfg, .chan, .hist, .domHist]
  | .holeTimeout .. | .holdCap .. | .probeOpen .. | .probeVoid .. =>
    some [.regs, .out, .cell, .frames, .nextFrame, .voqs, .occ, .backing, .audit, .ort, .ledger, .fail, .jrnl, .gates, .fences, .link,
      .txFlow, .rxFlow, .combine, .cfg, .chan, .hist, .domHist]
  | _ => none

/-- What the commands about domains, Drone, tables, ownership and containment can change. -/
def hostPieces : Instr → Option (List Piece)
  | .configRequest .. =>
    some [.regs, .out, .cell, .frames, .nextFrame, .voqs, .residues, .awaited, .occ, .backing, .audit, .tq, .deficit, .stale, .tok,
      .polTok, .tables, .ort, .ledger, .fail, .jrnl, .gates, .nextGate, .waiting, .fences, .link, .txFlow, .combine, .port, .cfg,
      .sharers, .intx, .msix, .flr, .cfFlr, .doe, .chan, .ant]
  | .msixEnable .. =>
    some [.regs, .out, .cfg, .msix]
  | .intxDisable .. =>
    some [.regs, .out, .cfg]
  | .msixVectorRise .. =>
    some [.regs, .out, .msix]
  | .assertIntx .. | .deassertIntx .. =>
    some [.regs, .out, .tables, .intx]
  | .flrInitiate .. =>
    some [.regs, .out, .cell, .frames, .voqs, .residues, .occ, .backing, .audit, .tq, .ort, .ledger, .gates, .waiting, .fences, .link,
      .cfFlr, .chan]
  | .flrComplete .. =>
    some [.regs, .out, .cfg, .msix, .cfFlr, .doe, .regUe]
  | .busMasterDisable .. =>
    some [.regs, .frames, .occ, .backing, .ort, .ledger, .gates, .waiting, .cfg, .chan]
  | .doorbellWrite .. =>
    some [.regs, .frames, .occ, .backing, .ort, .ledger, .gates, .waiting, .chan]
  | .channelReset .. =>
    some [.regs, .shadow, .frames, .occ, .backing, .stuck, .ort, .ledger, .gates, .waiting, .chan]
  | .channelEnWrite .. | .droneBindWrite .. | .droneAssign .. | .droneRelease .. =>
    some [.regs, .shadow, .frames, .occ, .backing, .ort, .ledger, .gates, .waiting, .chan]
  | .descriptorFetch .. | .descriptorRun .. | .descriptorComplete .. =>
    some [.regs, .out, .cell, .frames, .nextFrame, .voqs, .residues, .occ, .refused, .backing, .audit, .tq, .polTok, .ort, .ledger,
      .fail, .jrnl, .gates, .nextGate, .waiting, .fences, .link, .txFlow, .combine, .cfg, .sharers, .chan, .ant]
  | .domainReset .. =>
    some [.regs, .out, .cell, .frames, .nextFrame, .voqs, .residues, .awaited, .occ, .backing, .audit, .tq, .deficit, .stale, .tok,
      .tables, .ort, .ledger, .fail, .jrnl, .gates, .waiting, .fences, .link, .txFlow, .combine, .port, .cfg, .sharers, .intx, .msix,
      .flr, .cfFlr, .rstDue, .doe, .chan, .regUe]
  | .secondaryBusResetSet .. =>
    some [.regs, .out, .cell, .frames, .nextFrame, .voqs, .residues, .awaited, .occ, .backing, .audit, .tq, .deficit, .stale, .tok,
      .tables, .ort, .ledger, .fail, .jrnl, .gates, .fences, .link, .txFlow, .combine, .port, .cfg, .intx, .flr, .doe, .chan]
  | .secondaryBusResetClear .. =>
    some [.port, .cfg]
  | .powerControllerOff .. =>
    some [.regs, .cfg]
  | .tblRead .. | .tblWrite .. | .tblInvalidate .. | .tblOpReserved .. =>
    some [.regs, .out, .shadow, .occ, .backing, .tables, .cfg, .flr, .doe, .ant]
  | .portCtlWrite .. =>
    some [.regs, .out, .posted, .shadow, .cell, .frames, .nextFrame, .voqs, .residues, .awaited, .occ, .backing, .audit, .tq, .deficit,
      .stale, .tok, .tables, .ort, .ledger, .fail, .jrnl, .gates, .fences, .link, .txFlow, .combine, .port, .cfg, .intx, .flr, .chan,
      .ant]
  | .resourceRelease .. | .attachPort .. | .detachPort .. =>
    some [.regs, .out, .cell, .frames, .nextFrame, .voqs, .residues, .awaited, .occ, .backing, .audit, .tq, .deficit, .stale, .tok,
      .tables, .ort, .ledger, .fail, .jrnl, .gates, .fences, .link, .txFlow, .combine, .port, .cfg, .intx, .flr, .doe, .chan, .ant]
  | .pcieLinkDown .. | .portContainment .. =>
    some [.regs, .out, .cell, .frames, .nextFrame, .voqs, .residues, .awaited, .occ, .backing, .audit, .tq, .deficit, .stale, .tok,
      .tables, .ort, .ledger, .fail, .jrnl, .gates, .waiting, .fences, .link, .txFlow, .combine, .port, .cfg, .sharers, .intx, .msix,
      .flr, .cfFlr, .rstDue, .doe, .chan, .ant, .regUe]
  | .containmentForce .. =>
    some [.regs, .out, .posted, .shadow, .cell, .frames, .nextFrame, .voqs, .residues, .awaited, .occ, .backing, .audit, .tq, .deficit,
      .stale, .tok, .tables, .ort, .ledger, .fail, .jrnl, .gates, .waiting, .fences, .link, .txFlow, .combine, .port, .cfg, .sharers,
      .intx, .msix, .flr, .cfFlr, .rstDue, .doe, .chan, .regUe]
  | .dpcTrigger .. =>
    some [.regs, .out, .cell, .frames, .nextFrame, .voqs, .residues, .awaited, .occ, .backing, .audit, .tq, .deficit, .stale, .tok,
      .tables, .ort, .ledger, .fail, .jrnl, .gates, .fences, .link, .txFlow, .combine, .port, .cfg, .intx, .chan]
  | .dpcClear .. =>
    some [.regs, .out, .tables, .port, .cfg, .flr]
  | .recoverDomainReset .. =>
    some [.regs, .out, .shadow, .cell, .frames, .nextFrame, .voqs, .residues, .awaited, .occ, .backing, .audit, .tq, .deficit, .stale,
      .tok, .tables, .ort, .ledger, .fail, .jrnl, .gates, .waiting, .fences, .link, .txFlow, .combine, .port, .cfg, .sharers, .intx,
      .msix, .flr, .cfFlr, .rstDue, .doe, .chan, .regUe]
  | .grantRevoke .. =>
    some [.out, .tables, .doe, .ant]
  | .rangeRelease .. =>
    some [.regs, .tables, .ant]
  | .bind .. | .unbind .. | .poolAlloc .. | .poolRelease .. =>
    some [.regs, .out, .occ, .backing, .tables, .cfg, .flr, .doe, .ant]
  | .perstNAssert .. =>
    some [.regs, .out, .cell, .frames, .nextFrame, .voqs, .residues, .awaited, .occ, .backing, .audit, .tq, .deficit, .stale, .tok,
      .tables, .ort, .ledger, .fail, .jrnl, .gates, .waiting, .fences, .link, .txFlow, .combine, .port, .cfg, .sharers, .intx, .msix,
      .flr, .cfFlr, .rstDue, .doe, .chan, .ffy, .regUe]
  | .spiDone .. =>
    some [.regs, .spi, .flash]
  | _ => none

/-- What the commands about faults and mode changes, while no transition is in progress and none waits can change. -/
def idlePieces : Instr → Option (List Piece)
  | .stationConfigWrite .. =>
    some [.regs, .out, .md, .shadow, .cell, .frames, .nextFrame, .voqs, .residues, .awaited, .occ, .backing, .audit, .tq, .deficit,
      .stale, .tok, .tables, .ort, .ledger, .fail, .jrnl, .gates, .waiting, .fences, .link, .txFlow, .combine, .port, .cfg, .sharers,
      .intx, .msix, .flr, .cfFlr, .rstDue, .doe, .chan, .ffy, .regUe, .scr, .lines]
  | .rxControlBlock .. =>
    some [.regs, .out, .md, .cell, .frames, .nextFrame, .voqs, .residues, .occ, .backing, .audit, .tq, .deficit, .stale, .tok, .ort,
      .ledger, .fail, .jrnl, .gates, .fences, .link, .txFlow, .combine, .cfg, .chan, .ffy, .laneRx, .scr, .lines]
  | .bistEnd .. | .stationDisable .. | .stationPllUnlock .. =>
    some [.regs, .out, .md, .cell, .frames, .nextFrame, .voqs, .residues, .awaited, .occ, .backing, .audit, .tq, .deficit, .stale, .tok,
      .tables, .ort, .ledger, .fail, .jrnl, .gates, .waiting, .fences, .link, .txFlow, .combine, .port, .cfg, .sharers, .intx, .msix,
      .flr, .cfFlr, .rstDue, .doe, .chan, .ffy, .regUe, .scr, .lines]
  | .modeReqStandby .. =>
    some [.regs, .out, .md, .shadow, .ffy]
  | .modeReqFabricMember .. | .modeReqFabricRoot .. | .handover .. =>
    some [.regs, .md, .shadow, .ffy]
  | .transparentEntry =>
    some [.regs, .out, .md, .cell, .frames, .nextFrame, .voqs, .residues, .awaited, .occ, .backing, .audit, .tq, .deficit, .stale, .tok,
      .tables, .ort, .ledger, .fail, .jrnl, .gates, .fences, .link, .txFlow, .combine, .port, .cfg, .intx, .flr, .doe, .chan, .ant,
      .ffy]
  | .partitionedEntry | .fabricDiscovery .. | .heartbeatMiss | .gpioWake .. | .tripWakeHoldEnd .. | .hiveWithdrawal =>
    some [.regs, .md, .ffy]
  | .electricalIdleExit .. =>
    some [.regs, .md, .port, .ffy]
  | .forwardedClockLoss .. | .blockLockLoss .. | .replayTimeout .. | .creditTimeout .. | .linkBreak .. | .linkKeying ..
    | .unkeyedTimeout .. =>
    some [.regs, .out, .md, .cell, .frames, .nextFrame, .voqs, .residues, .occ, .backing, .audit, .tq, .deficit, .stale, .tok, .ort,
      .ledger, .fail, .jrnl, .gates, .fences, .link, .txFlow, .combine, .cfg, .chan, .ffy, .scr, .lines]
  | .rxParcel .. =>
    some [.regs, .ftime, .slew, .out, .md, .cell, .frames, .nextFrame, .voqs, .residues, .occ, .backing, .audit, .tq, .deficit, .stale,
      .tok, .ort, .ledger, .fail, .jrnl, .gates, .fences, .link, .txFlow, .combine, .cfg, .chan, .ffy, .time, .laneRx, .scr, .lines]
  | .forceBreak .. =>
    some [.regs, .out, .md, .posted, .shadow, .cell, .frames, .nextFrame, .voqs, .residues, .occ, .backing, .audit, .tq, .deficit,
      .stale, .tok, .ort, .ledger, .fail, .jrnl, .gates, .fences, .link, .txFlow, .combine, .cfg, .chan, .ffy, .scr, .lines]
  | .linkEnable .. =>
    some [.regs, .out, .md, .posted, .shadow, .cell, .frames, .nextFrame, .voqs, .residues, .occ, .backing, .audit, .tq, .deficit,
      .stale, .tok, .ort, .ledger, .fail, .jrnl, .gates, .fences, .link, .txFlow, .combine, .cfg, .chan, .ffy, .side, .dfe, .farPreset,
      .laneRx, .scr, .lines]
  | .landingAck .. | .planeWatchdog .. | .planeLost .. =>
    some [.regs, .out, .md, .cell, .frames, .nextFrame, .voqs, .flights, .residues, .awaited, .joining, .starved, .occ, .backing,
      .audit, .tq, .deficit, .stale, .tok, .tables, .ort, .ledger, .fail, .jrnl, .gates, .waiting, .fences, .link, .txFlow, .combine,
      .port, .cfg, .sharers, .intx, .msix, .flr, .cfFlr, .rstDue, .doe, .chan, .ffy, .regUe, .scr, .lines]
  | .stuckDeclaration .. =>
    some [.regs, .out, .md, .cell, .frames, .nextFrame, .voqs, .residues, .awaited, .occ, .backing, .stuck, .audit, .tq, .deficit,
      .stale, .tok, .tables, .ort, .ledger, .fail, .jrnl, .gates, .waiting, .fences, .link, .txFlow, .combine, .port, .cfg, .sharers,
      .intx, .msix, .flr, .cfFlr, .rstDue, .doe, .chan, .ant, .ffy, .boot, .regUe]
  | .retire .. =>
    some [.regs, .out, .md, .shadow, .cell, .frames, .nextFrame, .voqs, .flights, .residues, .awaited, .joining, .starved, .occ,
      .backing, .audit, .tq, .deficit, .stale, .tok, .tables, .ort, .ledger, .fail, .jrnl, .gates, .waiting, .fences, .link, .txFlow,
      .combine, .port, .cfg, .sharers, .intx, .msix, .flr, .cfFlr, .rstDue, .doe, .chan, .ffy, .regUe, .scr, .lines]
  | .auditRound =>
    some [.regs, .out, .md, .cell, .frames, .nextFrame, .voqs, .residues, .awaited, .occ, .backing, .audit, .tq, .deficit, .stale, .tok,
      .polTok, .polAct, .tables, .ort, .ledger, .fail, .jrnl, .gates, .waiting, .fences, .link, .txFlow, .combine, .port, .cfg,
      .sharers, .intx, .msix, .flr, .cfFlr, .rstDue, .doe, .stnRest, .chan, .ant, .ffy, .boot, .regUe, .scr, .lines]
  | .stationContainment .. =>
    some [.regs, .out, .md, .cell, .frames, .nextFrame, .voqs, .residues, .awaited, .occ, .backing, .audit, .tq, .deficit, .stale, .tok,
      .polTok, .polAct, .tables, .ort, .ledger, .fail, .jrnl, .gates, .waiting, .fences, .link, .txFlow, .combine, .port, .cfg,
      .sharers, .intx, .msix, .flr, .cfFlr, .rstDue, .doe, .stnRest, .chan, .ffy, .regUe, .scr, .lines]
  | .patrolScrub .. =>
    some [.regs, .out, .md, .cell, .frames, .nextFrame, .voqs, .residues, .awaited, .occ, .backing, .audit, .tq, .deficit, .stale, .tok,
      .polTok, .polAct, .tables, .ort, .ledger, .fail, .jrnl, .gates, .waiting, .fences, .link, .txFlow, .rxFlow, .combine, .port, .cfg,
      .sharers, .intx, .msix, .flr, .cfFlr, .rstDue, .doe, .stnRest, .chan, .ant, .ffy, .ueRows, .regUe, .scr, .lines]
  | .rowRepair .. =>
    some [.regs, .md, .ffy, .spare]
  | .colonyRestartFail =>
    some [.regs, .md, .ffy, .boot]
  | .smiwavenWakePattern .. =>
    some [.regs, .out, .md, .link, .ffy, .side, .dfe, .farPreset, .laneRx, .scr, .lines]
  | .idleStandbyTimer | .avsAttemptFail .. =>
    some [.regs, .out, .md, .ffy]
  | _ => none

end Sys2Proof
end

