-- ==== Sys2Proof/Safety.lean ====
section
/-! DEFINITION. What a safe run is: no step stops, what OTP has programmed stays programmed (R389), and the OTP array and Chitin's sessions keep
their form. -/

namespace Sys2Proof

open Sys2Proof.Machine

/-- Every bit that is 1 in one OTP array is 1 in another (R389: bits change only from 0 to 1). -/
def OtpGrows (a b : Sparse (BitVec 32)) : Prop := ∀ i k, (otpWord a i).getLsbD k = true → (otpWord b i).getLsbD k = true

/-- The OTP array is in its canonical form: words at strictly rising numbers, none of them zero. -/
def OtpForm (s : State) : Prop := Sparse.wf (fun _ => (0 : BitVec 32)) s.otp = true

/-- Chitin holds at most 128 SPDM sessions (R394). -/
def SessionsBounded (s : State) : Prop := s.trust.sessions.length ≤ 128

/-- A step is safe when it neither faults nor refuses, and OTP only grows. -/
def SafeStep (s : State) : Prop := ∃ t, step s = .next t ∧ OtpGrows s.otp t.otp

/-- A command answers a next state of which `Q` holds. -/
def Completes (c : Instr) (s : State) (Q : State → Prop) : Prop := ∃ t, exec c s = .next t ∧ Q t

/-- No mode transition is in progress and no trigger waits. -/
abbrev Idle (s : State) : Prop := s.part.md.going = none ∧ s.part.md.waiting = []

/-- The requester may write the register at offset `o` of a page: the page is visible to it, the core runs, and neither a lock nor
the register's access rule stands against it (R478, R482, R483). -/
abbrev Permits (s : State) (req : Requester) (pg : Page) (o : Nat) : Prop := (s.part.permitted req pg o).1 = true

/-- A register command of the requester acts at once on the state as it is: it may write the register, and for a block-specific register of a page
of another clock that clock runs and no earlier write of the requester to the page is on its way (R16, R19). -/
abbrev MayWrite (s : State) (req : Requester) (pg : Page) (o : Nat) : Prop :=
  Permits s req pg o ∧ (0x100 ≤ o → pg.owner ≠ 0 → s.part.clkStopped pg = false ∧ s.part.nonePosted req pg.base = true)

/-- A register write that the requester submits to the Guarded Write Port, or makes as Chitin, goes on to that port's checks on the state as it is
(R408, R478). -/
abbrev Submits (s : State) (req : Requester) (pg : Page) : Prop :=
  (s.part.guardAccess req pg 0).1 = true ∧ (pg.owner ≠ 0 → s.part.nonePosted req pg.base = true)

/-- A maintenance session with physical presence: MAINTENANCE entered with an effective strap, Chitin answering, nothing staged
(R417). -/
abbrev StrapSession (s : State) : Prop :=
  s.part.md.mode = .maintenance ∧ s.part.boot.chitin = true ∧ s.part.boot.romMaint = false ∧ s.part.boot.staged = none ∧
    s.part.strapSession = true

/-- A domain's mailbox is PENDING with an opcode and request length that Hive, which runs, serves (R403, R404). -/
abbrev Asked (s : State) (d op len : Nat) : Prop :=
  s.part.md.colonyUp = true ∧ s.part.mbPending d = true ∧ s.part.getF (.cfmb d) CFMB.MB_CMD.OPCODE = op ∧
    s.part.getF (.cfmb d) CFMB.MB_CMD.LEN = len

/-- A domain's mailbox is DONE with a result and a response length (R117). -/
abbrev Answered (s : State) (d result len : Nat) : Prop :=
  s.part.getF (.cfmb d) CFMB.MB_STAT.STATE = 2 ∧ s.part.getF (.cfmb d) CFMB.MB_STAT.RESULT = result ∧
    s.part.getF (.cfmb d) CFMB.MB_STAT.RSP_LEN = len

/-- A link is ACTIVE and carries no parcel whose delivery is open: it has no active twin, and the chip has recorded no role. -/
abbrev LoneLink (s : State) (l : Nat) : Prop :=
  s.part.linkState l = 5 ∧ (s.part.lk l).unacked = [] ∧ (s.part.lk l).foFrom = none ∧ s.part.twin l = none ∧ s.part.md.role = none

/-- No frame, request or outcome is open in the part, and Antenna captures nothing. -/
abbrev Quiet (s : State) : Prop :=
  s.part.frames = [] ∧ s.part.tq = [] ∧ s.part.waiting = [] ∧ s.part.fences = [] ∧ s.part.gates = [] ∧ s.part.ort = [] ∧ s.part.ledger = [] ∧
    s.part.combine = [] ∧ s.part.bit .ant ANT.CTL.EN = false

/-- The flash is in its canonical form: bytes at strictly rising addresses, none of them the erased value. -/
def FlashForm (s : State) : Prop := Sparse.wf (fun _ => (0xFF : BitVec 8)) s.part.flash = true

/-- The service role is recorded where R20 records one: in a role mode it is that mode, and only DEGRADED, FENCED and STANDBY keep one
besides. -/
def RoleForm (s : State) : Prop :=
  (s.part.md.mode.isRole = true → s.part.md.role = some s.part.md.mode) ∧
  (s.part.md.mode.isRole = false → s.part.md.mode ≠ .degraded → s.part.md.mode ≠ .fenced → s.part.md.mode ≠ .standby → s.part.md.role = none)

/-- The commands that can program OTP: the maintenance commands of R418 that write it, and the press that commits a staged one. -/
def programsOtp : Instr → Bool
  | .writeGen .. | .revokeGen .. | .setRoot .. | .blowSeal .. | .advanceSvn .. | .presencePress => true
  | _ => false

/-- The commands that can change what Chitin keeps about ownership, grants, sessions and keys. -/
def changesTrust : Instr → Bool
  | .keyExchange .. | .grantCreate .. | .grantRevoke .. | .resourceRelease .. | .rangeAssign .. | .rangeRelease .. | .poolDeclare ..
  | .ideStream .. | .presencePress | .chitinBoot .. | .porNAssert | .transparentEntry => true
  | .tblRead .. | .tblWrite .. | .tblInvalidate .. | .tblOpReserved .. | .portCtlWrite .. | .droneBindWrite .. | .bind .. | .unbind ..
  | .attachPort .. | .detachPort .. | .poolAlloc .. | .poolRelease .. | .droneAssign .. | .droneRelease .. => true
  | .pcieLinkDown .. | .portContainment .. | .patrolScrub .. => true
  | _ => false

/-- The commands that can change the SPI flash. -/
def writesFlash : Instr → Bool
  | .spiDone .. | .flashWrite .. | .presencePress => true
  | _ => false

/-- The code of a maintenance command that R418 marks as needing presence. -/
def presenceCode : Instr → Option Nat
  | .enterMaintenance => some 0x01
  | .recover => some 0x02
  | .writeGen .. => some 0x03
  | .revokeGen .. => some 0x04
  | .setRoot .. => some 0x05
  | .blowSeal .. => some 0x06
  | .advanceSvn .. => some 0x07
  | .forceRelease .. => some 0x08
  | _ => none

/-- The address lies in none of the pages named, nor in GLB and TEL, which count accesses and errors of every page. -/
abbrev Elsewhere (pages : List Page) (a : Nat) : Prop := ∀ pg ∈ Page.glb :: .tel :: pages, a < pg.base ∨ pg.base + 0x1000 ≤ a

end Sys2Proof
end

