-- ==== Sys2Proof/WellFormed.lean ====
section
/-! DEFINITION. Which terms of `Instr` a wire, a bus or a register can carry: field widths of packets, headers and parcels, and the lengths that a rule
gives a block of data. Operands whose type says it all need no check. -/

namespace Sys2Proof

open Sys2Proof.Machine

/-- Fields of a transaction layer packet within their widths (PCIe Base Specification, R256: payloads up to 4,096 B). -/
def Machine.Tlp.wf (t : Tlp) : Bool :=
  decide (t.len ≤ 4096) && decide (t.data.length ≤ 4096) && decide (t.tag < 16384) && decide (t.tc < 8) && decide (t.atType < 4) && decide (t.byteCount ≤ 4096)

/-- Fields of a Cocoon header within the widths of R297. -/
def Machine.CocoonHdr.wf (h : CocoonHdr) : Bool :=
  decide (h.dst < 2 ^ 16) && decide (h.src < 2 ^ 16) && decide (h.domain < 2 ^ 12) && decide (h.cls < 8) && decide (h.kind < 16) && decide (h.fseq < 2 ^ 24) &&
    decide (h.ilen < 2 ^ 13) && decide (h.hops < 32) && decide (h.mcg < 2 ^ 12) && decide (h.ortx < 2 ^ 17) && decide (h.ts < 2 ^ 32) && decide (h.psel < 8)

/-- An eye within the ideal one (R43). -/
def eyeOk (e : Nat × Nat) : Bool := decide (e.1 ≤ 65536) && decide (e.2 ≤ 65536)

/-- What a lane measures: eyes, and presets and lane numbers that exist (R40, R43, R55, R57). -/
def Machine.LaneMeas.wf (m : LaneMeas) : Bool :=
  m.presets.all (fun x => x.all eyeOk) && m.sweep.all (fun x => x.all eyeOk) && m.asked.all (fun k => decide (k < 16)) && decide (m.peer < 8)

/-- Fields of a parcel header within the widths of R122. -/
def Machine.ParcelHdr.wf (h : ParcelHdr) : Bool :=
  decide (h.ptype < 16) && decide (h.vc < 8) && decide (h.cbytes < 256) && decide (h.epoch < 16) && decide (h.seq < 2 ^ 20) && decide (h.ack < 2 ^ 20) &&
    decide (h.ackMap < 2 ^ 16) && decide (h.craVc < 8) && decide (h.craCum < 2 ^ 16) && decide (h.crbVc < 8) && decide (h.crbCum < 2 ^ 16) && decide (h.rsv < 2 ^ 11)

/-- A body whose packet or header is well-formed. -/
def Machine.Body.wf (b : Body) : Bool :=
  match b with
  | .local t => t.wf
  | .unit h (.tlp t) => h.wf && t.wf
  | .unit h _ => h.wf

/-- A payload whose unit is well-formed. -/
def Machine.Payload.wf (p : Payload) : Bool :=
  match p with
  | .cell (some b) => b.wf
  | _ => true

/-- A resource that can have a record: a local port, or an aligned range of 2 MiB to 1 TiB (R406). -/
def Machine.Res.wf (r : Res) : Bool :=
  match r with
  | .port t => decide (t < 128)
  | .fn t _ => decide (t < 128)
  | .range t b k => decide (t < 128) && decide (21 ≤ k ∧ k ≤ 40) && decide (b % 2 ^ k = 0) && decide (b < 2 ^ 64)

/-- What Hive can have found behind a local port (R404). -/
def Machine.FreeItem.wf (x : FreeItem) : Bool := decide (x.port < 128) && decide (x.vendor < 65536) && decide (x.device < 65536) && decide (x.log2 < 64)

/-- Fields of an election key within their widths (R329). -/
def Machine.RootKey.wf (k : RootKey) : Bool := decide (k.epoch < 65536) && decide (k.prio < 256) && decide (k.id < 2 ^ 64) && decide (k.chip < 128)

/-- A link width in lanes (R70). -/
def widthOk (w : Nat) : Bool := w == 1 || w == 2 || w == 4 || w == 8 || w == 16

/-- A command that the part's wires and buses can carry. -/
def Instr.wf (i : Instr) : Bool :=
  match i with
  | .registerWrite _ addr _ _ => decide (addr < 2 ^ 64)
  | .postedWriteEffect _ addr => decide (addr < 2 ^ 64)
  | .clearingRead _ addr _ => decide (addr < 2 ^ 64)
  | .modeReqStandby _ _ => true
  | .modeReqSentinel _ _ => true
  | .modeReqBoot _ _ => true
  | .modeReqFabricMember _ _ => true
  | .modeReqFabricRoot _ _ => true
  | .transparentEntry => true
  | .partitionedEntry => true
  | .fabricDiscovery found _ => found.all RootKey.wf
  | .rootHeartbeat => true
  | .heartbeatMiss => true
  | .handover _ => true
  | .degradedExit => true
  | .stationConfigWrite _ _ _ => true
  | .stationEnable _ => true
  | .stationPowerUp _ _ => true
  | .stationDisable _ => true
  | .pcieLinkUp _ _ width _ _ meas => widthOk width && meas.all LaneMeas.wf
  | .pcieRateChange _ _ found => found.all LaneMeas.wf
  | .backgroundAdapt _ _ eCur eTry => eCur.all eyeOk && eTry.all eyeOk
  | .l0pWidthReduce _ width => widthOk width
  | .l0pWidthIncrease _ width => widthOk width
  | .marginGo _ _ _ => true
  | .marginRunEnd _ _ => true
  | .forwardedClockLoss _ => true
  | .blockLockLoss _ _ => true
  | .rxControlBlock _ _ _ => true
  | .alignGroup _ => true
  | .configRequest _ tlp _ _ => tlp.wf
  | .msixEnable _ => true
  | .intxDisable _ => true
  | .msixVectorRise _ _ => true
  | .msixUnmask _ _ => true
  | .assertIntx _ _ _ => true
  | .deassertIntx _ _ _ => true
  | .flrInitiate _ => true
  | .flrComplete _ => true
  | .busMasterDisable _ => true
  | .doorbellWrite _ _ _ => true
  | .channelReset _ _ => true
  | .channelEnWrite _ _ _ => true
  | .descriptorFetch _ _ => true
  | .descriptorRun _ _ => true
  | .descriptorComplete _ _ => true
  | .droneBindWrite _ _ _ _ => true
  | .domainReset _ => true
  | .domainResetRelease _ => true
  | .secondaryBusResetSet _ _ => true
  | .secondaryBusResetClear _ _ => true
  | .powerControllerOff _ _ => true
  | .perstMapWrite _ _ _ => true
  | .mbGo _ => true
  | .mbAbort _ => true
  | .mbTimeout _ => true
  | .nop _ => true
  | .colonyResponse _ => true
  | .rxParcel _ _ body _ load _ => decide (body.length = 256) && load.wf
  | .nullParcel _ => true
  | .replayTimeout _ => true
  | .creditTimeout _ => true
  | .linkBreak _ _ => true
  | .forceBreak _ _ => true
  | .brokenExit _ => true
  | .linkEnable _ _ _ => true
  | .forwardedClockStable _ => true
  | .lockDone _ meas => decide (meas.length = 8) && meas.all LaneMeas.wf
  | .ts1Identified _ _ _ _ _ => true
  | .ts2Confirmed _ => true
  | .trainTmo _ => true
  | .sleepReq _ => true
  | .sleepReqReceive _ => true
  | .sleepAck _ => true
  | .sleepNak _ => true
  | .wake _ => true
  | .wakeRetry _ => true
  | .twinPairForm _ => true
  | .twinRestored _ => true
  | .tlpReceive _ tlp => tlp.wf
  | .tlpNullified _ => true
  | .colonyRequest _ tlp => tlp.wf
  | .trackResume _ => true
  | .ledgerSlotResume _ => true
  | .gateClear _ => true
  | .creditAdvertise _ _ _ _ => true
  | .backingRequest _ _ _ _ => true
  | .droppableAdmit _ _ _ _ tlp => tlp.wf
  | .matchPlane => true
  | .landingAck _ _ => true
  | .agentConsume _ => true
  | .ageDrop _ => true
  | .stuckDeclaration _ => true
  | .planeWatchdog _ => true
  | .planeLost _ _ _ => true
  | .bistGo _ _ => true
  | .bistEnd _ _ => true
  | .rejoin _ _ => true
  | .planeJoinApply => true
  | .retire _ _ => true
  | .poolSizeWrite _ addr _ => decide (addr < 2 ^ 64)
  | .unitRequest _ _ => true
  | .auditRound => true
  | .snap _ => true
  | .schedulerChoose _ _ _ => true
  | .shaperRefill => true
  | .tblRead _ => true
  | .tblWrite _ => true
  | .tblInvalidate _ => true
  | .tblOpReserved _ => true
  | .portCtlWrite _ _ _ => true
  | .completionReceive _ tlp => tlp.wf
  | .ortDeadline _ => true
  | .quarantineExpire _ => true
  | .writeCommit _ => true
  | .commitAckReceive h _ _ => h.wf
  | .ledgerDeadline _ => true
  | .fenceRead _ tlp => tlp.wf
  | .fenceComplete _ => true
  | .journalLatch _ _ => true
  | .cocoonUnitReceive _ => true
  | .rsqCell _ => true
  | .holeTimeout _ _ _ _ => true
  | .holdCap _ => true
  | .probeOpen h => h.wf
  | .probeVoid h _ => h.wf
  | .probeResume _ _ h _ => h.wf
  | .sendFlowRetire _ _ _ _ => true
  | .rxFlowStale _ _ _ _ => true
  | .rxFlowRetire _ _ _ _ => true
  | .synthCplReceive h _ _ _ => h.wf
  | .combineResolve _ => true
  | .combineTmo _ => true
  | .timeReq => true
  | .timeReqReceive _ _ _ => true
  | .timeRespReceive _ _ _ _ _ => true
  | .timeHoldover => true
  | .timeUnitSend => true
  | .timeUnitReceive _ _ _ => true
  | .pcieLinkDown _ => true
  | .portContainment _ _ => true
  | .containmentForce _ _ => true
  | .expectDown _ _ => true
  | .containmentRelease _ _ => true
  | .containmentAutoRelease _ => true
  | .dpcTrigger _ _ _ => true
  | .dpcClear _ _ => true
  | .stationContainment _ => true
  | .patrolScrub _ addr _ _ _ => decide (addr < 2 ^ 64)
  | .rowRepair _ _ addr => decide (addr < 2 ^ 64)
  | .recoverDomainReset _ _ _ => true
  | .recoverWarmReset _ _ => true
  | .recoverPowerCycle _ _ => true
  | .errInj _ addr _ => decide (addr < 2 ^ 64)
  | .softReset _ addr => decide (addr < 2 ^ 64)
  | .lock _ addr => decide (addr < 2 ^ 64)
  | .irqSet _ addr _ => decide (addr < 2 ^ 64)
  | .counterClear _ addr => decide (addr < 2 ^ 64)
  | .histogramLatch _ addr _ => decide (addr < 2 ^ 64)
  | .captureEnable _ _ => true
  | .antTrigger _ => true
  | .recordLatch _ _ => true
  | .chitinBoot _ _ _ => true
  | .colonyLoad _ _ => true
  | .colonyUp => true
  | .kick => true
  | .panic => true
  | .watchdogExpire => true
  | .colonyCrash => true
  | .colonyRestartFail => true
  | .colonyRestartRetry => true
  | .enterMaintenance => true
  | .recover => true
  | .writeGen words _ _ => decide (words.length = 64)
  | .revokeGen _ _ => true
  | .setRoot _ words _ _ => decide (words.length = 64)
  | .blowSeal _ => true
  | .advanceSvn _ _ _ => true
  | .forceRelease r => r.wf
  | .flashWrite addr data => decide (addr < 2 ^ 64) && decide (data.length ≤ 4096)
  | .testEnter _ _ => true
  | .testExit _ => true
  | .exit => true
  | .status => true
  | .presencePress => true
  | .stageExpire => true
  | .getMeasurements _ _ => true
  | .keyExchange _ => true
  | .grantCreate _ _ _ _ _ _ _ _ _ _ _ _ => true
  | .grantRevoke _ _ _ _ => true
  | .resourceRelease _ r => r.wf
  | .grantList _ _ => true
  | .linkKeying _ _ => true
  | .unkeyedTimeout _ => true
  | .keySwitch _ => true
  | .rekey _ _ => true
  | .grantRead _ => true
  | .rangeAssign _ _ _ _ => true
  | .rangeRelease _ _ _ => true
  | .ideStream _ _ _ => true
  | .ownerRead res => res.wf
  | .poolDeclare _ => true
  | .getDomain _ => true
  | .getBridges _ => true
  | .listFree _ found => found.all FreeItem.wf
  | .slotPower _ => true
  | .slotIndicator _ => true
  | .bind _ _ bars => decide (bars.length = 12)
  | .unbind _ => true
  | .attachPort _ => true
  | .detachPort _ => true
  | .poolAlloc _ _ _ _ _ => true
  | .poolRelease _ => true
  | .droneAssign _ _ => true
  | .droneRelease _ => true
  | .collectorSet _ => true
  | .captureFilter _ => true
  | .perstNAssert _ => true
  | .perstNDeassert _ => true
  | .chipRstNAssert => true
  | .chipRstNDeassert _ => true
  | .porNAssert => true
  | .porNDeassert _ _ _ => true
  | .electricalIdleExit _ => true
  | .smiwavenWakePattern _ => true
  | .gpioWake _ => true
  | .wakeSequence => true
  | .wakeStepTimeout => true
  | .standbyEntryComplete => true
  | .standbyWake _ => true
  | .idleStandbyTimer => true
  | .idleSentinelTimer => true
  | .thermalSample ts _ _ => (decide (ts.length = 8) && ts.all (fun v => decide (v < 2048)))
  | .trip => true
  | .tripWakeHoldEnd _ => true
  | .tripClear _ => true
  | .refclkLoss _ => true
  | .stationPllUnlock _ => true
  | .avsRequest _ => true
  | .avsAck _ _ => true
  | .avsAttemptFail _ _ => true
  | .avsSilentProbe _ _ => true
  | .loadStepHoldEnd => true
  | .rampLimiterUpdate _ => true
  | .droopDetect _ => true
  | .droopRecover _ => true
  | .powerCycleHoldEnd => true
  | .fireflyRestart => true
  | .smbusStatus => true
  | .temps => true
  | .clearFault _ => true
  | .powerCycle _ => true
  | .gpioWrite _ _ _ => true
  | .gpioEdge _ _ => true
  | .slotEnWrite _ _ => true
  | .slotInt _ => true
  | .i3cCommand _ _ => true
  | .i3cCommandDone _ data => decide (data.length ≤ 4096)
  | .ibiReceive _ _ => true
  | .mctpReceive _ _ bytes _ => decide (bytes.length ≤ 4096)
  | .mrxPop _ => true
  | .mtxGo _ _ => true
  | .mtxDone => true
  | .spiRead _ _ => true
  | .spiProgram _ _ => true
  | .erase4k _ => true
  | .erase64k _ => true
  | .spiDone _ => true
  | .standbyEntryAckMissing => true
  | .pcieL1SubstateChange _ _ => true
  | .timePpsPulse => true
  | .hiveWithdrawal => true
  | .linkIdeEstablish _ => true

end Sys2Proof
end

