-- ==== Sys2Proof/Certificates/Slice0/Obligations.lean ====
section
/-! DEFINITION. The statements for the provers. Clauses joined in one statement are about commands of one shape; `Completes c s Q`
says that the command answers a next state of which `Q` holds. -/

open Sys2Proof Sys2Proof.Machine

/-! ### Modes -/

/-- R22, R27, R28, R29, R518: A MODE_REQ with KEY 0x5A that the mode permits has its effect while no transition is in progress. That MODE_REQ
BOOT records cause 4 is the model's reading (log entry 23). A MODE_REQ with a wrong KEY is refused with code 2, a fabric role asked by
another than Hive with code 3, a STANDBY request whose acceptance condition fails with code 5, and a transition R22 does not list with code 1;
REQ_REJ reads 1 and the mode stays. A register write of MODE_REQ with GO asks as the commands do, and a request with another target replaces an
intent, also where it is refused. -/
def Obligations.ModeRequests : Prop :=
  (∀ (s : State) (req : Requester), Idle s → MayWrite s req .glb 0x104 →
    let m := s.part.md.mode
    (((m = .transparent ∨ m = .partitioned) ∧ s.part.standbyOk = true →
      Completes (.modeReqStandby req 0x5A) s (fun t => t.part.md.going = some (.modeReq .standby) ∧ t.part.md.mode = m)) ∧
    ((m = .transparent ∨ m = .partitioned) →
      Completes (.modeReqSentinel req 0x5A) s (fun t => t.part.md.sentIntent = true ∧ t.part.md.mode = m)) ∧
    Completes (.modeReqBoot req 0x5A) s (fun t =>
      t.part.md.mode = .boot ∧ t.part.md.prev = m ∧ t.part.md.lastCause = 4 ∧ t.part.md.role = none) ∧
    (req = .colony → m = .partitioned ∨ m = .fabricRoot →
      Completes (.modeReqFabricMember req 0x5A) s (fun t =>
        t.part.md.mode = .fabricMember ∧ t.part.md.role = some .fabricMember ∧ t.part.md.prev = m ∧ t.part.md.lastCause = 8)) ∧
    (req = .colony → m = .partitioned ∨ m = .fabricMember →
      Completes (.modeReqFabricRoot req 0x5A) s (fun t =>
        t.part.md.mode = .fabricRoot ∧ t.part.md.role = some .fabricRoot ∧ t.part.md.prev = m ∧ t.part.md.lastCause = 8)) ∧
    (∀ addr (w : Word), req.locate addr = some (.glb, 0x104) → addr % 4 = 0 → w.getLsbD 16 = true → w.toNat / 256 % 256 = 0x5A →
      (w.toNat % 16 = 3 → Completes (.registerWrite req addr w none) s (fun t =>
        t.part.md.mode = .boot ∧ t.part.md.prev = m ∧ t.part.md.lastCause = 4)) ∧
      (w.toNat % 16 = 1 → (m = .transparent ∨ m = .partitioned) →
        Completes (.registerWrite req addr w none) s (fun t => t.part.md.sentIntent = true ∧ t.part.md.mode = m))))) ∧
  (∀ (s : State) (req : Requester) (key : BitVec 8), Idle s → MayWrite s req .glb 0x104 →
    let m := s.part.md.mode
    let refused := fun (n : Nat) (t : State) => t.part.md.mode = m ∧ t.part.md.reqRej = true ∧ t.part.md.rejCode = n
    (key ≠ 0x5A → ∀ c ∈ [Instr.modeReqStandby req key, .modeReqSentinel req key, .modeReqBoot req key, .modeReqFabricMember req key,
        .modeReqFabricRoot req key], Completes c s (refused 2)) ∧
    (req ≠ .colony → ∀ c ∈ [Instr.modeReqFabricMember req 0x5A, .modeReqFabricRoot req 0x5A],
      Completes c s (fun t => refused 3 t ∧ t.part.md.sentIntent = false)) ∧
    ((m = .transparent ∨ m = .partitioned) → s.part.standbyOk = false → Completes (.modeReqStandby req 0x5A) s (refused 5)) ∧
    (m ≠ .transparent ∧ m ≠ .partitioned → Completes (.modeReqStandby req 0x5A) s (refused 1)) ∧
    (m ≠ .transparent ∧ m ≠ .partitioned → Completes (.modeReqSentinel req 0x5A) s (refused 1)) ∧
    (req = .colony → m ≠ .partitioned ∧ m ≠ .fabricRoot → Completes (.modeReqFabricMember req 0x5A) s (refused 1)) ∧
    (req = .colony → m ≠ .partitioned ∧ m ≠ .fabricMember → Completes (.modeReqFabricRoot req 0x5A) s (refused 1)))

/-- R428 to R433, R448: Firefly's sequences end in the mode the manual gives, with its cause. The causes of standby entry are the model's
reading (log entry 15). -/
def Obligations.FireflySequencesEnd : Prop :=
  ∀ (s : State), s.part.md.waiting = [] →
    let md := s.part.md
    (∀ src idx, md.mode = .sentinel → md.going = some (.wake src idx) →
      Completes .wakeSequence s (fun t => t.part.md.mode = .boot ∧ t.part.md.going = none ∧ t.part.md.prev = .sentinel ∧
        t.part.md.lastCause = wakeCause src)) ∧
    (∀ src idx, md.mode = .sentinel → md.going = some (.wake src idx) → s.part.ffy.tries = 0 →
      Completes .wakeStepTimeout s (fun t => t.part.md.mode = .sentinel ∧ t.part.md.going = md.going ∧ t.part.ffy.tries = 1)) ∧
    (∀ src idx, md.mode = .sentinel → md.going = some (.wake src idx) → s.part.ffy.tries ≠ 0 →
      Completes .wakeStepTimeout s (fun t => t.part.md.mode = .sentinel ∧ t.part.md.going = none ∧ t.part.ffy.tries = 0 ∧
        t.part.getF .ffy FFY.TRIP_STAT.CAUSE = 6 ∧ t.part.getF .ffy FFY.TRIP_STAT.FAULT = 1)) ∧
    (md.mode.core = true → md.going = some (.modeReq .standby) ∨ md.going = some (.idlePolicy .standby) →
      (∀ r ∈ s.part.ffy.avs.toList ++ s.part.ffy.avsq, r.pre = false) →
      (md.sentIntent = false → Completes .standbyEntryComplete s (fun t => t.part.md.mode = .standby ∧ t.part.md.going = none ∧
        t.part.md.prev = md.mode ∧ t.part.md.lastCause = 8 ∧ t.part.ant.ring = [])) ∧
      (md.sentIntent = true → Completes .standbyEntryComplete s (fun t => t.part.md.mode = .sentinel ∧ t.part.md.going = none ∧
        t.part.md.prev = .standby ∧ t.part.md.lastCause = 8))) ∧
    (md.going = some (.modeReq .standby) ∨ md.going = some (.idlePolicy .standby) →
      Completes .standbyEntryAckMissing s (fun t => t.part.md.mode = md.mode ∧ t.part.md.going = none ∧ t.part.md.reqRej = true ∧
        t.part.md.rejCode = 5)) ∧
    (∀ src idx, md.mode = .standby → md.going = some (.wake src idx) →
      Completes (.standbyWake true) s (fun t => t.part.md.mode = md.from_ ∧ t.part.md.going = none ∧ t.part.md.lastCause = wakeCause src) ∧
      Completes (.standbyWake false) s (fun t => t.part.md.mode = .boot ∧ t.part.md.going = none ∧ t.part.md.lastCause = 0xE)) ∧
    (md.going = some .powerCycle →
      Completes .powerCycleHoldEnd s (fun t => t.part.md.mode = .boot ∧ t.part.md.going = none ∧ t.part.md.lastCause = 0xF))

/-- R426, R427, R444, R448, R366: what starts a power cycle, a trip, a warm device reset or an idle transition does so. The cause of the idle
policy is the model's reading (log entry 15). -/
def Obligations.PowerTriggersAct : Prop :=
  ∀ (s : State), Idle s →
    let m := s.part.md.mode
    (m = .transparent → s.part.getF .ffy FFY.IDLE_CTL.STBY_MS ≠ 0 → s.part.standbyOk = true →
      s.part.idleFor (s.part.getF .ffy FFY.IDLE_CTL.STBY_MS * 1000000) = true →
      Completes .idleStandbyTimer s (fun t => t.part.md.going = some (.idlePolicy .standby) ∧ t.part.md.from_ = m)) ∧
    (m = .standby → s.part.getF .ffy FFY.IDLE_CTL.SENT_S ≠ 0 →
      s.part.idleFor (s.part.getF .ffy FFY.IDLE_CTL.SENT_S * 1000000000) = true →
      Completes .idleSentinelTimer s (fun t => t.part.md.mode = .sentinel ∧ t.part.md.prev = m ∧ t.part.md.lastCause = 8)) ∧
    (∀ req, MayWrite s req .glb 0x210 →
      Completes (.recoverWarmReset req 0xC3) s (fun t => t.part.md.mode = .boot ∧ t.part.md.prev = m ∧ t.part.md.lastCause = 4)) ∧
    (∀ req, MayWrite s req .glb 0x210 →
      Completes (.recoverPowerCycle req 0xC3) s (fun t => t.part.md.mode = .sentinel ∧ t.part.md.prev = m ∧
        t.part.md.going = some .powerCycle)) ∧
    (m.rails = true → Completes (.powerCycle 0x3C) s (fun t => t.part.md.mode = .sentinel ∧ t.part.md.prev = m ∧
        t.part.md.going = some .powerCycle)) ∧
    (∀ pll, (if pll then m.core else m.rails) = true → Completes (.refclkLoss pll) s (fun t => t.part.md.mode = .sentinel ∧ t.part.md.prev = m ∧
        t.part.md.lastCause = 5 ∧ t.part.getF .ffy FFY.TRIP_STAT.CAUSE = if pll then 5 else 4)) ∧
    (∀ c k r, m.rails = true → s.part.ffy.tripQ = some (c, k, r) → c < 16 →
      Completes .trip s (fun t => t.part.md.mode = .sentinel ∧ t.part.md.lastCause = 5 ∧ t.part.ffy.tripQ = none ∧
        t.part.getF .ffy FFY.TRIP_STAT.CAUSE = c))

/-! ### Firefly: pins, samples, the regulator port -/

/-- R424 to R426, R433, R449: a T2 sample stores the eight readings; a trip's held wakes are acted on once the hold ends; FAULT_N is released on
TRIP_CLEAR or CLEAR_FAULT once the cause has gone. -/
def Obligations.SamplesAndTrips : Prop :=
  ∀ (s : State),
    (∀ temps uv ov k, s.part.md.mode ≠ .off → k < 8 → temps.getD k 0 < 2048 →
      Completes (.thermalSample temps uv ov) s (fun t => t.part.getF .ffy (FFY.TEMP.VALUE.ix k) = temps.getD k 0 ∧
        t.part.getF .ffy (FFY.TEMP.VALID.ix k) = 1)) ∧
    (s.part.wakesHeld = false → Completes (.tripWakeHoldEnd false) s (fun t => t.part.ffy.held = [] ∧ t.part.md = s.part.md)) ∧
    (∀ src idx, Idle s → s.part.wakesHeld = false → s.part.ffy.held = [(src, idx)] →
      s.part.md.mode = .sentinel ∨ s.part.md.mode = .standby →
      Completes (.tripWakeHoldEnd true) s (fun t => t.part.ffy.held = [] ∧ t.part.md.going = some (.wake src idx))) ∧
    (∀ req, MayWrite s req .ffy 0x140 → s.part.causeGone = true →
      Completes (.tripClear req) s (fun t => t.part.getF .ffy FFY.TRIP_STAT.FAULT = 0)) ∧
    (s.part.md.mode ≠ .off → s.part.causeGone = true →
      Completes (.clearFault 0xA5) s (fun t => t.part.getF .ffy FFY.TRIP_STAT.FAULT = 0))

/-- R435, R436, R437, R438, R439, R440, R441, R446, R449: The regulator port sends, acknowledges, repeats and probes; a load step's hold ends.
The ramp limiter, the droop detectors, and Firefly's SMBus answers. -/
def Obligations.RegulatorAndLoad : Prop :=
  (∀ (s : State) (k : Fin 4) (mv : Nat),
    (∀ r q, s.part.md.mode.rails = true → s.part.ffy.avs = none → s.part.ffy.avsq = r :: q → r.chan = k.val →
      Completes (.avsRequest k) s (fun t => t.part.ffy.avs = some r ∧ t.part.ffy.avsq = q ∧
        t.part.out = s.part.out ++ [match r.mv with
          | some v => .avs k.val v
          | none => .avsRead k.val])) ∧
    (s.part.md.mode.rails = true → s.part.ffy.avs = none → s.part.ffy.avsq = [] → s.part.avsDue k.val = true →
      Completes (.avsRequest k) s (fun t => t.part.ffy.avs = some (AvsReq.mk k.val (some (s.part.wantMv k.val)) 0 false []) ∧
        t.part.out = s.part.out ++ [.avs k.val (s.part.wantMv k.val)])) ∧
    (∀ r, s.part.ffy.avs = some r → r.chan = k.val → r.mv = some mv → mv < 2048 →
      Completes (.avsAck k mv) s (fun t => t.part.ffy.avs = none ∧ t.part.getF .pwr (PWR.AVS_STAT.ACK_MV.ix k.val) = mv ∧
        t.part.getF .pwr (PWR.AVS_STAT.STATE.ix k.val) = 0)) ∧
    (∀ r (why : Fin 5), s.part.ffy.avs = some r → r.chan = k.val → r.mv = some mv → s.part.silent k.val = false →
      (r.att < 3 → (∀ q ∈ s.part.ffy.avsq.head?, q.pre = false) →
        Completes (.avsAttemptFail k why) s (fun t => t.part.ffy.avs = some { r with att := r.att + 1 } ∧
          t.part.out = s.part.out ++ [.avs k.val mv] ∧ t.part.getF .pwr (PWR.AVS_STAT.LAST_FAIL.ix k.val) = why)) ∧
      (3 ≤ r.att → Idle s → Completes (.avsAttemptFail k why) s (fun t => t.part.ffy.avs = none ∧ t.part.silent k.val = true ∧
        Output.pmbus k.val (safeMv k.val) ∈ t.part.out ∧ (∀ q ∈ t.part.ffy.avsq, q.chan ≠ k.val) ∧
        (s.part.md.mode.isRole = true → t.part.md.mode = .degraded)))) ∧
    (s.part.silent k.val = true → Completes (.avsSilentProbe k false) s (fun t => Sparse.get t.part.ffy.reads 0 k.val = 0)) ∧
    (∀ n, s.part.silent k.val = true → n < 2 → Sparse.get s.part.ffy.reads 0 k.val = n →
      Completes (.avsSilentProbe k true) s (fun t => Sparse.get t.part.ffy.reads 0 k.val = n + 1)) ∧
    (s.part.silent k.val = true → Sparse.get s.part.ffy.reads 0 k.val = 2 → s.part.ffy.avs = none → k.val ≠ 0 →
      Completes (.avsSilentProbe k true) s (fun t => t.part.ffy.avs = some (AvsReq.mk k.val (some (safeMv k.val)) 0 false []) ∧
        t.part.out = s.part.out ++ [.avs k.val (safeMv k.val)])) ∧
    (∀ at_, s.part.ffy.hold = some at_ → at_ ≤ s.part.now →
      Completes .loadStepHoldEnd s (fun t => t.part.ffy.hold = none ∧ t.part.getF .pwr PWR.LOAD_STAT.HOLD = 0))) ∧
  (∀ (s : State),
    (∀ want, want ≤ min s.part.ceiling (s.part.getF .pwr PWR.LOAD_STAT.EST_A +
        min 10 (max 1 (s.part.getF .pwr PWR.RAMP_CFG.RAMP_A))) →
      Completes (.rampLimiterUpdate want) s (fun t => t.part.getF .pwr PWR.LOAD_STAT.EST_A = want ∧
        t.part.getF .pwr PWR.LOAD_STAT.LIMITING = 0 ∧ t.part.ffy.cap = 80)) ∧
    (∀ want, min s.part.ceiling (s.part.getF .pwr PWR.LOAD_STAT.EST_A +
        min 10 (max 1 (s.part.getF .pwr PWR.RAMP_CFG.RAMP_A))) < want →
      Completes (.rampLimiterUpdate want) s (fun t => t.part.getF .pwr PWR.LOAD_STAT.LIMITING = 1 ∧
        t.part.getF .pwr PWR.LOAD_STAT.EST_A = min s.part.ceiling (s.part.getF .pwr PWR.LOAD_STAT.EST_A +
          min 10 (max 1 (s.part.getF .pwr PWR.RAMP_CFG.RAMP_A))))) ∧
    (∀ mv, s.part.deepMv ≤ mv → Completes (.droopDetect mv) s (fun t => t.part.ffy.stretch = 2)) ∧
    (∀ mv, s.part.shallowMv ≤ mv → mv < s.part.deepMv →
      Completes (.droopDetect mv) s (fun t => t.part.ffy.stretch = max 1 s.part.ffy.stretch)) ∧
    (∀ cycles, s.part.ffy.stretch ≠ 0 → Completes (.droopRecover cycles) s (fun t => t.part.ffy.stretch = 0)) ∧
    (s.part.md.mode ≠ .off →
      Completes .fireflyRestart s (fun t => t.part.ffy = s.part.ffy ∧ t.part.md = s.part.md ∧
        (t.part.rd (Page.ffy.base + 0x020)).getLsbD 4 = true)) ∧
    (s.part.md.mode ≠ .off → Completes .smbusStatus s (fun t => t.part = s.part.emit (.reply 0xD0 s.part.smbStatus))) ∧
    (s.part.md.mode ≠ .off → Completes .temps s (fun t => ∃ bytes : List Byte, t.part = s.part.emit (.reply 0xD1 bytes) ∧
        bytes.length = 16 ∧ bytes.head? = some (BitVec.ofNat 8 (s.part.getF .ffy (FFY.TEMP.VALUE.ix 0))))))

/-- R22, R367, R424, R425, R431, R446, R447: Firefly's pins. -/
def Obligations.FireflyPins : Prop :=
  ∀ (s : State),
    (∀ i : Fin 16, s.part.md.mode ≠ .off → s.part.md.mode.core = false →
      Completes (.perstNAssert i) s (fun t => nbit t.part.ffy.perst i.val = true ∧ t.part.md = s.part.md)) ∧
    (∀ i : Fin 16, Idle s → s.part.md.mode.isRole = true → s.part.md.role = some .transparent →
      nbit (s.part.getF .ffy FFY.PERST_ARM.ARM) i.val = true → nbit s.part.ffy.seen i.val = true → s.part.perstServed i = true →
      Completes (.perstNDeassert i) s (fun t => t.part.md.mode = .boot ∧ t.part.md.lastCause = 1)) ∧
    (Idle s → s.part.md.mode.core = true →
      Completes .chipRstNAssert s (fun t => t.part.ffy.chipRst = true ∧ t.part.md.mode = .boot ∧ t.part.md.lastCause = 3)) ∧
    (∀ strap, s.part.md.mode.core = true → s.part.ffy.chipRst = true →
      Completes (.chipRstNDeassert strap) s (fun t => t.part.ffy.chipRst = false ∧ t.part.ffy.strap = strap ∧ t.part.md = s.part.md)) ∧
    Completes .porNAssert s (fun t => t.part.md.mode = .off ∧ t.part.flash = s.part.flash ∧ t.otp = s.otp ∧ t.trust = Trust.reset) ∧
    (∀ strap perst, s.part.md.mode = .off → nbit (perst.toNat &&& s.part.getF .ffy FFY.PERST_ARM.ARM) 0 = false →
      Completes (.porNDeassert strap perst false) s (fun t => t.part.md.mode = .sentinel ∧ t.part.md.prev = .off ∧
        t.part.ffy.strap = strap)) ∧
    (∀ t' : Fin 128, Idle s → s.part.md.mode = .standby → s.part.bit .ffy FFY.WAKE_EN.IDLE_EXIT = true →
      s.part.ffy.watch.contains t'.val = true →
      Completes (.electricalIdleExit t') s (fun t => t.part.md.going = some (.wake 2 (16 * (t'.val / 8) + 2 * (t'.val % 8))))) ∧
    (∀ pin : Fin 16, Idle s → s.part.md.mode = .standby → s.part.bit .ffy FFY.WAKE_EN.GPIO = true → s.part.pinOwner pin.val = 1 →
      Completes (.gpioWake pin) s (fun t => t.part.md.going = some (.wake 5 pin.val))) ∧
    (∀ pin : Nat, s.part.md.mode.core = true → pin < 16 → s.part.pinOwner pin = 5 →
      Completes .timePpsPulse s (fun t => Output.gpioPulse pin ∈ t.part.out))

/-! ### Roles and firmware -/

/-- R22, R30, R329, R330, R360: entry to the first role, the fabric's election, and the ways a role changes. The cause of Hive's withdrawal and
of the entry to a first role is the model's reading (log entry 15). -/
def Obligations.RolesChange : Prop :=
  ∀ (s : State), Idle s →
    let p := s.part
    let entered := fun (r : Mode) (t : State) => t.part.md.role = some r ∧
      (p.exhausted = false → t.part.md.mode = r ∧ t.part.md.prev = .boot ∧ t.part.md.lastCause = p.md.lastCause) ∧
      (p.exhausted = true → t.part.md.mode = .degraded ∧ t.part.md.prev = r ∧ t.part.md.lastCause = 6)
    (p.md.mode = .boot → p.boot.chitin = true → p.boot.noGen = false → p.trUnits = true →
      (p.startPart = false ∨ (p.boot.colony = 2 ∧ p.fallback = true)) → Completes .transparentEntry s (entered .transparent)) ∧
    (p.md.mode = .boot → p.boot.chitin = true → p.boot.noGen = false → p.startPart = true → p.boot.colony = 1 → p.md.colonyUp = true →
      Completes .partitionedEntry s (entered .partitioned)) ∧
    (∀ found top, (p.md.mode = .partitioned ∨ p.md.mode.isFabric = true) → p.md.role = some p.md.mode → bestKey found = some top →
      (∃ l < 32, p.linkState l = 5) →
      let me := RootKey.mk (if p.md.mode = .partitioned then top.epoch else p.getF .fab FAB.ROOT_STAT.ROOT_EPOCH)
        (p.getF .fab FAB.ROOT_CTL.PRIO) ownId p.chip
      let goal := if bestKey (me :: found) = some me then Mode.fabricRoot else .fabricMember
      Completes (.fabricDiscovery found false) s (fun t => t.part.md.mode = goal ∧ t.part.md.role = some goal ∧
        (goal ≠ p.md.mode → t.part.md.prev = p.md.mode ∧ t.part.md.lastCause = 0xB) ∧ t.part.getF .fab FAB.ROOT_STAT.ROOT_VALID = 1)) ∧
    (∀ found r, r.isFabric = true → p.md.mode = r → p.md.role = some r →
      Completes (.fabricDiscovery found true) s (fun t => t.part.md.mode = .partitioned ∧ t.part.md.role = some .partitioned ∧
        t.part.md.prev = r ∧ t.part.md.lastCause = 0xB)) ∧
    (∀ r, r.isFabric = true → p.md.mode = r → p.md.role = some r →
      Completes .hiveWithdrawal s (fun t => t.part.md.mode = .partitioned ∧ t.part.md.role = some .partitioned ∧
        t.part.md.lastCause = 0xB)) ∧
    (∀ req, MayWrite s req .fab 0x124 → p.md.mode = .fabricRoot → p.md.role = some .fabricRoot →
      p.bit .fab FAB.ROOT_STAT.STANDBY_VALID = true →
      Completes (.handover req) s (fun t => t.part.md.mode = .fabricMember ∧ t.part.md.role = some .fabricMember ∧
        t.part.getF .fab FAB.ROOT_STAT.ROOT_CHIP = p.getF .fab FAB.ROOT_STAT.STANDBY_CHIP ∧
        t.part.getF .fab FAB.ROOT_STAT.ROOT_EPOCH = (p.getF .fab FAB.ROOT_STAT.ROOT_EPOCH + 1) % 65536 ∧
        t.part.getF .fab FAB.ROOT_STAT.STANDBY_VALID = 0)) ∧
    (p.md.mode = .fabricMember → p.md.role = some .fabricMember → p.md.standbyRoot = true →
      Completes .heartbeatMiss s (fun t => t.part.md.mode = .degraded ∧ t.part.md.role = some .fabricRoot ∧
        t.part.md.standbyRoot = false ∧
        t.part.getF .fab FAB.ROOT_STAT.ROOT_EPOCH = (p.getF .fab FAB.ROOT_STAT.ROOT_EPOCH + 1) % 65536)) ∧
    (∀ r, p.md.mode = .degraded → p.md.role = some r → (∀ k ∈ p.md.lost, nbit p.sfgStat.toNat k = true) →
      (1 ∈ p.md.lost → ∀ l < 32, p.bit (.smw l) SMW.LINK_CTL.TWIN_EN = false ∨ p.getF (.smw l) SMW.LINK_STAT.BREAK_CAUSE = 0 ∨
        (p.lk l).twinOk = true) →
      Completes .degradedExit s (fun t => t.part.md.mode = r ∧ t.part.md.prev = .degraded ∧ t.part.md.lastCause = 7))

/-- R384 to R388, R414, R415: Chitin and Colony start from the image copy that R385 picks of the flash, Colony crashes and restarts. Whether a
signature verifies is an operand (log entry 27). -/
def Obligations.FirmwareStarts : Prop :=
  ∀ (s : State),
    let p := s.part
    (∀ sigA sigB (sigs : Fin 256), p.md.mode = .boot → p.boot.chitin = false → p.boot.rom = false → p.ffy.chipRst = false →
      p.md.going = none →
      (p.imgPick false sigA sigB (otpSvn s.otp 0) = none →
        Completes (.chitinBoot sigA sigB sigs) s (fun t => t.part.boot.rom = true ∧ t.part.boot.chitin = false ∧ t.part.md.mode = .boot)) ∧
      (∀ a alt, p.imgPick false sigA sigB (otpSvn s.otp 0) = some (a, alt) →
        Completes (.chitinBoot sigA sigB sigs) s (fun t => t.part.boot.chitin = true ∧
          t.part.boot.chitinImg = (p.imgDigest a, p.imgVersion a) ∧ t.trust = { Trust.reset with ident := t.trust.ident } ∧
          (t.part.md.mode = .boot ∨ t.part.md.mode = .maintenance ∧ t.part.md.prev = .boot)))) ∧
    (∀ sigA sigB, p.boot.chitin = true → p.boot.noGen = false → p.boot.run = false → p.md.mode.core = true → p.md.mode ≠ .maintenance →
      p.md.mode ≠ .test → p.boot.colony = 0 ∨ p.boot.restart.isSome = true →
      (∀ a alt, p.imgPick true sigA sigB (p.getF .otpv OTPV.SVN.COLONY_OTP) = some (a, alt) →
        Completes (.colonyLoad sigA sigB) s (fun t => t.part.boot.colony = 1 ∧ t.part.boot.run = true ∧
          t.part.boot.colonyImg = (p.imgDigest a, p.imgVersion a) ∧ t.part.getF .spi SPI.OWNER.COLONY = 1)) ∧
      (p.imgPick true sigA sigB (p.getF .otpv OTPV.SVN.COLONY_OTP) = none →
        Completes (.colonyLoad sigA sigB) s (fun t => t.part.boot.colony = 2 ∧ t.part.boot.run = false))) ∧
    (p.boot.run = true → p.md.colonyUp = false →
      Completes .colonyUp s (fun t => t.part.md.colonyUp = true ∧ t.part.boot.restart = none ∧ t.part.boot.kick = p.now)) ∧
    (p.boot.run = true → Completes .kick s (fun t => t.part.boot.kick = p.now ∧ t.part.boot.run = true)) ∧
    (∀ c ∈ [Instr.panic, .colonyCrash], p.boot.run = true →
      Completes c s (fun t => t.part.boot.run = false ∧ t.part.boot.restart = some p.now ∧ t.part.boot.restarts = p.boot.restarts + 1 ∧
        t.part.md.colonyUp = false ∧ t.part.getF .spi SPI.OWNER.COLONY = 0)) ∧
    (p.boot.run = true → p.boot.restart = none → p.boot.kick + 500000000 ≤ p.now →
      Completes .watchdogExpire s (fun t => t.part.boot.run = false ∧ t.part.boot.restart = some p.now ∧ t.part.md.colonyUp = false)) ∧
    (∀ t0, p.boot.restart = some t0 → Idle s →
      Completes .colonyRestartFail s (fun t => t.part.boot.restart = none ∧ t.part.boot.failed = some p.now ∧ t.part.boot.run = false ∧
        (p.md.mode.isRole = true → t.part.md.mode = .degraded ∧ t.part.md.lastCause = 0xC))) ∧
    (∀ t0, p.boot.failed = some t0 →
      Completes .colonyRestartRetry s (fun t => t.part.boot.restart = some p.now ∧ t.part.boot.failed = none ∧
        t.part.boot.restarts = p.boot.restarts + 1))

/-- R326 to R330: the exchange of fabric time, the root's units and the record of the root. The content of units is free or an operand (log
entry 33). -/
def Obligations.FabricTime : Prop :=
  ∀ (s : State),
    let p := s.part
    (∀ l, p.parentLink = some l →
      Completes .timeReq s (fun t => (t.part.lk l).ctlq = (p.lk l).ctlq ++ [.lctlTimeReq ((p.time.exch + 1) % 65536) p.ftime] ∧
        t.part.time.exch = (p.time.exch + 1) % 65536)) ∧
    (∀ (l : Fin 32) (exch : BitVec 16) (t1 : BitVec 64), p.linkState l.val = 5 →
      Completes (.timeReqReceive l exch t1) s (fun t =>
        (t.part.lk l.val).ctlq = (p.lk l.val).ctlq ++ [.lctlTimeResp exch.toNat t1.toNat p.ftime p.ftime])) ∧
    (∀ (l : Fin 32) (t1 t2 t3 : BitVec 64), p.linkState l.val = 5 → p.bit .fab FAB.TIME_CTL.PARENT_EN = true →
      let o : Int := ((t2.toNat : Int) - t1.toNat - ((p.ftime : Int) - t3.toNat)) / 2
      p.time.exch < 65536 →
      Completes (.timeRespReceive l (BitVec.ofNat 16 p.time.exch) t1 t2 t3) s (fun t =>
        (o.natAbs ≤ 256000 → t.part.slew = o ∧ t.part.ftime = p.ftime) ∧
        (256000 < o.natAbs → t.part.slew = 0 ∧ t.part.ftime = ((p.ftime : Int) + o).toNat) ∧
        t.part.getF .fab FAB.TIME_STAT.HOLDOVER = 0)) ∧
    (p.bit .fab FAB.TIME_CTL.PARENT_EN = true → Completes .timeHoldover s (fun t => t.part.getF .fab FAB.TIME_STAT.HOLDOVER = 1)) ∧
    (∀ k, p.md.role = some .fabricRoot → k < 128 → k ≠ p.chip → p.carriable (k * 512 + 260) 0 = true →
      Completes .timeUnitSend s (fun t => ∃ i f h, t.part.fr i = some f ∧ f.dest = .chip k ∧
        f.body = .unit h (.time p.ftime (p.getF .fab FAB.ROOT_STAT.ROOT_EPOCH) p.chip))) ∧
    (∀ (now : BitVec 64) (epoch : BitVec 16) (chip : Fin 128),
      Completes (.timeUnitReceive now epoch chip) s (fun t => t.part.getF .fab FAB.ROOT_STAT.ROOT_CHIP = chip.val ∧
        t.part.getF .fab FAB.ROOT_STAT.ROOT_VALID = 1 ∧ t.part.getF .fab FAB.ROOT_STAT.ROOT_EPOCH = epoch.toNat ∧
        t.part.ftime = p.ftime ∧ t.part.slew = p.slew)) ∧
    (p.md.role = some .fabricRoot → p.bit .fab FAB.ROOT_STAT.STANDBY_VALID = true →
      p.carriable (p.getF .fab FAB.ROOT_STAT.STANDBY_CHIP * 512 + 258) 0 = true →
      Completes .rootHeartbeat s (fun t => ∃ i f h ty b, t.part.fr i = some f ∧
        f.dest = .chip (p.getF .fab FAB.ROOT_STAT.STANDBY_CHIP) ∧ f.body = .unit h (.hive ty b)))

/-! ### Maintenance, SPDM, Chitin's services -/

/-- R389, R392, R418, R419: In a session with presence the commands program OTP as they say and answer OK. The places of bits in the CTRL region
are the model's layout (log entry 14). ADVANCE_SVN raises the counter to the value asked for and never lowers it. Which zero bits are
programmed is the model's choice (log entry 28). -/
def Obligations.OtpProgramming : Prop :=
  (∀ (s : State), StrapSession s →
    (∀ words g, genNext s.otp = some g → words.length = 64 → genLegal words g = true → genByte words 4 = otpRoot s.otp →
      Completes (.writeGen words true true) s (fun t => genWords t.otp g = words ∧ t.part.out = s.part.out ++ [.reply 3 [0]])) ∧
    (∀ g : Fin 256, 1 ≤ g.val → g.val ≤ 7 →
      Completes (.revokeGen g true) s (fun t => otpRevoked t.otp g.val = true ∧ t.part.out = s.part.out ++ [.reply 4 [0]])) ∧
    (∀ (r : Fin 256) words g, genNext s.otp = some g → words.length = 64 → otpRoot s.otp < r.val → r.val ≤ 3 →
      (rootWords s.otp r.val).all (· == 0) = true → genLegal words g = true → genByte words 4 = r.val →
      Completes (.setRoot r words true true) s (fun t => genWords t.otp g = words ∧
        rootWords t.otp r.val = rootSlot (s.part.rootKeyDigest r.val) ∧ t.part.out = s.part.out ++ [.reply 5 [0]])) ∧
    Completes (.blowSeal true) s (fun t => otpSealed t.otp = true ∧ t.part.getF .otpv OTPV.ACTIVE.SEALED = 1 ∧
      t.part.out = s.part.out ++ [.reply 6 [0]])) ∧
  (∀ (s : State) (c v : Fin 256), StrapSession s → c.val ≤ 1 →
    v.val ≤ s.part.getF .otpv (if c.val = 0 then OTPV.SVN.CHITIN_RUN else OTPV.SVN.COLONY_RUN) →
    Completes (.advanceSvn c v true) s (fun t => otpSvn t.otp c.val = max v.val (otpSvn s.otp c.val) ∧
      t.part.out = s.part.out ++ [.reply 7 [0]]))

/-- R416 to R418, R371: commands that need presence are staged and a press commits them. The order of checks is the model's reading (log entry
28). -/
def Obligations.StagingAndPresence : Prop :=
  ∀ (s : State),
    let p := s.part
    (p.md.mode.isRole = true → p.boot.chitin = true → p.boot.romMaint = false → p.boot.staged = none →
      Completes .enterMaintenance s (fun t => t.part.boot.staged = some (plain 0x01 0 0, p.now) ∧ t.part.md = p.md ∧
        t.part.out = p.out ++ [.reply 0x01 [1]]) ∧
      ∀ r, Completes (.forceRelease r) s (fun t => t.part.boot.staged = some (Maint.mk 0x08 0 0 [] (some r) true true, p.now) ∧
        t.trust = s.trust ∧ t.part.out = p.out ++ [.reply 0x08 [1]])) ∧
    (p.bootFailed = true → p.boot.staged = none → p.boot.chitin = true ∨ p.boot.rom = true →
      Completes .recover s (fun t => t.part.boot.staged = some (plain 0x02 0 0, p.now) ∧ t.part.md = p.md ∧
        t.part.out = p.out ++ [.reply 0x02 [1]])) ∧
    (p.md.mode ≠ .off →
      (p.boot.staged = none → Completes .presencePress s (fun t => t.part.ffy.presses = p.ffy.presses + 1 ∧ t.part.md = p.md)) ∧
      (∀ t0, Idle s → p.md.mode.isRole = true ∨ p.md.mode = .degraded ∨ p.md.mode = .fenced → p.boot.chitin = true → p.boot.romMaint = false →
        p.boot.staged = some (plain 0x01 0 0, t0) →
        Completes .presencePress s (fun t => t.part.md.mode = .boot ∧ t.part.md.lastCause = 0xA)) ∧
      (∀ t0, p.bootFailed = true → p.boot.staged = some (plain 0x02 0 0, t0) →
        Completes .presencePress s (fun t => t.part.md.mode = .maintenance ∧ t.part.md.lastCause = 0xA ∧ t.part.boot.staged = none)) ∧
      (∀ m t0, p.md.mode.core = true → p.maintMode m.code = false → p.boot.staged = some (m, t0) →
        Completes .presencePress s (fun t => t.part.boot.staged = none ∧ t.part.getF .otpv OTPV.STAGE.LAST_RESULT = 3 ∧
          t.otp = s.otp ∧ t.trust = s.trust ∧ t.part.md = p.md)) ∧
      (∀ lp o t0, p.md.mode.isRole = true → p.boot.chitin = true → p.boot.romMaint = false →
        p.boot.staged = some (Maint.mk 0x08 0 0 [] (some (.port lp)) true true, t0) → s.trust.ownOf (.port lp) = some o →
        Completes .presencePress s (fun t => t.trust.ownOf (.port lp) = none ∧
          t.part.getF .otpv OTPV.STAGE.LAST_RESULT = 0))) ∧
    (∀ m t0, p.boot.staged = some (m, t0) →
      Completes .stageExpire s (fun t => t.part.boot.staged = none ∧ t.part.getF .otpv OTPV.STAGE.LAST_RESULT = 8 ∧
        t.otp = s.otp ∧ t.part.md = p.md))

/-- R383, R388, R418: the flash, TEST, EXIT and STATUS. The layout of the STATUS answer is the model's (log entry 41). -/
def Obligations.MaintenanceModeCommands : Prop :=
  ∀ (s : State),
    let p := s.part
    (∀ addr data, p.md.mode = .maintenance → p.boot.chitin = true → p.boot.romMaint = false → p.boot.staged = none →
      addr + data.length ≤ 0x1000000 →
      Completes (.flashWrite addr data) s (fun t => (∀ i, i < data.length → Sparse.get t.part.flash 0xFF (addr + i) = data.getD i 0) ∧
        (∀ a, a < addr ∨ addr + data.length ≤ a → Sparse.get t.part.flash 0xFF a = Sparse.get p.flash 0xFF a) ∧
        t.part.out = p.out ++ [.reply 9 [0]])) ∧
    (∀ (stns : BitVec 16) (test : Fin 256), p.md.mode = .maintenance → p.boot.chitin = true → p.boot.romMaint = false →
      p.boot.staged = none → p.bit .otpv OTPV.ACTIVE.DEBUG = true → test.val ≤ 4 → testUnits stns.toNat test.val ≠ 0 →
      Completes (.testEnter stns test) s (fun t => t.part.md.mode = .test ∧ t.part.md.prev = .maintenance ∧
        t.part.boot.tests = testUnits stns.toNat test.val)) ∧
    (p.md.mode = .test → p.boot.chitin = true → p.boot.romMaint = false → p.boot.staged = none →
      Completes (.testExit none) s (fun t => t.part.md.mode = .maintenance ∧ t.part.md.prev = .test ∧ t.part.boot.tests = 0)) ∧
    (∀ k : Fin 21, p.md.mode = .test → p.boot.tests = 2 ^ k.val →
      Completes (.testExit (some k)) s (fun t => t.part.md.mode = .maintenance ∧ t.part.boot.tests = 0)) ∧
    (Idle s → p.md.mode = .maintenance ∨ p.md.mode = .test → p.boot.chitin = true ∨ p.boot.rom = true → p.boot.staged = none →
      Completes .exit s (fun t => t.part.md.mode = .boot ∧ t.part.md.lastCause = 4 ∧ Output.reply 0x12 [0] ∈ t.part.out)) ∧
    (p.maintOn = true → Completes .status s (fun t => t.part = p.emit (.reply 0x20 p.maintStatus)))

/-- R86, R393 to R395, R405, R406, R410 to R412: what Chitin's SPDM responder does; an answer to a host is offered to the DOE mailbox of its
Control Function. The message codes are presumed (log entry 29), and the measurements and a grant are signed with the Alias key, whose values are
free (log entry 82). -/
def Obligations.SpdmServices : Prop :=
  ∀ (s : State),
    (∀ (who : Option (Fin 64)) (k : Fin 256), s.part.spdmOpen (who.map (fun d => d.val)) = true →
      let w := who.map (fun d => d.val)
      let signed := fun (l : List Nat) (t : State) => t.part = (s.part.emit (.spdm 0x60 (l ++ [(s.trust.sign l).toNat]))).doeAnswer w
      (1 ≤ k.val → k.val ≤ 8 → Completes (.getMeasurements who k) s (signed (s.measure w k.val))) ∧
      (k.val = 0 → Completes (.getMeasurements who k) s (signed [8])) ∧
      (k.val = 255 → Completes (.getMeasurements who k) s (signed ((List.range 8).flatMap (fun i => s.measure w (i + 1)))))) ∧
    (∀ (who : Option (Fin 64)), s.part.spdmOpen (who.map (fun d => d.val)) = true →
      (s.trust.sessions.length < 128 →
        Completes (.keyExchange who) s (fun t => t.trust.sessions = s.trust.sessions ++ [who.map (fun d => d.val)])) ∧
      (128 ≤ s.trust.sessions.length → Completes (.keyExchange who) s (fun t => t.trust = s.trust ∧
        t.part.out = s.part.out ++ [.spdm 0x7F [3]]))) ∧
    (∀ (d : Fin 64) (kind perm log2 : Fin 256) (ats : Bool) (grantee target mcg : Fin 65536) (base : BitVec 64) (fs : Fin 7)
        (fi : Fin 65536) (n : Nat),
      let g0 := Grant.mk kind perm ats log2 (s.part.fabricId d) grantee target mcg base.toNat s.part.chip s.trust.serial 0
      let g := { g0 with sig := s.trust.sign g0.words }
      s.inSession d = true → g.legal = true → g.target / 512 % 128 = s.part.chip → s.ownsTarget d g = true →
      s.part.granteeHere g.grantee = true → s.trust.freeGrant = some n →
      Completes (.grantCreate d kind perm log2 ats grantee target mcg base none fs fi) s (fun t =>
        t.trust.grant n = some g ∧ t.trust.serial = (s.trust.serial + 1) % 2 ^ 32 ∧
        t.part.out = s.part.out ++ [.spdm 0x7E (vendorBytes 1 0 (grantResults n s.part.chip s.trust.serial))])) ∧
    (∀ (d : Fin 64) (issuer : Fin 128) (serial : BitVec 32) (fs : Fin 7) (n : Nat) (g : Grant), s.inSession d = true →
      s.trust.grants.find? (fun e => match e.2 with
        | some x => x.issuer == issuer.val && x.serial == serial.toNat
        | none => false) = some (n, some g) →
      n ≠ 0 → g.grantor = s.part.fabricId d → g.target / 512 % 128 = s.part.chip →
      Completes (.grantRevoke d issuer serial fs) s (fun t => t.trust.grant n = none ∧
        t.part.out = s.part.out ++ [.spdm 0x7E (vendorBytes 2 0 [])])) ∧
    (∀ (d : Fin 64) (lp : Nat) (o : Own), s.inSession d = true → lp < 128 → s.trust.ownOf (.port lp) = some o → o.dom = d.val →
      Completes (.resourceRelease d (.port lp)) s (fun t => t.trust.ownOf (.port lp) = none ∧
        t.part.out.getLast? = some (.spdm 0x7E (vendorBytes 3 0 [])))) ∧
    (∀ (d : Fin 64) (first : Fin 65536), s.inSession d = true →
      let l := (s.trust.grantsOf (s.part.fabricId d)).filter (fun e => decide (first.val ≤ e.1))
      let next := ((l.drop 32).head?.map (fun e => e.1)).getD 0xFFFF
      Completes (.grantList d first) s (fun t => t.part = (s.part.emit (.spdm 0x7E (vendorBytes 4 0 (leList 2 (min 32 l.length) ++
        leList 2 next ++ (l.take 32).flatMap (fun e => e.2.words.flatMap (leList 4)))))).doeAnswer (some d.val)))

/-- R396, R406, R422: the services Chitin gives Colony through MBX.CC. The layout of CC_DATA is the model's (log entry 40). -/
def Obligations.ColonyServices : Prop :=
  ∀ (s : State), s.part.chitinOn = true → s.part.boot.run = true →
    let result := fun (t : State) => t.part.getF .mbx MBX.CC_STAT.RESULT
    (∀ (k : Fin 65536) (g : Grant), k.val < 4096 → s.trust.grant k.val = some g →
      Completes (.grantRead k) s (fun t => result t = 0 ∧ t.part.getF .mbx MBX.CC_STAT.RSP_LEN = 32 ∧
        t.part.getF .mbx (MBX.CC_DATA.DATA.ix 6) = g.serial % 2 ^ 32)) ∧
    (∀ (d : Fin 64) (lp : Fin 512) (base : BitVec 64) (log2 : Fin 256), (Res.range lp base.toNat log2).legal = true →
      s.trust.pools.contains lp.val = true → s.trust.ownOf (.range lp base.toNat log2) = none → s.trust.rangesAt lp = [] →
      s.trust.rangeCount < 4096 →
      Completes (.rangeAssign d lp base log2) s (fun t => t.trust.ownOf (.range lp base.toNat log2) = some (.owned d) ∧ result t = 0)) ∧
    (∀ (lp : Fin 512) (base : BitVec 64) (log2 : Fin 256) (d : Nat), s.trust.ownOf (.range lp base.toNat log2) = some (.owned d) →
      Completes (.rangeRelease lp base log2) s (fun t =>
        t.trust.ownOf (.range lp base.toNat log2) = some (.quarantined d) ∧ result t = 0)) ∧
    (∀ (sid : Fin 256) (lp : Fin 128), Completes (.ideStream sid lp true) s (fun t => (sid.val, lp.val) ∈ t.trust.streams ∧ result t = 0) ∧
      Completes (.ideStream sid lp false) s (fun t => t.trust = s.trust ∧ result t = 1)) ∧
    (∀ res, res.legal = true → Completes (.ownerRead res) s (fun t => result t = 0 ∧ t.trust = s.trust ∧
      t.part.getF .mbx (MBX.CC_DATA.DATA.ix 0) = (match s.trust.ownOf res with
        | none => 0
        | some (.owned d) => (1 + 256 * d) % 2 ^ 32
        | some (.quarantined d) => (2 + 256 * d) % 2 ^ 32))) ∧
    (∀ lp : Fin 512, lp.val < 128 → s.trust.ownOf (.port lp) = none →
      Completes (.poolDeclare lp) s (fun t => t.trust.pools.contains lp.val = true ∧ result t = 0))

/-! ### Hive's mailbox services -/

/-- R402 to R404: services that read, and those that change no table. Handles and the layout of answers are the model's (log entry 42). -/
def Obligations.HiveReadsAndSlots : Prop :=
  ∀ (s : State) (d : Fin 64),
    let p := s.part
    (Asked s d 0x0001 0 → Completes (.getDomain d) s (fun t => Answered t d 0 16 ∧ t.part.mbByte d 2 = d.val ∧
      t.part.mbByte d 3 = p.chip % 256)) ∧
    (Asked s d 0x0002 0 → Completes (.getBridges d) s (fun t => Answered t d 0 (4 + 8 * (p.bridges d).length) ∧
      t.part.mbByte d 0 = (p.bridges d).length % 256)) ∧
    (∀ found, Asked s d 0x0003 4 → p.mbByte d 0 ≤ 2 →
      let l := (s.freeItems (p.mbByte d 0) found).drop (p.mbField d 2 2)
      Completes (.listFree d found) s (fun t => Answered t d 0 (4 + 12 * min 128 l.length) ∧ t.part.mbByte d 0 = min 128 l.length)) ∧
    (Asked s d 0x0100 2 → p.mbByte d 0 < 128 → p.vbPresent d (p.mbByte d 0) = true →
      p.tf 6 (128 * d + p.mbByte d 0) 1 15 1 ≠ 0 → p.mbByte d 1 ≤ 1 →
      Completes (.slotPower d) s (fun t => Answered t d 0 0 ∧
        t.part.out = p.out ++ [.i3c (p.tf 6 (128 * d + p.mbByte d 0) 1 0 7) false 1])) ∧
    (Asked s d 0x0101 2 → p.mbByte d 0 < 128 → p.vbPresent d (p.mbByte d 0) = true →
      p.tf 6 (128 * d + p.mbByte d 0) 1 15 1 ≠ 0 → p.mbByte d 1 ≤ 15 → p.mbByte d 1 % 4 ≠ 3 → p.mbByte d 1 / 4 ≠ 3 →
      Completes (.slotIndicator d) s (fun t => Answered t d 0 0 ∧
        t.part.out = p.out ++ [.i3c (p.tf 6 (128 * d + p.mbByte d 0) 1 0 7) false 1])) ∧
    (Asked s d 0x0500 16 → p.mbByte d 0 = 0 ∨ p.mbByte d 0 = 2 → p.mbByte d 2 < 8 → p.mbByte d 3 < 8 →
      Completes (.collectorSet d) s (fun t => Answered t d 0 0 ∧ t.part.getF .ant ANT.CTL.COLL_DOM = p.fabricId d ∧
        t.part.getF .ant ANT.CTL.MODE = p.mbByte d 0 / 2 ∧ t.part.getF .ant ANT.CTL.EN = 0)) ∧
    (Asked s d 0x0501 16 → p.mbByte d 0 < 4 → p.mbByte d 1 < 128 → p.mbByte d 7 < 16 →
      Completes (.captureFilter d) s (fun t => Answered t d 0 0 ∧
        t.part.rd (Page.ant.base + 0x144 + 8 * p.mbByte d 0) =
          BitVec.ofNat 32 (p.mbByte d 6 + 256 * p.mbByte d 7 + 2 ^ 12 * min 31 (p.mbByte d 8))))

/-- R110, R404, R406, R408: Services that bind and unbind, where the Guarded Write Port accepts what Hive submits. Handles and operands of
Hive's choices are the model's (log entry 42). Pool memory and Drone channels, where the Guarded Write Port accepts what Hive submits. -/
def Obligations.HiveBindsAndAssigns : Prop :=
  (∀ (s : State) (d : Fin 64),
    let p := s.part
    (∀ (w1 : BitVec 32) (bars : List (BitVec 32)) n, Asked s d 0x0200 8 →
      let port := p.mbField d 0 4 / 65536
      let vb := p.mbByte d 4
      let a := if p.vbKind d vb = 2 then s.hiveKind d vb 1 0 else (s, 0)
      port < 128 → p.role port = 3 → vb < 128 → p.vbPresent d vb = true → p.vbKind d vb = 1 ∨ p.vbKind d vb = 2 → a.2 = 0 →
      (List.range 16384).find? (fun k => !(p.validIn 0).contains k) = some n →
      (a.1.hiveWrite 0 n 1 ([BitVec.ofNat 32 (1 + 8 * port + 2 ^ 10 * d + 2 ^ 16 * vb + 2 ^ 23 * p.mbByte d 5),
        (w1 &&& 0xFFFF0000) ||| BitVec.ofNat 32 (p.mbField d 0 4 % 65536), 0, 0] ++ bars.take 12)).2 = 0 →
      Completes (.bind d w1 bars) s (fun t => Answered t d 0 4 ∧ t.part.tf 0 n 0 0 1 = 1 ∧ t.part.tf 0 n 0 3 7 = port ∧
        t.part.tf 0 n 0 10 6 = d.val)) ∧
    (∀ f, Asked s d 0x0201 2 → (p.fnsOf d (p.mbByte d 0)).find? (fun f => p.tf 0 f 0 23 8 == p.mbByte d 1) = some f →
      (s.hiveWrite 0 f 2 []).2 = 0 →
      Completes (.unbind d) s (fun t => Answered t d 0 0 ∧ t.part.tf 0 f 0 0 1 = 0)) ∧
    (Asked s d 0x0202 8 →
      let port := p.mbField d 0 4
      let vb := p.mbByte d 4
      port < 128 → p.present port = true → vb < 128 → p.vbPresent d vb = true → p.vbKind d vb = 2 →
      p.tf 6 (128 * d + vb) 1 15 1 ≠ 0 → p.role port = 0 → p.guardPort s.trust port 2 d = true →
      ((s.portSet port 2 d vb).hiveKind d vb 0 port).2 = 0 →
      Completes (.attachPort d) s (fun t => Answered t d 0 0 ∧ t.part.role port = 2 ∧ t.part.vbKind d vb = 0)) ∧
    (Asked s d 0x0203 1 →
      let vb := p.mbByte d 0
      let port := p.tf 6 (128 * d + vb) 0 3 7
      vb < 128 → p.vbPresent d vb = true → p.vbKind d vb = 0 → p.role port = 2 → (s.hiveKind d vb 2 0).2 = 0 →
      Completes (.detachPort d) s (fun t => Answered t d 0 0 ∧ t.part.role port = 0 ∧ t.part.vbKind d vb = 2))) ∧
  (∀ (s : State) (d : Fin 64),
    let p := s.part
    (∀ (any : Fin 128) (base : BitVec 64) (maxreq : Fin 6) (atom : Fin 8) n, Asked s d 0x0300 16 →
      let k := p.mbByte d 0
      let flags := p.mbByte d 1
      let want := p.mbField d 2 2
      let b := p.mbField d 8 8
      let lp := if want = 0xFFFF then any.val else want % 512
      let r := Res.range lp base.toNat k
      21 ≤ k → k ≤ 40 → flags < 64 → want = 0xFFFF ∨ want / 512 = p.chip → s.trust.pools.contains lp = true →
      p.bit (.port lp) PORT.PORT_STAT.DL_UP = true → (List.range 65536).find? (fun k => !(p.validIn 1).contains k) = some n →
      s.trust.ownOf r = none → (s.rangeAssign d lp base.toNat k).2 = 0 →
      (State.hiveWrite { (s.rangeAssign d lp base.toNat k).1 with
        part := (s.rangeAssign d lp base.toNat k).1.part.emit (.zeroFill lp base.toNat k) } 1 n 1
        ([1 + 2 * (flags / 8 % 2) + 4 * (flags % 8) + 32 * atom.val + 512 * maxreq.val + 2 ^ 12 * (flags / 16 % 4) + 2 ^ 14 * d.val + 2 ^ 20 * k,
          256 * p.gport lp, b % 2 ^ 32, b / 2 ^ 32, base.toNat % 2 ^ 32, base.toNat / 2 ^ 32, 0, 0].map (BitVec.ofNat 32))).2 = 0 →
      Completes (.poolAlloc d any base maxreq atom) s (fun t => Answered t d 0 16 ∧ t.trust.ownOf r = some (.owned d) ∧
        t.part.tf 1 n 0 0 1 = 1 ∧ Output.zeroFill lp base.toNat k ∈ t.part.out)) ∧
    (Asked s d 0x0301 4 → p.mbField d 0 4 < 65536 → (p.validIn 1).contains (p.mbField d 0 4) = true →
      p.tf 1 (p.mbField d 0 4) 0 14 6 = d.val → (s.hiveWrite 1 (p.mbField d 0 4) 2 []).2 = 0 →
      Completes (.poolRelease d) s (fun t => Answered t d 0 0 ∧ t.part.tf 1 (p.mbField d 0 4) 0 0 1 = 0)) ∧
    (∀ c : Fin 512, Asked s d 0x0400 2 → Submits s .colony (.drn (c.val / 256)) → p.mbByte d 1 < 8 → p.bit (.drn (c.val / 256)) (DRN.CH_BIND.VALID.ix (c.val % 256)) = false →
      p.bindCheck .colony c (BitVec.ofNat 32 (1 + 2 * d + 128 * p.mbByte d 0 + 2 ^ 15 * p.mbByte d 1))
        (match Sparse.get s.trust.drone 0 c.val with
          | 0 => none
          | n => some (n - 1)) = 0 →
      Completes (.droneAssign d c) s (fun t => Answered t d 0 2 ∧
        t.part.getF (.drn (c.val / 256)) (DRN.CH_BIND.VALID.ix (c.val % 256)) = 1 ∧
        t.part.getF (.drn (c.val / 256)) (DRN.CH_BIND.DOMAIN.ix (c.val % 256)) = d.val ∧
        t.part.getF (.drn (c.val / 256)) (DRN.CH_BIND.SLOT.ix (c.val % 256)) = p.mbByte d 0)) ∧
    (∀ c, Asked s d 0x0401 1 → p.chanAt d (p.mbByte d 0) = some c → Submits s .colony (.drn (c / 256)) →
      Completes (.droneRelease d) s (fun t => Answered t d 0 0 ∧
        t.part.getF (.drn (c / 256)) (DRN.CH_BIND.VALID.ix (c % 256)) = 0 ∧ Sparse.get t.trust.drone 0 c = 0)))

/-! ### Registers -/

/-- R8, R9, R16, R19, R104, R334, R455, R478, R479: accesses of registers and the actions of the common page header. A write towards a page of
another clock is posted, takes effect in its page in issue order, and is dropped and recorded where that clock is stopped. -/
def Obligations.RegisterAccess : Prop :=
  (∀ (s : State) (req : Requester) (addr o : Nat) (pg : Page) (w : BitVec 32), req.locate addr = some (pg, o) → pg.hasHdr = true →
    s.part.unboundSlot pg = false →
    let p := s.part
    let mask := BitVec.ofNat 32 pg.irqMask
    (o = 0x14 → addr % 4 = 0 → Permits s req pg 0x14 →
      Completes (.registerWrite req addr w none) s (fun t => t.part.rd (pg.base + 0x14) = (p.rd (pg.base + 0x14) &&& ~~~mask) ||| (w &&& mask) ∧
        t.part.posted = p.posted)) ∧
    (pg = .buf → o = 0x114 → addr % 4 = 0 → Permits s req .buf 0x114 →
      Completes (.registerWrite req addr w none) s (fun t => t.part.getF .buf BUF.AGE_CTL.DROP_US = w.toNat % 65536 ∧
        t.part.posted = p.posted)) ∧
    (pg.owner ≠ 0 → 0x100 ≤ o → pg.defines o = true → addr % 4 = 0 → Permits s req pg o →
      (p.clkStopped pg = false → Completes (.registerWrite req addr w none) s (fun t =>
        t.part.posted = p.posted ++ [⟨req, pg.base, [(o, w)]⟩] ∧ t.part.rd (pg.base + o) = p.rd (pg.base + o))) ∧
      (p.clkStopped pg = true → Completes (.registerWrite req addr w none) s (fun t => t.part.posted = p.posted ∧
        t.part.rd (pg.base + o) = p.rd (pg.base + o) ∧ t.part.getF .glb GLB.XING_STAT.LAST_PAGE = pg.base / 4096 % 16384))) ∧
    (pg = .glb → o = 0x108 → addr % 4 = 0 → req = .chitin ∨ req = .colony → p.md.mode.core = true → p.ffy.chipRst = false →
      p.shadow.find? (fun e => e.1 = req ∧ e.2.1 = addr) = none →
      Completes (.clearingRead req addr false) s (fun t => t.part.getF .glb GLB.XING_STAT.WR_DROP = 0 ∧
        t.part.getF .glb GLB.XING_STAT.LAST_PAGE = p.getF .glb GLB.XING_STAT.LAST_PAGE ∧
        t.part.out = p.out ++ [.readData req addr ((p.rd (Page.glb.base + 0x108)).setWidth 64)])) ∧
    (Permits s req pg 8 →
      Completes (.softReset req addr) s (fun t => t.part.rd (pg.base + 0x10) = 0 ∧ t.part.rd (pg.base + 0x20) = 0 ∧
        t.part.getF pg HDR.ERR_FIRST.VALID = 0 ∧ (∀ i < 16, t.part.rd (pg.base + 0x80 + 4 * i) = 0) ∧
        t.part.posted = p.posted ++ (if pg = .gpio ∨ pg = .i3c ∨ pg = .spi then [⟨req, pg.base, [(8, 2)]⟩] else []))) ∧
    (Permits s .chitin pg 8 → req = .chitin → pg ≠ .cht →
      Completes (.lock req addr) s (fun t => t.part.bit pg HDR.PAGE_CTL.LOCK = true)) ∧
    (Permits s req pg 0x18 → pg ≠ .glb →
      Completes (.irqSet req addr w) s (fun t => t.part.rd (pg.base + 0x10) = p.rd (pg.base + 0x10) ||| (w &&& mask))) ∧
    (Permits s req pg 0x2C →
      Completes (.errInj req addr w) s (fun t => t.part.rd (pg.base + 0x20) = p.rd (pg.base + 0x20) ||| (w &&& BitVec.ofNat 32 pg.errMask))) ∧
    (Permits s req pg 0x40 →
      Completes (.counterClear req addr) s (fun t => ∀ i < 16, t.part.rd (pg.base + 0x80 + 4 * i) = 0))) ∧
  (∀ (s : State) (req : Requester) (addr o : Nat) (pg : Page) (x : Posted), req.locate addr = some (pg, o) →
    s.part.posted.find? (fun y => y.req = req ∧ y.page = pg.base) = some x →
    let p0 := { s.part with posted := s.part.posted.erase x }
    Completes (.postedWriteEffect req addr) s (fun t => t.part.posted = p0.posted ∧
      ∀ k v, x.words = [(k, v)] → k ≠ 8 → pageOf pg.base = some pg →
        t.part = if s.part.clkStopped pg = true then p0.xingDrop pg else p0.applyWord req pg k v)) ∧
  (∀ (s : State) (req : Requester) (addr : Nat) (x : Posted) (w : BitVec 32), req.locate addr = some (.clk, 0x108) →
    s.part.posted.find? (fun y => y.req = req ∧ y.page = Page.clk.base) = some x → x.words = [(0x108, w)] →
    Completes (.postedWriteEffect req addr) s (fun t => t.part.posted = s.part.posted.erase x ∧
      t.part.getF .clk CLK.DROOP_CFG.HOLD_CYC = w.toNat / 2 ^ 16 % 256))

/-- R116, R190, R195, R196, R215, R292, R450, R462, R468: registers whose write latches other state or is checked. -/
def Obligations.LatchesAndChecks : Prop :=
  ∀ (s : State) (req : Requester) (w : BitVec 32),
    let p := s.part
    (∀ addr, Requester.locate req addr = some (.tel, addr % 4096) → req = .chitin ∨ req = .colony → MayWrite s req .tel 0x104 →
      p.bit .tel TEL.HIST_CTL.CLR_ON_LATCH = false →
      Completes (.histogramLatch req addr w) s (fun t => t.part.hist = p.hist ∧ ∀ b < 32,
        (t.part.rd (Page.tel.base + 0x200 + 8 * b)).toNat =
          (min (2 ^ 48 - 1) (Sparse.get p.hist 0 (histKey (w.toNat % 2048 / 1024) (w.toNat % 128) (w.toNat / 128 % 8) b))) % 2 ^ 32)) ∧
    (MayWrite s req .ant 0x190 →
      Completes (.recordLatch req w) s (fun t => t.part.getF .ant ANT.REC_SEL.SLOT = w.toNat % 16384 ∧ ∀ k < 32,
        t.part.rd (Page.ant.base + 0x200 + 4 * k) = (Sparse.get p.ant.ring [] (w.toNat % 16384)).getD k 0)) ∧
    (∀ d : Fin 64, MayWrite s (.cf d) (.ordv d) 0x148 → Completes (.journalLatch d w) s (fun t =>
      let e := p.je d (w.toNat % 256)
      t.part.getF (.ordv d) ORDV.JRNL_SEL.SEQ = w.toNat % 65536 ∧ t.part.rd ((Page.ordv d).base + 0x150) = e.w0 ∧
        t.part.rd ((Page.ordv d).base + 0x154) = e.w1 ∧ t.part.rd ((Page.ordv d).base + 0x158) = e.w2 ∧
        t.part.rd ((Page.ordv d).base + 0x15C) = e.w3)) ∧
    (MayWrite s req .buf 0x120 →
      Completes (.snap req) s (fun t => t.part.getF .buf BUF.AUD_STAT.SNAP_VALID = 1 ∧
        t.part.rd (Page.buf.base + 0x12C) = BitVec.ofNat 32 (p.cell.filter (fun e => e.2.state == .queued)).length ∧
        t.part.rd (Page.buf.base + 0x130) = BitVec.ofNat 32 (p.cell.filter (fun e => e.2.state == .inFlight)).length)) ∧
    (∀ i : Fin 16, MayWrite s req .glb (0x1C0 + 4 * i.val) → GLB.PERST_MAP.CONFLICT.of w = 0 →
      let dom := GLB.PERST_MAP.DOMAIN.of w
      let clash := GLB.PERST_MAP.EN.of w = 1 ∧ ∃ j < 16, j ≠ i.val ∧ p.bit .glb (GLB.PERST_MAP.EN.ix j) = true ∧
        p.getF .glb (GLB.PERST_MAP.DOMAIN.ix j) = dom
      (clash → Completes (.perstMapWrite req i w) s (fun t => t.part.bit .glb (GLB.PERST_MAP.CONFLICT.ix i) = true ∧
        t.part.getF .glb (GLB.PERST_MAP.DOMAIN.ix i) = p.getF .glb (GLB.PERST_MAP.DOMAIN.ix i) ∧
        t.part.getF .ffy FFY.PERST_ARM.ARM = p.getF .ffy FFY.PERST_ARM.ARM)) ∧
      (¬clash → Completes (.perstMapWrite req i w) s (fun t => t.part.getF .glb (GLB.PERST_MAP.DOMAIN.ix i) = dom ∧
        t.part.getF .glb (GLB.PERST_MAP.EN.ix i) = GLB.PERST_MAP.EN.of w ∧
        nbit (t.part.getF .ffy FFY.PERST_ARM.ARM) i = (GLB.PERST_MAP.EN.of w == 1)))) ∧
    (MayWrite s req .buf 0x100 →
      let n := w.toNat % 2 ^ 18
      let ok := 4096 ≤ p.sharedFor n (p.getF .buf BUF.ESC_RSV.CELLS) (p.getF .buf BUF.MGMT_RSV.CELLS) none
      (ok → Completes (.poolSizeWrite req (Page.buf.base + 0x100) w) s (fun t => t.part.getF .buf BUF.CPL_RSV.CELLS = n)) ∧
      (¬ok → Completes (.poolSizeWrite req (Page.buf.base + 0x100) w) s (fun t =>
        t.part.getF .buf BUF.CPL_RSV.CELLS = p.getF .buf BUF.CPL_RSV.CELLS ∧ t.part.bit .buf BUF.CFG_STAT.CFG_REJ = true))) ∧
    (MayWrite s .chitin .pwr 0x130 → w.toNat % 16 = 15 →
      Completes (.unitRequest .chitin w) s (fun t => t.part.getF .pwr PWR.UNIT_REQ.COLONY = w.toNat / 128 % 2 ∧
        t.part.getF .pwr PWR.UNIT_REQ.ANT = w.toNat / 64 % 2 ∧ (w.getLsbD 6 = false → t.part.getF .ant ANT.CTL.EN = 0 ∧
          t.part.getF .pwr PWR.UNIT_STAT.ANT = 0)))

/-! ### Stations and lanes -/

/-- R34 to R39, R48, R340, R355, R444: stations are configured, start, stop and are contained. -/
def Obligations.StationLife : Prop :=
  ∀ (s : State) (n : Fin 16),
    let p := s.part
    (∀ req w, MayWrite s req .glb (0x140 + 4 * n) →
      (stnLegal w = true → w.getLsbD 2 = p.stnEn n → Completes (.stationConfigWrite req n w) s (fun t =>
        t.part.rd (Page.glb.base + 0x140 + 4 * n) = w &&& 0x0FFFFFF7 ∧ t.part.stnOn n = p.stnOn n ∧
          t.part.bit .glb (GLB.STN_STAT.CFG_PEND.ix n) = (p.stnOn n && (w.toNat % 4 != p.getF .glb (GLB.STN_STAT.MODE_ACT.ix n) ||
            w.toNat / 16 % 2 ^ 24 != p.getF .glb (GLB.STN_STAT.PORT_W_ACT.ix n))))) ∧
      (stnLegal w = true → w.getLsbD 2 = true → p.stnEn n = false → p.stnOn n = false → .station n.val ∉ p.ffy.steps →
        .station n.val ∉ p.ffy.ready → Completes (.stationConfigWrite req n w) s (fun t =>
          t.part.rd (Page.glb.base + 0x140 + 4 * n) = w &&& 0x0FFFFFF7 ∧ .station n.val ∈ t.part.ffy.steps ++ t.part.ffy.ready)) ∧
      (stnLegal w = true → w.getLsbD 2 = false → p.stnEn n = true → p.stnOn n = true → Completes (.stationConfigWrite req n w) s (fun t =>
        t.part.stnOn n = false ∧ t.part.bit .glb (GLB.STN_STAT.POWERED.ix n) = false)) ∧
      (stnLegal w = false → Completes (.stationConfigWrite req n w) s (fun t =>
        t.part.rd (Page.glb.base + 0x140 + 4 * n) = p.rd (Page.glb.base + 0x140 + 4 * n) ∧
          t.part.bit .glb (GLB.STN_STAT.CFG_REJ.ix n) = true))) ∧
    (p.stnEn n = true → p.stnOn n = false → .station n.val ∉ p.ffy.steps → .station n.val ∉ p.ffy.ready →
      Completes (.stationEnable n) s (fun t => .station n.val ∈ t.part.ffy.steps ++ t.part.ffy.ready)) ∧
    (p.stnEn n = true → .station n.val ∈ p.ffy.ready →
      Completes (.stationPowerUp n true) s (fun t => t.part.stnOn n = true ∧ t.part.bit .glb (GLB.STN_STAT.POWERED.ix n) = true ∧
        t.part.getF .glb (GLB.STN_STAT.MODE_ACT.ix n) = p.getF .glb (GLB.STN_CFG.MODE.ix n) ∧
        t.part.getF .glb (GLB.STN_STAT.PORT_W_ACT.ix n) = p.getF .glb (GLB.STN_CFG.PORT_W.ix n) ∧
        t.part.bit .glb (GLB.STN_STAT.CFG_PEND.ix n) = false ∧ t.part.ffy.ready = p.ffy.ready.erase (.station n) ∧
        ∀ k < 8, t.part.present (8 * n + k) = true → (t.part.pt (8 * n + k)).ltssm = .detect)) ∧
    (p.stnOn n = true →
      Completes (.stationDisable n) s (fun t => t.part.stnOn n = false ∧ t.part.stnEn n = false ∧ t.part.bit .glb (GLB.STN_STAT.POWERED.ix n) = false ∧
        nbit (t.part.getF .clk CLK.PLL_STAT.STN_LOCK) n = false) ∧
      Completes (.stationPllUnlock n) s (fun t => t.part.stnOn n = false ∧ t.part.stnEn n = false ∧ t.part.bit .glb (GLB.STN_STAT.POWERED.ix n) = false ∧
        nbit (t.part.getF .clk CLK.PLL_STAT.STN_LOCK) n = false)) ∧
    (Sparse.get p.stnRest 0 n = 0 →
      Completes (.stationContainment n) s (fun t => Sparse.get t.part.stnRest 0 n ≠ 0))

/-- R50, R56, R69, R70, R95, R340, R427, R445, R518: a PCIe port comes up, changes rate, width and L1 substate. -/
def Obligations.PortLinkLayer : Prop :=
  ∀ (s : State) (port : Fin 128),
    let p := s.part
    let pg := Page.port port
    (∀ (rate : Fin 7) (width : Fin 17) flit reversed meas, p.stnOn (port / 8) = true → p.present port = true → (p.pt port).keepDown = false →
      (p.pt port).ltssm ≠ .disabled → (p.pt port).ltssm ≠ .hotReset → p.bit pg PORT.PORT_STAT.DL_UP = false →
      width.val ∈ [1, 2, 4, 8, 16] → width ≤ (p.lanesOf port).length →
      Completes (.pcieLinkUp port rate width flit reversed meas) s (fun t => t.part.bit pg PORT.PORT_STAT.LINK_UP = true ∧
        t.part.bit pg PORT.PORT_STAT.DL_UP = true ∧ t.part.getF pg PORT.PORT_STAT.RATE = rate ∧ (t.part.pt port).ltssm = .l0 ∧
        t.part.getF pg PORT.PORT_STAT.WIDTH = width ∧ t.part.bit pg PORT.PORT_STAT.FLIT = (decide (5 ≤ rate.val) || flit))) ∧
    (∀ (rate : Fin 7) found, p.present port = true → (∀ l ∈ p.lanesOf port, l < 16) →
      Completes (.pcieRateChange port rate found) s (fun t => t.part.getF pg PORT.PORT_STAT.RATE = rate ∧
        (5 ≤ rate.val → t.part.bit pg PORT.PORT_STAT.FLIT = true) ∧ ∀ l ∈ p.lanesOf port,
          let e := p.laneStart (port / 8) l (rateGroup rate)
          t.part.getF (.serdes (port / 8)) (SERDES.LANE_STAT.GROUP.ix l) = rateGroup rate ∧
          t.part.getF (.serdes (port / 8)) (SERDES.LANE_STAT.DFE_ON.ix l) = e / 2 ^ 10 % 2 ∧
          (found = [] → t.part.getF (.serdes (port / 8)) (SERDES.LANE_STAT.CTLE_CUR.ix l) = e / 16 % 64 ∧
            t.part.getF (.serdes (port / 8)) (SERDES.LANE_STAT.TX_PRESET_CUR.ix l) = e % 16))) ∧
    (∀ w, (p.pt port).ltssm = .l0 ∨ (p.pt port).ltssm = .l0p → w < p.getF pg PORT.PORT_STAT.WIDTH → p.widthFits port w = true →
      Completes (.l0pWidthReduce port w) s (fun t => t.part.getF pg PORT.PORT_STAT.WIDTH = w ∧ (t.part.pt port).ltssm = .l0p)) ∧
    (∀ w, (p.pt port).ltssm = .l0p → p.getF pg PORT.PORT_STAT.WIDTH < w → p.widthFits port w = true → .width port.val w ∈ p.ffy.ready →
      Completes (.l0pWidthIncrease port w) s (fun t => t.part.getF pg PORT.PORT_STAT.WIDTH = w ∧ (t.part.pt port).ltssm = .l0p ∧
        t.part.bit .pwr PWR.LOAD_STAT.HOLD = true)) ∧
    (∀ goal, (p.pt port).ltssm ∈ [Ltssm.l0, .l0p, .l1, .l11, .l12] → goal ∈ [Ltssm.l0, .l1, .l11, .l12] →
      (goal = .l11 ∨ goal = .l12 → p.l1ssAdv port = true) →
      Completes (.pcieL1SubstateChange port goal) s (fun t => (t.part.pt port).ltssm = goal))

/-- R51 to R54, R60 to R63, R65, R67, R68, R71: lanes adapt and are margined, and what a link's receiver loses or meets is recorded. The receiver's
descrambler undoes the scrambler. What a write of MARGIN_CTL does beside GO while a run is BUSY is the model's choice (log entry 93). -/
def Obligations.LanesAndBlocks : Prop :=
  (∀ st bits, (descramble st (scramble st bits).2).2 = bits) ∧
  ∀ (s : State) (n : Fin 16),
    let p := s.part
    let pg := Page.serdes n
    (∀ (l : Fin 16) eCur eTry,
      let fCur := fomOf (p.getF pg (SERDES.LANE_STAT.GROUP.ix l)) eCur
      let fTry := fomOf (p.getF pg (SERDES.LANE_STAT.GROUP.ix l)) eTry
      let c := p.getF pg (SERDES.LANE_STAT.CTLE_CUR.ix l)
      let e := p.laneStart n l (p.getF pg (SERDES.LANE_STAT.GROUP.ix l))
      let up := Sparse.get p.side false (16 * n + l)
      p.stnOn n = true → p.bit pg SERDES.ADAPT_CTL.BG_EN = true → nbit (p.getF pg SERDES.ADAPT_CTL.FREEZE) l = false →
      ¬(p.bit pg SERDES.MARGIN_STAT.BUSY = true ∧ p.getF pg SERDES.MARGIN_CTL.LANE = l) → p.laneUp n l = true →
      p.bit pg (SERDES.LANE_STAT.LOCKED.ix l) = true → ctleLo e < c → c < ctleHi e →
      Completes (.backgroundAdapt n l eCur eTry) s (fun t => Sparse.get t.part.side false (16 * n + l) = !up ∧
        t.part.getF pg (SERDES.LANE_STAT.CTLE_CUR.ix l) =
          if fCur + p.getF pg SERDES.ADAPT_CTL.HYST < fTry then (if up then c + 1 else c - 1) else c)) ∧
    (∀ req w, MayWrite s req pg 0x110 → p.bit pg SERDES.MARGIN_STAT.BUSY = true →
      Completes (.marginGo req n w) s (fun t => t.part.rd (pg.base + 0x110) = p.rd (pg.base + 0x110) ∧
        t.part.rd (pg.base + 0x114) = p.rd (pg.base + 0x114))) ∧
    (∀ req w, MayWrite s req pg 0x110 → p.bit pg SERDES.MARGIN_STAT.BUSY = false →
      (w.toNat % 32 ≤ 15 → Completes (.marginGo req n w) s (fun t => t.part.bit pg SERDES.MARGIN_STAT.BUSY = true ∧
        t.part.getF pg SERDES.MARGIN_STAT.ERR_CNT = 0 ∧ t.part.getF pg SERDES.MARGIN_CTL.LANE = w.toNat % 32 ∧
        t.part.getF pg SERDES.MARGIN_CTL.STEP = min (w.toNat / 256 % 64) (if w.getLsbD 5 then 63 else 32))) ∧
      (15 < w.toNat % 32 → Completes (.marginGo req n w) s (fun t => t.part.bit pg SERDES.MARGIN_STAT.BUSY = false ∧
        t.part.bit pg SERDES.MARGIN_STAT.DONE = true ∧ t.part.getF pg SERDES.MARGIN_STAT.ERR_CNT = 0xFF))) ∧
    (∀ errors, p.bit pg SERDES.MARGIN_STAT.BUSY = true →
      Completes (.marginRunEnd n errors) s (fun t => t.part.bit pg SERDES.MARGIN_STAT.BUSY = false ∧
        t.part.bit pg SERDES.MARGIN_STAT.DONE = true ∧
        t.part.getF pg SERDES.MARGIN_STAT.ERR_CNT = min (max 1 (p.getF pg SERDES.MARGIN_CTL.ERR_LIMIT)) errors)) ∧
    (∀ l : Fin 32, p.linkPresent l = true → p.linkState l ≠ 5 →
      let sd := Page.serdes (l / 2)
      Completes (.forwardedClockLoss l) s (fun t =>
        t.part.bit sd (if l.val % 2 = 0 then SERDES.CLK_STAT.CLKA_LOSS else SERDES.CLK_STAT.CLKB_LOSS) = true ∧
        t.part.bit sd (if l.val % 2 = 0 then SERDES.CLK_STAT.CLKA_PRESENT else SERDES.CLK_STAT.CLKB_PRESENT) = false ∧
        nbit (t.part.rd (sd.base + 0x20)).toNat 2 = true) ∧
      ∀ lane : Fin 8, Completes (.blockLockLoss l lane) s (fun t =>
        t.part.bit sd (SERDES.LANE_STAT.LOCKED.ix (8 * (l % 2) + lane)) = false ∧ nbit (t.part.rd (sd.base + 0x20)).toNat 1 = true)) ∧
    (∀ (l : Fin 32) (k : Fin 8) (b : Block),
      let known := b.hdr = 1 ∨ b.byte 0 = 0x1E ∨ b.byte 0 = 0x4B ∨ b.byte 0 = 0x55
      let errs := fun (t : State) => (t.part.rd ((Page.serdes (l / 2)).base + 0x20)).toNat
      let lane := p.streamLane l k
      (b.hdr = 1 ∨ b.hdr = 2 → known → p.linkState l ≠ 2 → Completes (.rxControlBlock l k b) s (fun t => t.part.regs = p.regs ∧
        (t.part.lk l).rxLane = (k.val + 1) % 8)) ∧
      (b.hdr = 2 → ¬known → Completes (.rxControlBlock l k b) s (fun t => nbit (errs t) 7 = true)) ∧
      (b.hdr = 1 ∨ b.hdr = 2 → p.linkState l = 2 → 63 ≤ (Sparse.get p.laneRx LaneRx.reset lane).good →
        (Sparse.get p.laneRx LaneRx.reset lane).good ≤ 64 →
        Completes (.rxControlBlock l k b) s (fun t => t.part.bit (.serdes (l / 2)) (SERDES.LANE_STAT.LOCKED.ix (lane % 16)) = true)) ∧
      (b.hdr ≠ 1 → b.hdr ≠ 2 → p.linkState l ≠ 5 → Completes (.rxControlBlock l k b) s (fun t => nbit (errs t) 3 = true ∧
        (16 ≤ (p.syncHeader lane false).badHeaders lane →
          t.part.bit (.serdes (l / 2)) (SERDES.LANE_STAT.LOCKED.ix (lane % 16)) = false)))) ∧
    (∀ l : Fin 32, 1 ≤ p.linkState l → p.linkState l ≤ 5 →
      Completes (.alignGroup l) s (fun t => t.part.out = p.out ++ [.align l] ∧ (t.part.lk l).strm = 8))

/-! ### Smiwaven links -/

/-- R57, R59, R60, R143, R145, R149, R150, R197: A link trains step by step, and starts again or is disabled. What breaks a link breaks it, with its
cause. -/
def Obligations.LinksTrainAndBreak : Prop :=
  (∀ (s : State) (l : Fin 32),
    let p := s.part
    let pg := Page.smw l
    (∀ req, MayWrite s req pg 0x100 →
      (p.linkState l = 0 → p.linkPresent l = true →
        Completes (.linkEnable req l true) s (fun t => t.part.linkState l = 1 ∧ t.part.bit pg SMW.LINK_CTL.EN = true ∧
          t.part.getF pg SMW.LINK_STAT.EPOCH_TX = (p.getF pg SMW.LINK_STAT.EPOCH_TX + 1) % 16 ∧ t.part.out = p.out ++ [.train l 1])) ∧
      (p.linkState l ≤ 4 → Completes (.linkEnable req l false) s (fun t => t.part.linkState l = 0 ∧ t.part.bit pg SMW.LINK_CTL.EN = false))) ∧
    (p.linkState l = 1 → p.linkPresent l = true → Completes (.forwardedClockStable l) s (fun t => t.part.linkState l = 2)) ∧
    (∀ meas rev, p.linkState l = 2 → laneSkew meas ≤ 4000 → laneOrder meas = some rev → Completes (.lockDone l meas) s (fun t =>
      t.part.linkState l = 3 ∧ (t.part.lk l).rev = rev ∧
      ∀ k < 8, t.part.bit (.serdes (l / 2)) (SERDES.LANE_STAT.LOCKED.ix (8 * (l % 2) + k)) = true ∧
        t.part.getF (.serdes (l / 2)) (SERDES.LANE_STAT.GROUP.ix (8 * (l % 2) + k)) = 6)) ∧
    (∀ meas, p.linkState l = 2 → 4000 < laneSkew meas → Completes (.lockDone l meas) s (fun t => t.part.linkState l = 2 ∧
      nbit (t.part.rd ((Page.serdes (l / 2)).base + 0x20)).toNat 6 = true)) ∧
    (∀ (chip : Fin 128) (stn : Fin 16) (link : Fin 2) (epoch : Fin 16), p.linkState l = 3 →
      (chip.val ≠ p.chip → Completes (.ts1Identified l chip stn link epoch) s (fun t => t.part.linkState l = 4 ∧
        t.part.getF pg SMW.LINK_STAT.PEER_CHIP = chip ∧ t.part.getF pg SMW.LINK_STAT.PEER_STN = stn ∧
        t.part.getF pg SMW.LINK_STAT.PEER_LINK = link ∧ t.part.getF pg SMW.LINK_STAT.EPOCH_RX = epoch ∧
        t.part.out = p.out ++ [.train l 2])) ∧
      (chip.val = p.chip → p.md.mode ≠ .test → Completes (.ts1Identified l chip stn link epoch) s (fun t => t.part.linkState l = 3 ∧
        nbit (t.part.rd (pg.base + 0x20)).toNat 10 = true))) ∧
    (p.linkState l = 4 → (p.lk l).allot ≠ [] → Completes (.ts2Confirmed l) s (fun t => t.part.linkState l = 5 ∧
      t.part.bit pg SMW.LINK_STAT.PEER_VALID = true ∧ (t.part.lk l).granted = (p.lk l).allot ∧ (t.part.lk l).unacked = [] ∧
      (t.part.lk l).rxAck = 0xFFFFF ∧ (t.part.lk l).txKeyed = false)) ∧
    (1 ≤ p.linkState l → p.linkState l ≤ 4 → Completes (.trainTmo l) s (fun t => t.part.linkState l = 1 ∧ (t.part.lk l).allot = [] ∧
      nbit (t.part.rd (pg.base + 0x20)).toNat 9 = true)) ∧
    (p.linkState l = 6 → (p.lk l).rxCtx = [] → (p.bit pg SMW.LINK_CTL.EN = false →
        Completes (.brokenExit l) s (fun t => t.part.linkState l = 0 ∧ (t.part.lk l).unacked = [])) ∧
      (p.bit pg SMW.LINK_CTL.EN = true → (p.lk l).barred = false →
        Completes (.brokenExit l) s (fun t => t.part.linkState l = 1 ∧ (t.part.lk l).unacked = [])))) ∧
  (∀ (s : State) (l : Fin 32), LoneLink s l →
    let p := s.part
    let pg := Page.smw l
    let broken := fun (cause : Nat) (t : State) => t.part.linkState l = 6 ∧ t.part.getF pg SMW.LINK_STAT.BREAK_CAUSE = cause
    (∀ c : Fin 8, 1 ≤ c.val → Completes (.linkBreak l c) s (broken c)) ∧
    (∀ req, MayWrite s req pg 0x100 → Completes (.forceBreak req l) s (broken 6)) ∧
    ((∃ v < 8, p.creditStuck l v = true) → Completes (.creditTimeout l) s (broken 4)) ∧
    (((p.lk l).txKeyed && (p.lk l).rxKeyed) = false → Completes (.unkeyedTimeout l) s (broken 6)) ∧
    (p.linkPresent l = true → Completes (.forwardedClockLoss l) s (broken 1)) ∧ (∀ lane, Completes (.blockLockLoss l lane) s (broken 2)) ∧
    (p.boot.chitin = true → Completes (.linkKeying l false) s (fun t => broken 6 t ∧ (t.part.lk l).barred = true)))

/-- R143, R146, R147, R153, R424: a link sleeps and wakes. -/
def Obligations.LinkSleep : Prop :=
  ∀ (s : State) (l : Fin 32),
    let p := s.part
    (p.linkState l = 5 → p.bit (.smw l) SMW.LINK_CTL.SLEEP_REQ = true → p.maySleep l = true →
      Completes (.sleepReq l) s (fun t => (t.part.lk l).sleeping = true ∧ t.part.linkState l = 5 ∧ t.part.out = p.out ++ [.train l 3])) ∧
    (p.linkState l = 5 → p.maySleep l = true → p.twin l = none → p.frames = [] → p.tq = [] →
      Completes (.sleepReqReceive l) s (fun t => t.part.linkState l = 7 ∧ .train l 4 ∈ t.part.out)) ∧
    (p.linkState l = 5 → p.maySleep l = false →
      Completes (.sleepReqReceive l) s (fun t => t.part.linkState l = 5 ∧ t.part.out = p.out ++ [.train l 5])) ∧
    (p.linkState l = 5 → (p.lk l).sleeping = true → p.maySleep l = true → p.twin l = none → p.frames = [] → p.tq = [] →
      Completes (.sleepAck l) s (fun t => t.part.linkState l = 7)) ∧
    (p.linkState l = 5 → (p.lk l).sleeping = true → p.maySleep l = false →
      Completes (.sleepAck l) s (fun t => t.part.linkState l = 5 ∧ (t.part.lk l).sleeping = false)) ∧
    (p.linkState l = 5 → Completes (.sleepNak l) s (fun t => (t.part.lk l).sleeping = false ∧ t.part.linkState l = 5)) ∧
    (p.linkState l = 7 ∨ p.linkState l = 1 →
      Completes (.wake l) s (fun t => t.part.linkState l = 1 ∧ (t.part.lk l).wakeTries = 1 ∧ .wakePattern l ∈ t.part.out)) ∧
    (p.linkState l ≠ 5 → 1 ≤ (p.lk l).wakeTries → (p.lk l).wakeTries ≤ 3 →
      Completes (.wakeRetry l) s (fun t => (t.part.lk l).wakeTries = (p.lk l).wakeTries + 1 ∧ t.part.out = p.out ++ [.wakePattern l])) ∧
    (p.linkState l ≠ 5 → 3 < (p.lk l).wakeTries →
      Completes (.wakeRetry l) s (fun t => (t.part.lk l).wakeTries = 0 ∧ t.part.out = p.out ∧
        nbit (t.part.rd ((Page.smw l).base + 0x20)).toNat 11 = true)) ∧
    (p.md.mode.core = true → p.linkState l = 7 → Completes (.smiwavenWakePattern l) s (fun t => t.part.linkState l = 1)) ∧
    (Idle s → p.md.mode = .standby → p.bit .ffy FFY.WAKE_EN.SMW = true → l.val ∈ p.ffy.watchL →
      Completes (.smiwavenWakePattern l) s (fun t => t.part.md.going = some (.wake 3 (256 + l))))

/-- R122 to R132, R148, R153, R396 to R398: parcels are held and repeated, links are keyed, pairs form. The header bits of a parcel
spell every header. -/
def Obligations.LinkWork : Prop :=
  (∀ h : ParcelHdr, h.wf = true → ParcelHdr.unpack h.pack = h) ∧
  ∀ (s : State) (l : Fin 32),
    let p := s.part
    let b := p.lk l
    (∀ bits body crc load tagOk, p.linkState l = 5 → crc ≠ crc64 (bytesOf 16 (BitVec.toNat bits) ++ body) →
      Completes (.rxParcel l bits body crc load tagOk) s (fun t => (t.part.lk l).rxHeld = b.rxHeld ∧ (t.part.lk l).rxAck = b.rxAck ∧
        (t.part.lk l).received = b.received ∧ nbit (t.part.rd ((Page.smw l).base + 0x20)).toNat 0 = true)) ∧
    (∀ bits body crc load tagOk,
      let h := ParcelHdr.unpack (BitVec.toNat bits)
      crc = crc64 (bytesOf 16 (BitVec.toNat bits) ++ body) → p.linkState l = 5 → b.unacked = [] → b.received.length = 8 → h.ptype = 1 →
      h.fo = false → h.rsv = 0 → h.epoch = p.getF (.smw l) SMW.LINK_STAT.EPOCH_RX → 1 ≤ (h.seq + 2 ^ 20 - b.rxAck) % 2 ^ 20 →
      (h.seq + 2 ^ 20 - b.rxAck) % 2 ^ 20 ≤ 896 → b.rxHeld.any (fun x => x.hdr.seq == h.seq) = false →
      groupOf (b.rxHeld ++ [⟨h, load, tagOk⟩]) (b.rxHeld.length + 2) ((b.rxAck + 1) % 2 ^ 20) = none →
      Completes (.rxParcel l bits body crc load tagOk) s (fun t => (t.part.lk l).rxHeld = b.rxHeld ++ [⟨h, load, tagOk⟩] ∧
        (t.part.lk l).received.getD h.vc 0 = (b.received.getD h.vc 0 + 1) % 65536 ∧ (t.part.lk l).rxAck = b.rxAck)) ∧
    (p.linkState l = 5 → p.txReady l = false → b.changed = true ∨ 256 ≤ p.now - b.lastHdr → b.strm + 42 < 8 * 16385 →
      Completes (.nullParcel l) s (fun t => ∃ (h : ParcelHdr) (tag : BitVec 128), t.part.out = p.out ++ [.parcel l h (.null b.nullCtr tag)] ∧
        h.ptype = 2 ∧ h.vc = 7 ∧ h.seq = b.txNext ∧ h.ack = b.rxAck ∧ h.epoch = p.getF (.smw l) SMW.LINK_STAT.EPOCH_TX ∧
        (t.part.lk l).nullCtr = b.nullCtr + 1)) ∧
    (p.linkState l = 5 → b.unacked ≠ [] → b.retry + 1 ≤ max 1 (p.getF (.smw l) SMW.REPLAY_CTL.LIMIT) →
      Completes (.replayTimeout l) s (fun t => (t.part.lk l).retry = b.retry + 1 ∧ (t.part.lk l).unacked = b.unacked ∧
        (t.part.lk l).resend = (b.unacked.filter (fun x => !x.held)).map (fun x => x.seq))) ∧
    (∀ m : Fin 32, m ≠ l → p.twinNamed l = some m.val → p.twinNamed m = some l.val → p.linkState l = 5 → p.linkState m = 5 →
      p.getF (.smw l) SMW.LINK_STAT.PEER_CHIP = p.getF (.smw m) SMW.LINK_STAT.PEER_CHIP →
      (b.txKeyed && b.rxKeyed) = true → ((p.lk m).txKeyed && (p.lk m).rxKeyed) = true → p.bit (.smw l) SMW.LINK_STAT.TWIN_ACTIVE = false →
      Completes (.twinPairForm l) s (fun t => t.part.bit (.smw l) SMW.LINK_STAT.TWIN_ACTIVE = true ∧
        t.part.bit (.smw m) SMW.LINK_STAT.TWIN_ACTIVE = true)) ∧
    (p.linkState l = 5 → p.bit (.smw l) SMW.LINK_STAT.TWIN_ACTIVE = true →
      Completes (.twinRestored l) s (fun t => (t.part.lk l).twinOk = true)) ∧
    (p.linkState l = 5 → p.boot.chitin = true →
      Completes (.linkKeying l true) s (fun t => (t.part.lk l).txKeyed = true ∧ (t.part.lk l).rxKeyed = true ∧ (t.part.lk l).keyAt = p.now)) ∧
    (∀ x, b.switchAsk = some x → 1 ≤ (x + 2 ^ 20 - b.txNext) % 2 ^ 20 → (x + 2 ^ 20 - b.txNext) % 2 ^ 20 ≤ 2 ^ 19 →
      Completes (.keySwitch l) s (fun t => (t.part.lk l).switchSeq = some x ∧ (t.part.lk l).switchAsk = none)) ∧
    (∀ ahead, p.linkState l = 5 → b.txKeyed = true → p.boot.chitin = true →
      Completes (.rekey l ahead) s (fun t => (t.part.lk l).switchAsk = some ((b.txNext + max 64 (min ahead (2 ^ 19))) % 2 ^ 20))) ∧
    (∀ port : Fin 128, p.bit (.port port) PORT.PORT_STAT.DL_UP = true →
      Completes (.linkIdeEstablish port) s (fun t => (t.part.pt port).ide = true))

/-! ### Domains -/

/-- R93 to R97: MSI-X vectors and INTx wires of a domain. Offsets in configuration space are presumed (log entry 12), and messages are outputs
(log entry 13). -/
def Obligations.DomainInterrupts : Prop :=
  ∀ (s : State) (d : Fin 64),
    let p := s.part
    (p.cf d 1 0x50 31 1 = 0 → Completes (.msixEnable d) s (fun t => t.part.cf d 1 0x50 31 1 = 1 ∧ t.part.cfContrib d = false)) ∧
    Completes (.intxDisable d) s (fun t => t.part.cf d 1 0x04 10 1 = 1 ∧ t.part.cfContrib d = false) ∧
    (∀ v : Fin 2048, p.vecLevel d v = true → Sparse.get p.msix false (d * 2048 + v) = false → p.msixOn d = true →
      (p.vecMasked d v = false → Completes (.msixVectorRise d v) s (fun t => t.part.out = p.out ++ [.msix d v] ∧
        Sparse.get t.part.msix false (d * 2048 + v) = true)) ∧
      (p.vecMasked d v = true → Completes (.msixVectorRise d v) s (fun t => t.part.out = p.out ∧ t.part.pbaBit d v = true))) ∧
    (∀ v : Fin 2048, p.msixOn d = true → p.pbaBit d v = true → p.vecMasked d v = false →
      Completes (.msixUnmask d v) s (fun t => t.part.out = p.out ++ [.msix d v] ∧ t.part.pbaBit d v = false)) ∧
    (∀ (port : Fin 128) (rid : BitVec 16) (pin : Fin 4),
      let k := port.val * 65536 + rid.toNat
      (p.role port = 2 → Completes (.assertIntx port rid pin) s (fun t => Sparse.get t.part.intx 0 k = Sparse.get p.intx 0 k ||| 2 ^ pin.val)) ∧
      (p.role port = 2 → Completes (.deassertIntx port rid pin) s (fun t =>
        Sparse.get t.part.intx 0 k = Sparse.get p.intx 0 k &&& (15 - 2 ^ pin.val))) ∧
      (∀ f, p.role port = 3 → p.fbtOf port rid = some f →
        Completes (.assertIntx port rid pin) s (fun t => t.part.tf 0 f 2 0 4 = p.tf 0 f 2 0 4 ||| 2 ^ pin.val) ∧
        Completes (.deassertIntx port rid pin) s (fun t => t.part.tf 0 f 2 0 4 = p.tf 0 f 2 0 4 &&& (15 - 2 ^ pin.val))) ∧
      (p.role port = 0 ∨ p.role port = 1 ∨ p.role port = 3 ∧ p.fbtOf port rid = none →
        Completes (.assertIntx port rid pin) s (fun t => t.part.intx = p.intx ∧
          nbit (t.part.rd ((Page.port port).base + 0x20)).toNat 8 = true)))

/-- R117 to R119, R421: the mailbox of a domain. -/
def Obligations.MailboxActs : Prop :=
  ∀ (s : State) (d : Fin 64),
    let p := s.part
    let pg := Page.cfmb d
    (MayWrite s (.cf d) pg 0x104 → p.inFlr d = false → p.mbPending d = false → p.getF pg CFMB.MB_CMD.LEN ≤ 2048 →
      p.getF pg CFMB.MB_CMD.OPCODE < 0x8000 → p.md.colonyUp = true →
      Completes (.mbGo d) s (fun t => t.part.mbPending d = true ∧
        t.part.getF pg CFMB.MB_STAT.SEQ = (p.getF pg CFMB.MB_STAT.SEQ + 1) % 16)) ∧
    (p.mbPending d = true →
      (MayWrite s (.cf d) pg 0x104 → Completes (.mbAbort d) s (fun t => Answered t d 5 0)) ∧
      Completes (.mbTimeout d) s (fun t => Answered t d 6 0) ∧
      (p.getF pg CFMB.MB_CMD.OPCODE = 0 → Completes (.nop d) s (fun t => Answered t d 0 (p.getF pg CFMB.MB_CMD.LEN))) ∧
      (∀ w, MayWrite s .colony .mbx 0x110 → p.getF .mbx MBX.SEL.DOMAIN = d → MBX.RSP.SEQ.of w = p.getF pg CFMB.MB_STAT.SEQ →
        MBX.RSP.RESULT.of w ∈ [0, 2, 3, 4, 7] → MBX.RSP.RSP_LEN.of w ≤ 2048 →
        Completes (.colonyResponse w) s (fun t => Answered t d (MBX.RSP.RESULT.of w) (MBX.RSP.RSP_LEN.of w))))

/-- R100 to R102, R112, R113, R340, R342, R366: what a host does to its virtual switch, and the resets of a domain, with no packet or request of
any domain open in the part. Offsets in configuration space are presumed (log entry 12), and the steps of a reset are one command, whose
last step's bound of 5 ms the domain's ports stay in reset (log entry 65). -/
def Obligations.DomainResets : Prop :=
  ∀ (s : State) (d : Fin 64), Quiet s →
    let p := s.part
    (p.attached d = true → p.inFlr d = false → Completes (.flrInitiate d) s (fun t => t.part.inFlr d = true ∧
      ∀ c slot, (c, slot) ∈ p.chansOf d → p.getF (.drc d slot) DRC.CH_STAT.STATE ≠ 0 →
        t.part.getF (.drc d slot) DRC.CH_STAT.STATE = 4)) ∧
    (p.inFlr d = true → Completes (.flrComplete d) s (fun t => t.part.inFlr d = false ∧ t.part.cw d 1 0x04 = cfgReset 1 0x04)) ∧
    (p.cf d 1 0x04 2 1 = 1 → Completes (.busMasterDisable d) s (fun t => t.part.cf d 1 0x04 2 1 = 0 ∧
      ∀ c slot, (c, slot) ∈ p.chansOf d → p.getF (.drc d slot) DRC.CH_STAT.STATE = 1 →
        t.part.getF (.drc d slot) DRC.CH_STAT.STATE = 3)) ∧
    Completes (.domainReset d) s (fun t => t.part.cw d 1 0x04 = cfgReset 1 0x04 ∧
      t.part.getF (.cfmb d) CFMB.MB_STAT.STATE = 0 ∧ Sparse.get t.part.rstDue 0 d = p.now + 5000000 ∧
      ∀ port ∈ p.domPorts d, t.part.bit (.port port) PORT.PORT_STAT.IN_RESET = true) ∧
    (∀ req, p.attached d = true → p.deeper 3 = false → MayWrite s req .glb 0x210 → Completes (.recoverDomainReset req 0xC3 d) s (fun t =>
      t.part.cw d 1 0x04 = cfgReset 1 0x04 ∧ t.part.getF .glb GLB.RECOVER.ACTION = 1)) ∧
    (p.perstLow d = false → Completes (.domainResetRelease d) s (fun t => ∀ port ∈ p.domPorts d,
      t.part.bit (.port port) PORT.PORT_STAT.IN_RESET = false)) ∧
    (∀ vb : Fin 128, p.vbPresent d vb = true →
      (∀ fn : Fin 256, fn.val = 2 + vb.val → p.cf d fn 0x3C 22 1 = 0 →
        Completes (.secondaryBusResetSet d fn) s (fun t => t.part.cf d fn 0x3C 22 1 = 1)) ∧
      (∀ fn : Fin 256, fn.val = 2 + vb.val → p.cf d fn 0x3C 22 1 = 1 → p.vbKind d vb = 0 → p.cf d 0 0x3C 22 1 = 0 →
        Completes (.secondaryBusResetClear d fn) s (fun t => t.part.cf d fn 0x3C 22 1 = 0 ∧
          (t.part.pt (p.tf 6 (128 * d + vb) 0 3 7)).sbr = false)) ∧
      (p.vbKind d vb = 0 → Completes (.powerControllerOff d vb) s (fun t =>
        t.part.bit (.port (p.tf 6 (128 * d + vb) 0 3 7)) PORT.CONT_CTL.EXPECT_DOWN = true ∧ t.part.cf d (2 + vb) 0x88 10 1 = 1)) ∧
      (∀ sw, p.cf d (2 + vb) 0x14C 16 2 ≠ 0 → p.dpcOn d vb = false → p.vbKind d vb = 0 →
        Completes (.dpcTrigger d vb sw) s (fun t => (t.part.pt (p.tf 6 (128 * d + vb) 0 3 7)).dpc = true ∧
          t.part.bit (.port (p.tf 6 (128 * d + vb) 0 3 7)) PORT.CONT_STAT.HOST_HOLD = true)) ∧
      (p.dpcOn d vb = true → Completes (.dpcClear d vb) s (fun t => t.part.dpcOn d vb = false)))

/-- R78, R79, R85: a configuration read of the Control Function is answered with the word, the request counted first (R459). Offsets in
configuration space are presumed (log entry 12). -/
def Obligations.ConfigRead : Prop :=
  ∀ (s : State) (port : Fin 128) (m : Tlp) (sriov : Option Nat) (flr : Bool),
    let p := s.part
    let d := p.getF (.port port) PORT.PORT_CTL.DOMAIN
    let q := (p.count (.telv d 0) 0 1).count (.telv d 0) 1 m.data.length
    p.bit .ant ANT.CTL.EN = false → p.bit (.port port) PORT.CONT_STAT.ACTIVE = false → p.bit (.port port) PORT.PORT_STAT.DL_UP = true →
    p.md.mode = .partitioned → p.ffy.chipRst = false → p.role port = 1 → p.attached d = true → p.domReset d = false →
    m.kind = .cfgRead → m.id.toNat % 256 = 1 → p.cf d 0 0x18 8 8 = 0 → p.inFlr d = false →
    Completes (.configRequest port m sriov flr) s (fun t => ∃ c : Tlp, .cfgAnswer port c ∈ t.part.out ∧ c.kind = .cpl ∧ c.status = .sc ∧
      c.rid = m.rid ∧ c.tag = m.tag ∧ c.id = m.id ∧
      c.data = (List.range 4).map (fun i => BitVec.ofNat 8 ((q.cfgRead d 1 (m.addr.toNat / 4 * 4)).toNat / 256 ^ i)))

/-! ### Drone -/

/-- R88, R103, R104, R105, R106, R107, R108, R109, R110, R239, R258: A Drone channel from its binding to the end of a descriptor. One request at a
time is the model's reading (log entry 53), and what a binding that is cleared reads as its choice (log entry 93). A RUNNING channel's ring read
goes out with a tracker entry to the host of its domain. -/
def Obligations.DroneChannelsRun : Prop :=
  (∀ (s : State) (d : Fin 64) (slot : Fin 256),
    let p := s.part
    let pg := Page.drc d slot
    let cons := p.getF pg DRC.CONS.INDEX
    (∀ req (drone : Fin 2) (c : Fin 256) (w : BitVec 32), Submits s req (.drn drone) → w.getLsbD 0 = true →
      p.bindCheck req (256 * drone.val + c.val) w (match Sparse.get s.trust.drone 0 (256 * drone.val + c.val) with
        | 0 => none
        | n => some (n - 1)) = 0 →
      Completes (.droneBindWrite req drone c w) s (fun t => t.part.rd ((Page.drn drone).base + 0x400 + 4 * c.val) = w &&& 0x7FFFF ∧
        t.part.getF (.drn drone) DRN.BIND_RES.RESULT = 0 ∧ t.part.getF (.drn drone) DRN.BIND_RES.CH = c ∧
        Sparse.get t.trust.drone 0 (256 * drone.val + c.val) = w.toNat / 2 % 64 + 1)) ∧
    (∀ req (drone : Fin 2) (c : Fin 256) (w : BitVec 32), Submits s req (.drn drone) → w.getLsbD 0 = false →
      p.bindCheck req (256 * drone.val + c.val) w (match Sparse.get s.trust.drone 0 (256 * drone.val + c.val) with
        | 0 => none
        | n => some (n - 1)) = 0 →
      Completes (.droneBindWrite req drone c w) s (fun t => t.part.rd ((Page.drn drone).base + 0x400 + 4 * c.val) = 0 ∧
        t.part.getF (.drn drone) DRN.BIND_RES.RESULT = 0 ∧ t.trust = s.trust)) ∧
    (∀ c, p.chanAt d slot = some c →
      (∀ prod : BitVec 16, p.inFlr d = false → p.inD3 d = false → p.getF pg DRC.CH_STAT.STATE = 0 → p.getF pg DRC.CH_CTL.EN = 1 →
        p.cf d 1 0x04 2 1 = 1 → 1 ≤ (prod.toNat + 65536 - cons) % 65536 → (prod.toNat + 65536 - cons) % 65536 ≤ p.ringSize pg →
        Completes (.doorbellWrite d slot prod) s (fun t => t.part.getF pg DRC.PROD.INDEX = prod.toNat ∧
          t.part.getF pg DRC.CH_STAT.STATE = 1)) ∧
      (Quiet s → MayWrite s (.cf d) pg 0x100 → p.cf d 1 0x04 2 1 = 1 → p.inFlr d = false →
        Completes (.channelReset d slot) s (fun t => t.part.getF pg DRC.CH_STAT.STATE = 0 ∧ t.part.ch c = Chan.reset ∧
          t.part.getF pg DRC.CONS.INDEX = cons ∧ t.part.getF pg DRC.PROD.INDEX = p.getF pg DRC.PROD.INDEX)) ∧
      (MayWrite s (.cf d) pg 0x100 → p.getF pg DRC.CH_STAT.STATE = 1 → (p.ch c).cur = none → (p.ch c).ringOut = false →
        Completes (.channelEnWrite d slot false) s (fun t => t.part.getF pg DRC.CH_STAT.STATE = 0 ∧ t.part.getF pg DRC.CH_CTL.EN = 0)) ∧
      (MayWrite s (.cf d) pg 0x100 → p.getF pg DRC.CH_STAT.STATE = 0 → p.cf d 1 0x04 2 1 = 1 → p.inD3 d = false →
        1 ≤ (p.getF pg DRC.PROD.INDEX + 65536 - cons) % 65536 → (p.getF pg DRC.PROD.INDEX + 65536 - cons) % 65536 ≤ p.ringSize pg →
        Completes (.channelEnWrite d slot true) s (fun t => t.part.getF pg DRC.CH_STAT.STATE = 1 ∧ t.part.getF pg DRC.CH_CTL.EN = 1)) ∧
      (∀ b r, p.getF pg DRC.CH_STAT.STATE = 1 → p.getF pg DRC.CH_CTL.EN = 1 → (p.ch c).cur = none → (p.ch c).ringOut = false →
        (p.ch c).cplOut = false → (p.ch c).descs = b :: r → dscBad b = false → dscOp b = 3 →
        Completes (.descriptorRun d slot) s (fun t => (t.part.ch c).cur = some b ∧ (t.part.ch c).descs = r ∧
          t.part.getF pg DRC.CH_STAT.STATE = 1)) ∧
      (∀ b, p.getF pg DRC.CH_STAT.STATE = 1 → (p.ch c).cur = some b → dscBad b = false → dscOp b = 3 → leAt b 0 1 / 32 % 2 = 1 →
        (p.ch c).src = [] → (p.ch c).dst = [] → (p.ch c).rdOut = 0 → (p.ch c).wrOut = 0 → (p.ch c).rdErr = false → (p.ch c).wrErr = false →
        Completes (.descriptorComplete d slot) s (fun t => t.part.getF pg DRC.CONS.INDEX = (cons + 1) % 65536 ∧
          ((cons + 1) % 65536 = p.getF pg DRC.PROD.INDEX → t.part.getF pg DRC.CH_STAT.STATE = 0 ∧
            (t.part.rd (pg.base + 0x10)).getLsbD 2 = true))))) ∧
  (∀ (s : State) (d : Fin 64) (slot : Fin 256) (c : Nat), Quiet s →
    let p := s.part
    let pg := Page.drc d slot
    let cons := p.getF pg DRC.CONS.INDEX
    let ahead := (p.getF pg DRC.PROD.INDEX + 65536 - cons) % 65536
    let r := p.ringSize pg
    let at_ := p.ringBase pg + 64 * (cons % r)
    let n := min (min 8 ahead) (min (r - cons % r) (min (p.chSize pg DRC.CH_CFG.MAX_RD / 64) (toBoundary at_ / 64)))
    p.chanAt d slot = some c → p.getF pg DRC.CH_STAT.STATE = 1 → p.getF pg DRC.CH_CTL.EN = 1 → (p.ch c).cur = none →
    (p.ch c).ringOut = false → (p.ch c).descs = [] → (p.ch c).src = [] → ahead ≠ 0 → p.cplRoom (rdCells (64 * n)) = true →
    (p.chAdmit c d 1).2 = true → p.ortBlocked d = false → p.attached d = true → p.blocked (.port (p.uport d)) = none →
    p.claim d { Tlp.blank with kind := .memRead, addr := BitVec.ofNat 64 at_, len := 64 * n } false none = .host →
    p.checkClaim d .host (p.claimed d (BitVec.ofNat 64 at_).toNat .host)
      { Tlp.blank with kind := .memRead, addr := BitVec.ofNat 64 at_, len := 64 * n } (p.getF (.drn (c / 256)) (DRN.CH_BIND.CLASS.ix (c % 256))) = none →
    Completes (.descriptorFetch d slot) s (fun t => (t.part.ch c).ringOut = true ∧ (t.part.ch c).ringLen = 64 * n ∧
      ∃ i, (t.part.oe i).state = .localE ∧ (t.part.oe i).chan = some (c, 2, 0) ∧ (t.part.oe i).target = p.gport (p.uport d)))

/-! ### Requests, the tracker, the ledger and fences -/

/-- R176, R261 to R263, R318: how a tracker entry ends. -/
def Obligations.TrackerEntriesEnd : Prop :=
  ∀ (s : State),
    let p := s.part
    (∀ i, (p.oe i).state = .localE ∨ (p.oe i).state = .origin →
      Completes (.ortDeadline i) s (fun t => t.part.oe i =
        { p.oe i with state := .quarantine, wasLocal := decide ((p.oe i).state = .localE), gate := none })) ∧
    (∀ i, (p.oe i).state = .far → Completes (.ortDeadline i) s (fun t => t.part.oe i = OrtEnt.empty)) ∧
    (∀ i, (p.oe i).state = .quarantine → Completes (.quarantineExpire i) s (fun t => t.part.oe i = OrtEnt.empty)) ∧
    (∀ h rid tag status, (p.oe h.ortx).state = .origin → (p.oe h.ortx).target = h.src → (p.oe h.ortx).origRid = rid →
      (p.oe h.ortx).origTag = tag.val → Completes (.synthCplReceive h rid tag status) s (fun t => t.part.oe h.ortx = OrtEnt.empty)) ∧
    (∀ (q : Fin 128) i f e, p.openFrame q = some i → p.fr i = some f → f.ort = some e → f.slot = none → f.combine = none →
      Completes (.tlpNullified q) s (fun t => t.part.oe e = OrtEnt.empty)) ∧
    (∀ (q : Fin 128) (m : Tlp) i, m.kind = .cpl → m.malformed = false → p.waiting = [] → p.cplWait = [] → p.portSends q = true → p.role q = 2 → p.domReset (p.getF (.port q) PORT.PORT_CTL.DOMAIN) = false →
      p.bit .ant ANT.CTL.EN = false → p.matchPort q m = some i → (p.oe i).state = .localE → (p.oe i).fbt = none → badCount (p.oe i) m = false →
      finalCpl (p.oe i) m = true → (p.oe i).source % 512 < 128 → m.data.length ≤ p.mps ((p.oe i).source % 512) →
      p.blocked (.port ((p.oe i).source % 512)) = none →
      Completes (.completionReceive q m) s (fun t => t.part.oe i = OrtEnt.empty ∧ ∃ f, t.part.fr p.nextFrame = some f ∧
        f.dest = .port ((p.oe i).source % 512) ∧ f.kind = 2 ∧ f.body = .local { m with rid := (p.oe i).origRid, tag := (p.oe i).origTag }))

/-- R271, R274 to R278, R290, R322, R323: a used ledger slot gets one outcome, a failed one its journal entry, and the slot is free with the
next generation; a combine entry reports to its slot. -/
def Obligations.LedgerSlotsEnd : Prop :=
  ∀ (s : State),
    let p := s.part
    let live := fun (i g : Nat) => (p.sl i).used = true ∧ (p.sl i).gen = g ∧ (p.sl i).chan = none
    let free := fun (_ g : Nat) => { Slot.empty with gen := (g + 1) % 31 }
    let entry := fun (i cause : Nat) => let x := p.sl i
      jrnlEntry (p.getF (.ordv x.domain) ORDV.JRNL_PTR.WR_SEQ) cause x.fclass x.device x.rec_ x.addr x.len x.target
    let slotOf := fun (i : Nat) => p.getF (.ordv (p.sl i).domain) ORDV.JRNL_PTR.WR_SEQ % 256
    (∀ k f i g, p.fr k = some f → (∀ c, f.dest ≠ .chip c) → f.sent ≠ 0 → f.abort = false → f.record = none → f.kind = 0 → f.combine = none →
      f.slot = some (i, g) → live i g → Completes (.writeCommit k) s (fun t => t.part.sl i = free i g)) ∧
    (∀ h failed (cause : Fin 16), h.dst % 512 ≠ 260 → live (h.ortx % 4096) (h.ortx / 4096) →
      Completes (.commitAckReceive h failed cause) s (fun t => t.part.sl (h.ortx % 4096) = free (h.ortx % 4096) (h.ortx / 4096) ∧
        (failed = true → t.part.je (p.sl (h.ortx % 4096)).domain (slotOf (h.ortx % 4096)) = entry (h.ortx % 4096) cause))) ∧
    (∀ i g, live i g → Completes (.ledgerDeadline i) s (fun t => t.part.sl i = free i g ∧
      t.part.je (p.sl i).domain (slotOf i) = entry i 9)) ∧
    (∀ (k : Fin 1024) i g, (p.cb k).used = true → (p.cb k).members = 0 → (p.cb k).branches = [] → (p.cb k).origin = some (i, g) → live i g →
      Completes (.combineResolve k) s (fun t => t.part.sl i = free i g ∧ t.part.cb k = { Combine.empty with gen := ((p.cb k).gen + 1) % 31 })) ∧
    (∀ (k : Fin 1024), (p.cb k).used = true →
      Completes (.combineTmo k) s (fun t => t.part.cb k = { Combine.empty with gen := ((p.cb k).gen + 1) % 31 }))

/-- R161, R239, R253, R258, R275, R281, R401: Requests enter the part as frames, and agents take theirs. A request that waits at Track goes on
once nothing blocks it, and its frame enters the part. -/
def Obligations.RequestsEnterAndGoOn : Prop :=
  (∀ (s : State),
    let p := s.part
    (∀ (q : Fin 128) (m : Tlp),
      let d := p.getF (.port q) PORT.PORT_CTL.DOMAIN
      let v := p.getF (.port q) PORT.PORT_CTL.VB
      Quiet s → m.kind = .memWrite → m.malformed = false → p.ideHeld q m.kind = false → p.md.mode ≠ .maintenance → p.md.mode ≠ .test →
      p.portSends q = true → p.role q = 2 → p.attached d = true → p.domReset d = false → p.sourceBad d (some v) m.rid = false →
      p.claim d m false (some v) = .host → p.cf d (2 + v) 0x04 2 1 = 1 → p.cf d 0 0x04 2 1 = 1 →
      p.checkClaim d .host (p.claimed d m.addr.toNat .host) m (p.classOf q m.tc) = none → p.blocked (.port (p.uport d)) = none →
      p.chip < 128 →
      Completes (.tlpReceive q m) s (fun t => ∃ f, t.part.fr p.nextFrame = some f ∧ f.dest = .port (p.uport d) ∧ f.kind = 0 ∧ f.acct = d ∧
        f.body = .local { m with rid := p.tgtRid (p.uport d) d (.host m.rid) m.rid })) ∧
    (∀ (tgt : BitVec 16) (m : Tlp),
      let lp := tgt.toNat % 512
      p.md.mode.core = true → p.boot.run = true → m.kind = .memWrite → tgt.toNat / 512 % 128 = p.chip → lp < 128 → p.colonyMay s.trust lp m = true →
      p.notCarriable tgt.toNat 7 = false → p.poolUsed .mgmt + cellsOf (m.bytes + 32) ≤ p.getF .buf BUF.MGMT_RSV.CELLS → p.waiting = [] →
      p.blocked (.port lp) = none →
      Completes (.colonyRequest tgt m) s (fun t => ∃ f, t.part.fr p.nextFrame = some f ∧ f.dest = .port lp ∧ f.cls = 7 ∧ f.srcXp = 18 ∧
        f.pool = .mgmt)) ∧
    (∀ (a : Fin 6) x r f,
      let k := tqKey (Dest.agent a).at.1 (Dest.agent a).at.2 0
      p.queue k = x :: r → p.fr x.frame = some f →
      (a = 4 → f.kind = 1 ∧ p.cplRoom 2 = true ∧ f.dest = .agent 4 ∧ (f.body.tlp.map (fun m => m.kind)) = some .memRead) →
      Completes (.agentConsume a) s (fun t => t.part.queue k = r))) ∧
  (∀ (s : State) (c : Instr) (i why : Nat) (w : Waiting),
    let p := s.part
    let lp := w.req.target % 512
    (c = .trackResume i ∧ why = 1) ∨ (c = .ledgerSlotResume i ∧ why = 2) ∨ (c = .gateClear i ∧ why = 3) →
    p.waiting[i]? = some w → w.why = why ∨ w.why = 0 → behindWaiting w.req (p.waiting.take i) = false → Part.trackBlock { p with waiting := p.waiting.take i } w.req w.fence = 0 → p.cplWait = [] →
    w.fence = none → w.req.mc = none → w.req.target / 512 % 128 = p.chip → lp < 128 → p.blocked (.port lp) = none →
    Completes c s (fun t => t.part.waiting = p.waiting.eraseIdx i ∧
      ∃ f, t.part.fr p.nextFrame = some f ∧ f.dest = .port lp ∧ f.cls = w.req.cls ∧ f.acct = w.req.acct))

/-- R284 to R286: a fence read is held at the register target, and completes with its counts and clears them. -/
def Obligations.FencesHoldAndComplete : Prop :=
  ∀ (s : State),
    let p := s.part
    (∀ (q : Fin 128) (m : Tlp) off k,
      let d := p.getF (.port q) PORT.PORT_CTL.DOMAIN
      Quiet s → m.kind = .memRead → p.ideHeld q m.kind = false → p.md.mode ≠ .maintenance → p.md.mode ≠ .test → p.cf d 1 0x44 0 2 ≠ 3 →
      p.portSends q = true → p.role q = 1 → p.domHere d = true → p.domReset d = false →
      p.claim d m true none = .bar 0 off → p.cf d 1 0x04 1 1 = 1 → p.inFlr d = false → m.len = 4 ∨ m.len = 8 → off % m.len = 0 →
      fenceCode off = some k →
      Completes (.fenceRead q m) s (fun t => ∃ f, t.part.fences = [f] ∧ f.domain = d ∧ f.rid = m.rid ∧ f.tag = m.tag ∧ f.wait = [] ∧
        f.wide = (m.len == 8))) ∧
    (∀ i f, p.fences[i]? = some f → f.wait = [] → (∀ e ∈ p.fences.take i, ¬(e.domain = f.domain ∧ f.record ≠ none ∧ e.record = f.record)) →
      p.cplRoom 1 = true → p.blocked (.port (p.uport f.domain)) = none →
      Completes (.fenceComplete i) s (fun t => t.part.fences = p.fences.eraseIdx i ∧ (∀ k ∈ (p.fenceCount f).2, t.part.fc k = FailCnt.zero) ∧
        ∃ g m, t.part.fr p.nextFrame = some g ∧ g.dest = .port (p.uport f.domain) ∧ g.body = .local m ∧ m.kind = .cpl ∧ m.status = .sc ∧
          m.rid = f.rid ∧ m.tag = f.tag ∧ m.data = (List.range (if f.wide then 8 else 4)).map (fun k =>
            BitVec.ofNat 8 ((p.fenceValue f).toNat / 256 ^ k))))

/-! ### Crossbar planes, the shared buffer and egress -/

/-- R168, R180, R181, R184, R185, R440: a cell time passes and matches no more than the ramp limiter's cap; cells land; planes are lost, tested
and return. What a failed test leaves is the model's reading (log entry 52). -/
def Obligations.PlanesComeAndGo : Prop :=
  ∀ (s : State) (q : Fin 4),
    let p := s.part
    let pg := Page.xbp q
    Completes .matchPlane s (fun t => t.part.cellTime = p.cellTime + 1 ∧ t.part.flights.length ≤ p.flights.length + p.ffy.cap) ∧
    (∀ (result : Fin 4) x f port, result = 0 ∨ result = 3 → p.flights.find? (fun y => y.plane == q.val) = some x → p.fr x.frame = some f →
      f.abort = false → f.dest = .port port → (p.voq f.voq).head? = some x.frame → f.landed + 1 < f.cells.length →
      Completes (.landingAck q result) s (fun t => t.part.flights = p.flights.erase x ∧ t.part.fr x.frame = some { f with landed := f.landed + 1 })) ∧
    (∀ c cause, Idle s →
      (c = .planeWatchdog q ∧ cause = 3 ∧ max 16 (p.getF pg XBP.WD_CTL.CELLTIMES) ≤ Sparse.get p.starved 0 q ∧ p.planeState q = 3) ∨
      (∃ k : Fin 8, ∃ xp, c = .planeLost q k xp ∧ cause = k.val ∧ (k = 1 ∨ k = 2 ∨ k = 6) ∧ p.planeState q = 3) ∨
      (∃ req, c = .retire req q ∧ cause = 4 ∧ MayWrite s req pg 0x100) →
      Completes c s (fun t => t.part.planeState q = 4 ∧ t.part.getF pg XBP.PLANE_STAT.LOST_CAUSE = cause ∧
        t.part.bit pg XBP.PLANE_STAT.BIST_PASS = false ∧ nbit (t.part.getF .pwr PWR.UNIT_STAT.PLANE) q = false ∧
        (∀ x ∈ t.part.flights, x.plane ≠ q) ∧
        (p.planeState q = 3 → (∀ k : Fin 4, k ≠ q → p.planeOut k = false) → p.minimalSet = false → p.md.mode.isRole = true →
          t.part.md.mode = .degraded) ∧
        (p.planeState q = 3 → (∃ k : Fin 4, k ≠ q ∧ p.planeOut k = true) ∨ p.minimalSet = true → p.md.mode.isRole = true →
          t.part.md.mode = .fenced))) ∧
    (∀ req, MayWrite s req pg 0x100 → p.planeState q = 0 ∨ p.planeState q = 4 →
      Completes (.bistGo req q) s (fun t => t.part.planeState q = 1 ∧ t.part.bit pg XBP.PLANE_STAT.BIST_PASS = false)) ∧
    (p.planeState q = 1 → nbit (p.getF .pwr PWR.UNIT_STAT.PLANE) q = true →
      Completes (.bistEnd q false) s (fun t => t.part.planeState q = 0 ∧ t.part.bit pg XBP.PLANE_STAT.BIST_PASS = false ∧
        t.part.getF pg XBP.PLANE_STAT.LOST_CAUSE = 5 ∧ t.part.getF pg XBP.LOST_AT.D = p.cellTime % 2 ^ 32 ∧
        (t.part.rd (pg.base + 0x20)).getLsbD 4 = true ∧ (t.part.rd (pg.base + 0x20)).getLsbD 7 = true) ∧
      Completes (.bistEnd q true) s (fun t => t.part.bit pg XBP.PLANE_STAT.BIST_PASS = true ∧
        t.part.planeState q = (if q = 0 ∧ p.md.mode = .boot then 3 else 0))) ∧
    (∀ req, MayWrite s req pg 0x100 → p.bit pg XBP.PLANE_STAT.BIST_PASS = true → p.planeState q = 0 →
      Completes (.rejoin req q) s (fun t => t.part.planeState q = 2 ∧ t.part.joining = p.joining ++ [(q.val, p.cellTime + 16)])) ∧
    (∀ at_, at_ ≠ 0 → at_ ≤ p.cellTime → p.joining = [(q.val, at_)] →
      Completes .planeJoinApply s (fun t => t.part.planeState q = 3 ∧ t.part.joining = [(q.val, 0)]))

/-- R199, R202, R203, R209, R210, R213: credit and its backing, admission, ageing, stuck targets and the auditor. -/
def Obligations.BufferUpkeep : Prop :=
  ∀ (s : State),
    let p := s.part
    (∀ (q : Fin 128) (ty : Fin 3) (a : Fin 64) need, need ≠ 0 → need ≤ p.backingRoom q ty → p.bit (.port q) PORT.PORT_STAT.DL_UP = true →
      (p.portAccts q).contains a.val = true →
      (if ty = 2 then p.poolUsed .cpl + need ≤ p.getF .buf BUF.CPL_RSV.CELLS else p.occOf a + need ≤ p.minOf a) →
      Completes (.backingRequest q ty a need) s (fun t =>
        Sparse.get t.part.backing [] (q.val * 3 + ty.val) = Sparse.get p.backing [] (q.val * 3 + ty.val) ++ [Backing.mk (backPool ty a) need 0] ∧
        (ty ≠ 2 → t.part.occOf a = p.occOf a + need))) ∧
    (∀ (q : Fin 128) (ty : Fin 3) h d, p.bit (.port q) PORT.PORT_STAT.DL_UP = true → h + d ≠ 0 → 2 * h + (d + 15) / 16 ≤ p.freeBacking q ty →
      p.readFirst q ty = false → p.planeHeld (q / 8) = false →
      ty = 2 ∨ (p.heldAtTrack q ty = false ∧ p.role q ≠ 3 ∧ (p.polOf (polKey (q / 8) (p.getF (.port q) PORT.PORT_CTL.DOMAIN) 0)).1 = 0) →
      Completes (.creditAdvertise q ty h d) s (fun t => t.part.out = p.out ++ [.credit q ty h d] ∧
        Sparse.get t.part.backing [] (q.val * 3 + ty.val) = restOn (Sparse.get p.backing [] (q.val * 3 + ty.val)) (2 * h + (d + 15) / 16))) ∧
    (∀ (tgt : BitVec 16) cls (a : Fin 64) (n : Fin 16) (m : Tlp),
      let lp := tgt.toNat % 512
      tgt.toNat / 512 % 128 = p.chip → lp < 128 → p.blocked (.port lp) = none → (p.polOf (polKey n a 1)).1 = 0 →
      p.poolCells .shared + cellsOf m.bytes ≤ p.getF .buf BUF.DROP_MAX.CELLS → cellsOf m.bytes ≤ p.sharedFree →
      Completes (.droppableAdmit tgt cls a n m) s (fun t => ∃ f, t.part.fr p.nextFrame = some f ∧ f.kind = 3 ∧ f.dest = .port lp ∧ f.cls = cls ∧
        f.pool = .shared ∧ f.body = .local m)) ∧
    (∀ i f, p.fr i = some f → f.kind = 3 → p.headsVoq i f = true → max 1 (p.getF .buf BUF.AGE_CTL.DROP_US) * 1000 < p.age f.ts →
      (p.flights = [] → p.link.all (fun e => e.2.txOpen.all (fun y => y.2.1 != i)) = true → f.finishes = false →
        Completes (.ageDrop i) s (fun t => t.part.fr i = none ∧ i ∉ t.part.voq f.voq)) ∧
      (f.finishes = true → Completes (.ageDrop i) s (fun t => ∃ g, t.part.fr i = some g ∧ g.nulled = true ∧ g.cells = f.cells ∧
        g.matched = f.matched ∧ g.slot = none ∧ g.ort = none))) ∧
    (∀ i f (q : Fin 128), p.fr i = some f → f.dest = .port q → f.kind ≠ 3 → p.headsVoq i f = true → p.llNs < p.age f.ts →
      p.bit (.port q) PORT.CONT_STAT.ACTIVE = false →
      Completes (.stuckDeclaration i) s (fun t => t.part.bit (.port q) PORT.CONT_STAT.ACTIVE = true ∧
        t.part.getF (.port q) PORT.CONT_STAT.CAUSE = 4 ∧ t.part.bit .buf BUF.STUCK_STAT.NEW = true ∧
        t.part.getF .buf BUF.STUCK_STAT.XP = q / 8 ∧ t.part.getF .buf BUF.STUCK_STAT.SUB = q % 8)) ∧
    (∀ d : Fin 2, Sparse.get p.audit 0 32 = 16 + d.val + 1 →
      Completes .auditRound s (fun t => t.part.bit .buf BUF.AUD_STAT.VIOL = true ∧ t.part.getF .buf BUF.AUD_STAT.IDENT = 8 ∧
        t.part.getF .buf BUF.AUD_STAT.XP = 16 + d ∧ Sparse.get t.part.audit 0 32 = 0))

/-- R224, R226, R228: a queue that its shaper lets send is chosen, however small its quantum; the refill takes the written settings into force
and adds their rate up to the effective burst. The credit of the device is an operand (log entry 32). -/
def Obligations.EgressSchedules : Prop :=
  ∀ (s : State) (n : Fin 16) (sub : Fin 10) (c : Fin 8),
    let p := s.part
    let k := queueKey n sub c
    (∀ (fc : Fin 8) x f m, sub.val < 8 → p.portSends (8 * n + sub) = true → (∀ c' : Fin 8, c' ≠ c → p.queue (queueKey n sub c') = []) →
      p.queue k = [x] → p.fr x.frame = some f → f.body = .local m → m.kind = .cpl → f.win = none → f.mirror = false →
      nbit fc 2 = true → p.ideHeld (8 * n + sub) .cpl = false → p.bit .ant ANT.CTL.EN = false →
      250 * (m.bytes + p.getF (.sch n) (SCH.PORT_CFG.OVH.ix sub)) ≤ p.shpTok k →
      Completes (.schedulerChoose n sub fc) s (fun t => t.part.out = p.out ++ [.tlp (8 * n + sub) m] ∧ t.part.queue k = [])) ∧
    Completes .shaperRefill s (fun t =>
      let rate := rateOf (p.getF (.sch n) (SCH.SHP_CFG.RATE.ix2 sub c))
      t.part.shpOf k = (rate, p.getF (.sch n) (SCH.SHP_CFG.BURST.ix2 sub c)) ∧
      t.part.shpTok k = (if rate = 0 then 250 * t.part.shpEff k else min (250 * t.part.shpEff k) (p.shpTok k + rate)))

/-! ### Tables and port roles -/

/-- R77, R266, R406, R408, R486, R522: An access to a table answers its RESULT in the order of R522; an accepted write or invalidate changes the
entry; a port takes its role and its record. An access is one command (log entry 36). A PORT_CTL write by Chitin, or by Colony past the
Guarded Write Port, gives the port its role and binds its record. -/
def Obligations.TablesAndPortRoles : Prop :=
  (∀ (s : State) (req : Requester) (w : Nat), req.window = some w → MayWrite s req .tbl (0x100 + 0x80 * w) →
    let p := s.part
    let t_ := p.getF .tbl (TBL.ACC_CTL.TABLE.ix w)
    let i := p.getF .tbl (TBL.ACC_CTL.INDEX.ix w)
    let res := fun (t : State) => t.part.getF .tbl (TBL.ACC_STAT.RESULT.ix w)
    (∀ c ∈ [Instr.tblRead req, .tblWrite req, .tblInvalidate req, .tblOpReserved req],
      (7 ≤ t_ → Completes c s (fun t => res t = 2 ∧ t.part.tables = p.tables)) ∧
      (t_ < 7 → tblCount t_ ≤ i → Completes c s (fun t => res t = 1 ∧ t.part.tables = p.tables))) ∧
    (t_ < 7 → i < tblCount t_ →
      Completes (.tblRead req) s (fun t => res t = 0 ∧ t.part.tables = p.tables ∧
        ∀ k < 16, t.part.getF .tbl (TBL.ACC_DATA.DATA.ix2 w k) = ((p.entry t_ i).getD k 0).toNat) ∧
      Completes (.tblOpReserved req) s (fun t => res t = 3 ∧ t.part.tables = p.tables) ∧
      (1 ≤ t_ → t_ ≤ 3 → p.tblRule s.trust t_ i (p.accData w t_) = 0 → w = 1 ∨ p.guardOk s.trust t_ i (p.accData w t_) = true →
        Completes (.tblWrite req) s (fun t => res t = 0 ∧ t.part.entry t_ i = p.accData w t_)) ∧
      (1 ≤ t_ → t_ ≤ 3 → p.tblRule s.trust t_ i (p.accData w t_) ≠ 0 →
        Completes (.tblWrite req) s (fun t => res t = p.tblRule s.trust t_ i (p.accData w t_) ∧ t.part.tables = p.tables)) ∧
      (1 ≤ t_ → t_ ≤ 3 → Completes (.tblInvalidate req) s (fun t => res t = 0 ∧ t.part.entry t_ i = entryOff t_ (p.entry t_ i))))) ∧
  (∀ (s : State) (req : Requester) (port : Fin 128) (w : Word),
    let p := s.part
    let role := PORT.PORT_CTL.ROLE.of w
    let d := PORT.PORT_CTL.DOMAIN.of w
    p.role port ≠ 1 → Submits s req (.port port) → req = .chitin ∨ p.guardPort s.trust port role d = true →
    Completes (.portCtlWrite req port w) s (fun t => t.part.role port = role ∧ t.part.getF (.port port) PORT.PORT_CTL.DOMAIN = d ∧
      t.part.getF (.port port) PORT.PORT_CTL.VB = PORT.PORT_CTL.VB.of w ∧
      (role = 1 ∨ role = 2 → t.trust.ownOf (.port port) = some (.owned d))))

/-! ### Cocoon flows -/

/-- R301, R308, R310, R311, R312, R313, R314, R315, R316: An arrived cell goes to its resequencer, which releases it in order, discards it
behind what it expects, and gives up a hole. Probes open, advance and resume flows, and idle flows retire. -/
def Obligations.CocoonFlows : Prop :=
  (∀ (s : State),
    let p := s.part
    (∀ (l : Fin 32) a r h i x, (p.lk l).arrived = a :: r → a.hdr.cfirst = true → a.hdr.clast = true → a.hdr.vc ≠ 6 → a.load = .cell (some (.unit h i)) →
      a.cell = some x → i.sequenced = true → h.mcf = false → h.dst / 512 % 128 = p.chip → badUnit h = false →
      Completes (.cocoonUnitReceive l) s (fun t => (t.part.lk l).arrived = r ∧
        Sparse.get t.part.rsqIn [] (p.flowXp h l) = Sparse.get p.rsqIn [] (p.flowXp h l) ++
          [RsqCell.mk (h.fseq % 2 ^ 24) x 0 (.unit h i) true l a.hdr.vc])) ∧
    (∀ (xp : Fin 20) c r h i,
      let e := p.rxf h.flow
      Sparse.get p.rsqIn [] xp.val = c :: r → c.unit = .unit h i → e.state = .synced → e.held = [] → e.early = [] → e.voided = [] → e.rel = [] →
      (c.seq = e.expected → c.last = false → e.expected < 2 ^ 24 →
        Completes (.rsqCell xp) s (fun t => Sparse.get t.part.rsqIn [] xp.val = r ∧
          t.part.rxf h.flow = { e with expected := (e.expected + 1) % 2 ^ 24, rel := [c], last := p.now, holeAt := none })) ∧
      (2 ^ 23 ≤ seqDist c.seq e.expected → Completes (.rsqCell xp) s (fun t => Sparse.get t.part.rsqIn [] xp.val = r ∧
        t.part.rxf h.flow = { e with last := p.now }))) ∧
    (∀ (src dst : BitVec 16) (g : BitVec 12) (cls : Fin 8) c0 h i,
      let k := flowKey src.toNat dst.toNat g.toNat cls
      (p.rxf k).holeAt ≠ none → ((p.rxf k).rel ++ (p.rxf k).held).head? = some c0 → c0.unit = .unit h i → h.flow = k →
      Completes (.holeTimeout src dst g cls) s (fun t =>
        t.part.rxf k = { RxFlow.empty with state := .stale, expected := (p.rxf k).expected, last := p.now })) ∧
    (∀ (xp : Fin 20) k e, p.rxFlow = [(k, e)] → e ≠ RxFlow.empty → 4096 ≤ p.rsqHeld xp → e.holeAt ≠ none →
      (∀ c ∈ e.rel ++ e.held, ∃ h i, c.unit = .unit h i ∧ h.flow = k) →
      Completes (.holdCap xp) s (fun t => t.part.rxf k = { RxFlow.empty with state := .stale, expected := e.expected, last := p.now }))) ∧
  (∀ (s : State),
    let p := s.part
    (∀ h, p.rxf h.flow = RxFlow.empty → p.rxUsed < 32768 →
      Completes (.probeOpen h) s (fun t => t.part.rxf h.flow = { RxFlow.empty with state := .synced, expected := h.fseq, last := p.now })) ∧
    (∀ h (n : BitVec 16),
      let e := p.rxf h.flow
      n ≠ 0 → e.state = .synced → e.held = [] → e.early = [] → e.voided = [] → e.rel = [] → e.expected = h.fseq →
      Completes (.probeVoid h n) s (fun t => t.part.rxf h.flow = { e with expected := (h.fseq + n.toNat) % 2 ^ 24, last := p.now, holeAt := none })) ∧
    (∀ (l : Fin 32) (vc : Fin 8) h ix,
      (p.resumed h = none → Completes (.probeResume l vc h ix) s (fun t =>
        t.part.ctx l (vc + 8) = some (RxCtx.mk (.unit h (.probe 3 ix 0)) 0 [] true) ∧ (t.part.rd (Page.ccn.base + 0x20)).getLsbD 4 = true)) ∧
      (∀ c u j, p.resumed h = some c → c.unit = .unit u j →
        Completes (.probeResume l vc h ix) s (fun t => t.part.ctx l (vc + 8) = some { c with next := seqDist h.fseq u.fseq }))) ∧
    (∀ (src dst : BitVec 16) (g : BitVec 12) (cls : Fin 8),
      let k := flowKey src.toNat dst.toNat g.toNat cls
      (p.flowBusy k = false → Completes (.sendFlowRetire src dst g cls) s (fun t => (t.part.txf k).used = false)) ∧
      ((p.rxf k).state = .synced → (p.rxf k).held = [] → (p.rxf k).rel = [] →
        Completes (.rxFlowStale src dst g cls) s (fun t => t.part.rxf k = { p.rxf k with state := .stale })) ∧
      ((p.rxf k).state = .stale → Completes (.rxFlowRetire src dst g cls) s (fun t => t.part.rxf k = RxFlow.empty))))

/-! ### Containment, memories and capture -/

/-- R340, R341, R343: how port containment begins, by each of its causes, and how it ends. -/
def Obligations.PortContainmentLife : Prop :=
  ∀ (s : State) (q : Fin 128),
    let p := s.part
    let pg := Page.port q
    let cut := fun (cause : Nat) (t : State) => t.part.bit pg PORT.CONT_STAT.ACTIVE = true ∧ t.part.bit pg PORT.CONT_STAT.DONE = true ∧
      t.part.getF pg PORT.CONT_STAT.CAUSE = cause ∧ t.part.bit pg PORT.PORT_STAT.DL_UP = false
    (p.bit pg PORT.CONT_STAT.ACTIVE = false →
      (p.bit pg PORT.PORT_STAT.DL_UP = true → p.role q ≠ 1 → Completes (.pcieLinkDown q) s (fun t => t.part.bit pg PORT.CONT_CTL.EXPECT_DOWN = false ∧
        cut (if p.bit pg PORT.CONT_CTL.EXPECT_DOWN = true then 1 else if (p.pt q).selfDown = true then 8 else 2) t)) ∧
      (∀ cause : Fin 9, cause ≠ 0 → Completes (.portContainment q cause) s (cut cause)) ∧
      (∀ req, MayWrite s req pg 0x110 → Completes (.containmentForce req q) s (cut 6))) ∧
    (∀ req, MayWrite s req pg 0x110 → Completes (.expectDown req q) s (fun t => t.part.bit pg PORT.CONT_CTL.EXPECT_DOWN = true)) ∧
    (∀ c, p.bit pg PORT.CONT_STAT.ACTIVE = true → p.bit pg PORT.CONT_STAT.DONE = true → p.bit pg PORT.CONT_STAT.HOST_HOLD = false →
      (∃ req, c = .containmentRelease req q ∧ MayWrite s req pg 0x110 ∧ p.getF pg PORT.CONT_STAT.CAUSE ≠ 8) ∨
      (c = .containmentAutoRelease q ∧ p.bit pg PORT.PORT_STAT.DL_UP = true ∧
        (p.bit pg PORT.CONT_CTL.AUTO_REL = true ∨ p.getF pg PORT.CONT_STAT.CAUSE = 8)) →
      Completes c s (fun t => t.part.bit pg PORT.CONT_STAT.ACTIVE = false ∧ t.part.bit pg PORT.CONT_STAT.DONE = false))

/-- R351 to R354: the scrubber records what it finds, an uncorrectable table entry becomes invalid, and rows are repaired while spares last. Row
and sub-array are operands (log entry 66). -/
def Obligations.ScrubAndRepair : Prop :=
  ∀ (s : State) (mem : Fin 6) (addr ix : Nat),
    let p := s.part
    p.md.mode.rails = true →
    (∀ (what : Fin 13) pg b, eccBit mem what = some (pg, b) → Completes (.patrolScrub mem addr 1 what ix) s (fun t =>
      t.part.getF .glb GLB.ECC_LAST.MEM = mem ∧ t.part.bit .glb GLB.ECC_LAST.UE = false ∧ t.part.getF .glb GLB.ECC_LAST.ADDR = addr % 2 ^ 24 ∧
        (t.part.rd (pg.base + 0x20)).getLsbD b = true)) ∧
    (∀ what : Fin 13, 5 ≤ what.val → what.val ≤ 8 → Completes (.patrolScrub mem addr 2 what ix) s (fun t =>
      t.part.bit .glb GLB.ECC_LAST.UE = true ∧ (t.part.tw (what - 5) ix 0).getLsbD 0 = false)) ∧
    (∀ arr,
      let used := Sparse.get p.spare 0 (arr * 8 + mem.val)
      used < 4 → Idle s →
      Completes (.rowRepair mem arr addr) s (fun t => Sparse.get t.part.spare 0 (arr * 8 + mem.val) = used + 1 ∧
        (used = 3 → p.md.mode.isRole = true → t.part.md.mode = .degraded)))

/-- R469, R472: capture starts and stops, and a trigger pin starts a capture in wait. -/
def Obligations.CaptureStartsAndTriggers : Prop :=
  ∀ (s : State),
    let p := s.part
    (∀ req, MayWrite s req .ant 0x100 →
      (p.bit .pwr PWR.UNIT_STAT.ANT = true → p.bit .ant ANT.CTL.MODE = false →
        Completes (.captureEnable req true) s (fun t => t.part.bit .ant ANT.CTL.EN = true ∧ t.part.bit .ant ANT.STAT.TRIGGERED = false ∧
          t.part.bit .ant ANT.STAT.RUNNING = (p.getF .ant ANT.CTL.TRIG_MODE != 1))) ∧
      (p.bit .pwr PWR.UNIT_STAT.ANT = false →
        Completes (.captureEnable req true) s (fun t => t.part.bit .ant ANT.CTL.EN = p.bit .ant ANT.CTL.EN ∧ t.part.bit .ant ANT.STAT.CFG_REJ = true)) ∧
      Completes (.captureEnable req false) s (fun t => t.part.bit .ant ANT.CTL.EN = false ∧ t.part.bit .ant ANT.STAT.RUNNING = false)) ∧
    (∀ pin : Fin 16, p.md.mode.core = true → p.pinOwner pin = 3 → (∀ j : Fin 16, j < pin → p.pinOwner j ≠ 3) →
      p.bit .pwr PWR.UNIT_STAT.ANT = true → p.bit .ant ANT.CTL.EN = true → p.bit .ant ANT.STAT.TRIGGERED = false → p.getF .ant ANT.CTL.TRIG_MODE = 1 →
      Completes (.antTrigger pin) s (fun t => t.part.bit .ant ANT.STAT.TRIGGERED = true ∧ t.part.bit .ant ANT.STAT.RUNNING = true ∧
        t.part.ant.trig = true))

/-! ### Pins and serial buses -/

/-- R489, R490, R491: GPIO pins and the slot signals. Which bits a refused write leaves is the model's reading (log entry 46). I3C commands,
in-band interrupts and MCTP messages. -/
def Obligations.PinsAndSerialBuses : Prop :=
  (∀ (s : State),
    let p := s.part
    (∀ req (w : Word) (k : Fin 16),
      (MayWrite s req .gpio 0x108 → Completes (.gpioWrite req 0 w) s (fun t => nbit (t.part.getF .gpio GPIO.DIR.DIR) k =
        (if p.pinOwner k = 0 then w.getLsbD k else nbit (p.getF .gpio GPIO.DIR.DIR) k))) ∧
      (MayWrite s req .gpio 0x10C → Completes (.gpioWrite req 1 w) s (fun t => nbit (t.part.getF .gpio GPIO.OUT.OUT) k =
        (if p.pinOwner k = 0 then w.getLsbD k else nbit (p.getF .gpio GPIO.OUT.OUT) k))) ∧
      (MayWrite s req .gpio 0x114 → Completes (.gpioWrite req 2 w) s (fun t => t.part.getF .gpio GPIO.EDGE.EDGE / 4 ^ k.val % 4 =
        (if p.pinOwner k = 0 then w.toNat / 4 ^ k.val % 4 else p.getF .gpio GPIO.EDGE.EDGE / 4 ^ k.val % 4))) ∧
      (MayWrite s req .i3c 0x11C → p.pinOwner k = 2 → Completes (.slotEnWrite req w) s (fun t =>
        nbit (t.part.getF .i3c I3C.SLOT_EN.EN) k = w.getLsbD k))) ∧
    (∀ (pin : Fin 16) high, nbit (p.getF .gpio GPIO.IN.IN) pin = !high → p.md.mode ≠ .off →
      p.pinOwner pin ≠ 0 ∨ nbit (p.getF .gpio GPIO.DIR.DIR) pin = false →
      Completes (.gpioEdge pin high) s (fun t => nbit (t.part.getF .gpio GPIO.IN.IN) pin = high ∧
        (p.pinOwner pin = 0 → nbit (p.getF .gpio GPIO.EDGE.EDGE) (2 * pin + (if high then 0 else 1)) = true →
          (t.part.rd (Page.gpio.base + 0x10)).getLsbD pin = true))) ∧
    (∀ pin : Fin 16, p.pinOwner pin = 2 → nbit (p.getF .gpio GPIO.IN.IN) pin = true → p.md.mode.core = true → p.md.colonyUp = true →
      nbit (p.getF .i3c I3C.SLOT_EN.EN) pin = true →
      Completes (.slotInt pin) s (fun t => nbit (t.part.getF .i3c I3C.SLOT_STAT.LOW) pin = true ∧
        (t.part.rd (Page.i3c.base + 0x10)).getLsbD 4 = true))) ∧
  (∀ (s : State),
    let p := s.part
    let irq := fun (t : State) (k : Nat) => (t.part.rd (Page.i3c.base + 0x10)).getLsbD k = true
    (∀ req (w : Word), MayWrite s req .i3c 0x110 → p.bit .i3c I3C.C0_STAT.BUSY = false → p.bit .i3c I3C.CTL.C0_EN = true →
      1 ≤ I3C.C0_CMD.LEN.of w → I3C.C0_CMD.LEN.of w ≤ 256 →
      Completes (.i3cCommand req w) s (fun t => t.part.bit .i3c I3C.C0_STAT.BUSY = true ∧
        t.part.out = p.out ++ [.i3c (I3C.C0_CMD.ADDR.of w) (I3C.C0_CMD.RNW.of w == 1) (I3C.C0_CMD.LEN.of w)])) ∧
    (∀ (result : Fin 4) data, p.bit .i3c I3C.C0_STAT.BUSY = true →
      Completes (.i3cCommandDone result data) s (fun t => t.part.bit .i3c I3C.C0_STAT.BUSY = false ∧
        t.part.getF .i3c I3C.C0_STAT.RESULT = result ∧ irq t 0)) ∧
    (∀ (addr : Fin 128) mdb, p.bit .i3c I3C.CTL.C0_EN = true → p.md.mode.core = true → p.ibi.length < 16 →
      Completes (.ibiReceive addr mdb) s (fun t => t.part.ibi = p.ibi ++ [(addr.val, mdb.toNat)] ∧ irq t 1)) ∧
    (∀ (src : Byte) bytes eid,
      let type := (bytes.headD 0).toNat % 128
      p.bit .i3c I3C.CTL.T1_EN = true → p.md.mode.core = true → type ≠ 0 → type ≠ 5 → type ≠ 0x7E → p.bit .i3c I3C.MRX_STAT.AVAIL = false →
      p.md.colonyUp = true → bytes.length ≤ 1024 →
      Completes (.mctpReceive 1 src bytes eid) s (fun t => t.part.bit .i3c I3C.MRX_STAT.AVAIL = true ∧
        t.part.getF .i3c I3C.MRX_STAT.LEN = bytes.length ∧ t.part.getF .i3c I3C.MRX_STAT.BUS = 1 ∧
        t.part.getF .i3c I3C.MRX_STAT.SRC_EID = src.toNat ∧ t.part.getBuf .i3c 0x800 bytes.length = bytes ∧ irq t 2)) ∧
    (∀ req, MayWrite s req .i3c 0x120 → Completes (.mrxPop req) s (fun t => t.part.bit .i3c I3C.MRX_STAT.AVAIL = false)) ∧
    (∀ req (w : Word), MayWrite s req .i3c 0x124 → p.bit .i3c I3C.MTX_CTL.BUSY = false → 1 ≤ I3C.MTX_CTL.LEN.of w → I3C.MTX_CTL.LEN.of w ≤ 1024 →
      Completes (.mtxGo req w) s (fun t => t.part.bit .i3c I3C.MTX_CTL.BUSY = true ∧ t.part.out = p.out ++
        [.mctp (I3C.MTX_CTL.BUS.of w) (I3C.MTX_CTL.DST_EID.of w) (p.getBuf .i3c 0xC00 (I3C.MTX_CTL.LEN.of w))])) ∧
    (p.bit .i3c I3C.MTX_CTL.BUSY = true → Completes .mtxDone s (fun t => t.part.bit .i3c I3C.MTX_CTL.BUSY = false ∧ irq t 3)))

/-- R383, R493: flash operations are started and refused, and what they leave in the flash. What an erase leaves and how a program combines are
presumed (log entry 6). -/
def Obligations.FlashOperations : Prop :=
  ∀ (s : State),
    let p := s.part
    let a := p.getF .spi SPI.ADDR.ADDR
    let owner := fun (req : Requester) => req = (if p.bit .spi SPI.OWNER.COLONY = true then .colony else .chitin)
    let goes := fun (c : Instr) (req : Requester) (op len : Nat) => (op = 0 ∨ req = .chitin ∨ 0x1000000 ≤ a →
        Completes c s (fun t => t.part.spi = some (SpiOp.mk req op a len) ∧ t.part.bit .spi SPI.STAT.BUSY = true)) ∧
      (op ≠ 0 → req = .colony → a < 0x1000000 → Completes c s (fun t => t.part.spi = none ∧ t.part.getF .spi SPI.STAT.RESULT = 1))
    (∀ req (len : Fin 512), MayWrite s req .spi 0x108 → p.srstBusy .spi = false → p.spi = none → owner req →
      (1 ≤ len.val → len.val ≤ 256 → goes (.spiRead req len) req 0 len) ∧
      (1 ≤ len.val → a % 256 + len.val ≤ 256 → goes (.spiProgram req len) req 1 len) ∧
      (a % 4096 = 0 → goes (.erase4k req) req 2 0) ∧
      (a % 65536 = 0 → goes (.erase64k req) req 3 0)) ∧
    (∀ x ok, p.spi = some x → Completes (.spiDone ok) s (fun t => t.part.spi = none ∧ t.part.bit .spi SPI.STAT.BUSY = false ∧
      t.part.getF .spi SPI.STAT.RESULT = (if ok then 0 else 3) ∧
      (∀ b, b < x.addr ∨ x.addr + spiSize x.op x.len ≤ b → Sparse.get t.part.flash 0xFF b = Sparse.get p.flash 0xFF b) ∧
      (x.op = 0 → t.part.flash = p.flash ∧ (x.len ≤ 256 → t.part.getBuf .spi 0x400 x.len =
        (List.range x.len).map (fun k => Sparse.get p.flash 0xFF ((x.addr + k) % 2 ^ 26)))) ∧
      (ok = true → ∀ b, x.addr ≤ b → b < x.addr + spiSize x.op x.len →
        (x.op = 1 → x.len ≤ 256 → Sparse.get t.part.flash 0xFF b =
          Sparse.get p.flash 0xFF b &&& (p.getBuf .spi 0x400 256).getD (b - x.addr) 0xFF) ∧
        (x.op = 2 ∨ x.op = 3 → Sparse.get t.part.flash 0xFF b = 0xFF))))

/-! ### Steps, ticks, reset and invariants -/

/-- With commands waiting, a step runs the one at the front, the rest left in the queue. -/
def Obligations.StepTakesFront : Prop :=
  ∀ (c : Instr) (r : List Instr) (s : State), step { s with pending := c :: r } = exec c { s with pending := r }

/-- With no command waiting, a nanosecond passes: the model's choice (log entry 4). Fabric time follows R326 and R327: 256 steps a nanosecond,
and while an offset is left one step more or fewer every 40 ns. -/
def Obligations.EmptyQueueTicks : Prop :=
  ∀ (s : State), s.pending = [] →
    let p := s.part
    ∃ t, step s = .next t ∧ t.pending = [] ∧ t.otp = s.otp ∧ t.trust = s.trust ∧ t.part.now = p.now + 1 ∧ t.part.md = p.md ∧
      t.part.ffy = { p.ffy with idleSince := t.part.ffy.idleSince } ∧ (p.md.mode ≠ .transparent → t.part.ffy = p.ffy) ∧ t.part.flash = p.flash ∧
      (p.md.mode.core = false → t.part = { p with now := p.now + 1 }) ∧
      (p.md.mode.core = true →
        (p.slew = 0 ∨ p.now % 40 ≠ 0 → t.part.ftime = p.ftime + 256 ∧ t.part.slew = p.slew) ∧
        (0 < p.slew → p.now % 40 = 0 → t.part.ftime = p.ftime + 257 ∧ t.part.slew = p.slew - 1) ∧
        (p.slew < 0 → p.now % 40 = 0 → t.part.ftime = p.ftime + 255 ∧ t.part.slew = p.slew + 1))

/-- R21, R171, R200, R455, R479 and the reset columns of the register tables: values the manual gives after reset. The blank OTP is the model's
choice (log entry 2). -/
def Obligations.ResetHolds : Prop :=
  let s := State.reset
  let p := s.part
  s.pending = [] ∧ p.md.mode = .boot ∧ p.md.role = none ∧ OtpForm s ∧ SessionsBounded s ∧ FlashForm s ∧ RoleForm s ∧
  (∀ pg ∈ [Page.glb, .pwr, .clk, .ffy, .otpv, .gpio, .i3c, .spi, .mbx, .port 0, .port 127, .smw 0, .smw 31, .serdes 15, .sch 15, .xbp 3, .buf,
      .fab, .ccn, .ord, .tbl, .drn 1, .tel, .ant, .cfn 63, .cfmb 63, .ordv 63, .telv 63 1, .drc 63 255],
    p.getF pg HDR.CNT_CTL.EN = 0xFF ∧ p.bit pg HDR.PAGE_CTL.LOCK = false ∧ p.rd (pg.base + 0x14) = 0) ∧
  (∀ n < 16, p.bit .glb (GLB.STN_CFG.EN.ix n) = false ∧ p.bit .glb (GLB.STN_STAT.POWERED.ix n) = false) ∧
  (∀ l < 32, p.linkState l = 0) ∧ (∀ q < 4, p.planeState q = 0) ∧ p.cellTime = 0 ∧
  (∀ x, Sparse.get p.arbA 0 x = 0 ∧ Sparse.get p.arbG 0 x = 0) ∧
  p.getF .spi SPI.CTL.DIV = 0x27 ∧ p.bit .spi SPI.OWNER.COLONY = false ∧
  p.getF (.drc 63 255) DRC.CH_STAT.STATE = 0 ∧ s.trust.sessions = []

/-- Every step from a state in form answers a next state in form: the OTP array and the flash keep their canonical form, Chitin never holds more
than 128 sessions (R394), and no OTP bit that is 1 becomes 0 (R389). -/
def Obligations.InvariantKept : Prop :=
  ∀ (s : State), OtpForm s → SessionsBounded s → FlashForm s →
    ∃ t, step s = .next t ∧ OtpForm t ∧ SessionsBounded t ∧ FlashForm t ∧ OtpGrows s.otp t.otp

/-! ### Frames -/

/-- What no command changes: the queue and the time; OTP, Chitin's records and the flash change only under the commands that the named lists
hold (R389, R406, R383). -/
def Obligations.FrameOfEveryCommand : Prop :=
  ∀ (c : Instr) (s t : State), exec c s = .next t →
    t.pending = s.pending ∧ t.part.now = s.part.now ∧ (programsOtp c = false → t.otp = s.otp) ∧
    (changesTrust c = false → t.trust = s.trust) ∧ (writesFlash c = false → t.part.flash = s.part.flash)

/-- Commands about register pages, pins, Firefly and firmware change no other piece of the part than `registerPieces` names. -/
def Obligations.FrameOfRegisterCommands : Prop :=
  ∀ (c : Instr) (ks : List Piece) (s t : State), registerPieces c = some ks → exec c s = .next t →
    ∀ k : Piece, k ∉ ks → k.same s.part t.part

/-- Commands about links and ports, flows and fabric time change no other piece of the part than `linkPieces` names. -/
def Obligations.FrameOfLinkCommands : Prop :=
  ∀ (c : Instr) (ks : List Piece) (s t : State), linkPieces c = some ks → exec c s = .next t →
    ∀ k : Piece, k ∉ ks → k.same s.part t.part

/-- Commands about requests, frames, cells and outcomes change no other piece of the part than `trafficPieces` names. -/
def Obligations.FrameOfTrafficCommands : Prop :=
  ∀ (c : Instr) (ks : List Piece) (s t : State), trafficPieces c = some ks → exec c s = .next t →
    ∀ k : Piece, k ∉ ks → k.same s.part t.part

/-- Commands about domains, Drone, tables, ownership and containment change no other piece of the part than `hostPieces` names. -/
def Obligations.FrameOfHostCommands : Prop :=
  ∀ (c : Instr) (ks : List Piece) (s t : State), hostPieces c = some ks → exec c s = .next t →
    ∀ k : Piece, k ∉ ks → k.same s.part t.part

/-- While no transition is in progress and none waits, faults and mode changes that reset nothing change no other piece of the part than
`idlePieces` names. -/
def Obligations.FrameOfModeChanges : Prop :=
  ∀ (c : Instr) (ks : List Piece) (s t : State), Idle s → idlePieces c = some ks → exec c s = .next t →
    ∀ k : Piece, k ∉ ks → k.same s.part t.part

/-- Register words: a command about one page leaves every word outside that page as it was, but for GLB and TEL, which count accesses and errors
(R455, R483). No earlier register write of the requester is on its way, which a command at a page settles first (R16; log entry 77), a station
keeps its EN, and a block has a valid sync header. -/
def Obligations.FrameOfPages : Prop :=
  ∀ (s t : State) (req : Requester) (w : Word) (d : Fin 64) (n k : Fin 16) (l : Fin 32) (q : Fin 128) (plane : Fin 4) (b : Block) (lane : Fin 8) (c : Instr) (pages : List Page),
    (∀ pg : Page, s.part.nonePosted req pg.base = true ∧ s.part.nonePosted (.cf d) pg.base = true) → w.getLsbD 2 = s.part.stnEn n →
    b.hdr = 1 ∨ b.hdr = 2 → (c, pages) ∈ ([
      (.mrxPop req, [.i3c]), (.mtxDone, [.i3c]), (.mtxGo req w, [.i3c]), (.i3cCommand req w, [.i3c]),
      (.gpioWrite req 0 w, [.gpio, .i3c]), (.gpioWrite req 1 w, [.gpio, .i3c]), (.gpioWrite req 2 w, [.gpio, .i3c]),
      (.slotEnWrite req w, [.gpio, .i3c]), (.slotInt k, [.gpio, .i3c]), (.gpioEdge k true, [.gpio, .i3c]), (.gpioEdge k false, [.gpio, .i3c]),
      (.tripClear req, [.ffy]), (.clearFault 0xA5, [.ffy]), (.fireflyRestart, [.ffy]), (.timeHoldover, [.fab]),
      (.stationConfigWrite req n w, []), (.perstMapWrite req k w, [.ffy]), (.snap req, [.buf]), (.recordLatch req w, [.ant]),
      (.journalLatch d w, [.ordv d]), (.expectDown req q, [.port q]), (.rxControlBlock l lane b, [.serdes (l / 2)]),
      (.bistEnd plane true, [.xbp plane]), (.bistEnd plane false, [.xbp plane])] : List (Instr × List Page)) →
    exec c s = .next t → ∀ a, Elsewhere pages a → t.part.rd a = s.part.rd a

/-! ### Rules stated whole -/

/-- R460. -/
def Obligations.HistogramBins : Prop :=
  (∀ t, histBin t < 32 ∧ (t < 16 → histBin t = 0) ∧ (16 ≤ t → histBin t = min 31 (Nat.log2 (t / 16) + 1)) ∧
    (∀ k, 1 ≤ k → k ≤ 30 → (histBin t = k ↔ 16 * 2 ^ (k - 1) ≤ t ∧ t < 16 * 2 ^ k)) ∧ (histBin t = 31 ↔ 16 * 2 ^ 30 ≤ t)) ∧
  (∀ (p : Part) (kind port cls t : Nat), p.bit .tel TEL.HIST_CTL.EN = true → ∀ b < 32,
    Sparse.get (p.samplePort kind port cls t).hist 0 (histKey kind port cls b) =
      (if b = histBin t then binAdd (Sparse.get p.hist 0 (histKey kind port cls b)) else Sparse.get p.hist 0 (histKey kind port cls b)))

/-- R421: RESULT codes are 0 OK, 2 BAD_OPCODE, 3 BAD_LEN, 4 DENIED, 7 FAILED (CFMB.MB_STAT). -/
def Obligations.ColonyResponses : Prop :=
  ∀ (s : State) (w : Word), MayWrite s .colony .mbx 0x110 →
    let p := s.part
    let d := p.getF .mbx MBX.SEL.DOMAIN
    let r := MBX.RSP.RESULT.of w
    let meets := p.mbPending d = true ∧ MBX.RSP.SEQ.of w = p.getF (.cfmb d) CFMB.MB_STAT.SEQ
    (meets → Completes (.colonyResponse w) s (fun t => t.part.getF (.cfmb d) CFMB.MB_STAT.STATE = 2 ∧
      t.part.getF (.cfmb d) CFMB.MB_STAT.RESULT = (if r ∈ [0, 2, 3, 4, 7] then r else 7))) ∧
    (¬meets → Completes (.colonyResponse w) s (fun t => t.part.bit .mbx MBX.RSP.STALE = true ∧
      ∀ o < 0x1000, t.part.rd ((Page.cfmb d).base + o) = p.rd ((Page.cfmb d).base + o)))

/-- R215: the premise on the counts holds while no violation has been recorded. -/
def Obligations.SnapCounts : Prop :=
  ∀ (s : State) (req : Requester), MayWrite s req .buf 0x120 →
    let n := fun (x : CellState) => (s.part.cell.filter (fun e => e.2.state == x)).length
    n .queued + n .inFlight ≤ 262144 →
    Completes (.snap req) s (fun t =>
      let word := fun (o : Nat) => (t.part.rd (Page.buf.base + o)).toNat
      word 0x12C = n .queued ∧ word 0x130 = n .inFlight ∧ word 0x134 = s.part.withheldCells ∧
      word 0x128 + word 0x12C + word 0x130 = 262144 ∧ t.part.getF .buf BUF.AUD_STAT.SNAP_VALID = 1)

/-- R419. -/
def Obligations.SealBlown : Prop :=
  (∀ s, StrapSession s → Completes (.blowSeal true) s (fun t => (∀ k < 8, (otpWord t.otp 0).getLsbD k = true) ∧
    t.part.getF .otpv OTPV.ACTIVE.SEALED = 1 ∧ t.part.md = s.part.md)) ∧
  (∀ s : State, s.part.getF .otpv OTPV.ACTIVE.SEALED = 1 → s.part.strapEff = false ∧ s.part.strapSession = false ∧
    ∀ c code, presenceCode c = some code → s.part.maintOn = true → s.part.boot.staged = none → s.part.maintMode code = true →
      Completes c s (fun t => t.part.boot.staged.isSome = true ∧ t.part.out = s.part.out ++ [.reply code [1]] ∧ t.otp = s.otp ∧
        t.trust = s.trust ∧ t.part.md = s.part.md)) ∧
  (∀ s t, otpSealed s.otp = true → step s = .next t → otpSealed t.otp = true)

/-- R480: accesses of Chitin and Colony; 8-byte accesses act on the lower word first. -/
def Obligations.UnalignedAccesses : Prop :=
  ∀ (s : State) (req : Requester) (addr : Nat), s.part.md.mode.core = true → s.part.ffy.chipRst = false → req = .chitin ∨ req = .colony →
    let p := s.part
    let viol := fun (write : Bool) (t : State) => t.part.getF .glb GLB.ACC_VIOL.CAUSE = 2 ∧ t.part.getF .glb GLB.ACC_VIOL.REQ = req.code ∧
      t.part.bit .glb GLB.ACC_VIOL.WRITE = write ∧ t.part.bit .glb GLB.ACC_VIOL.NEW = true ∧
      t.part.getF .glb GLB.ACC_VIOL_ADDR.ADDR = addr % 2 ^ 26 ∧ t.part.posted = p.posted ∧ ∀ a, 0x1000 ≤ a → t.part.rd a = p.rd a
    (∀ lo, addr % 4 ≠ 0 → Completes (.registerWrite req addr lo none) s (viol true)) ∧
    (∀ lo hi, addr % 8 ≠ 0 → Completes (.registerWrite req addr lo (some hi)) s (viol true)) ∧
    (∀ wide, addr % (if wide then 8 else 4) ≠ 0 → Completes (.clearingRead req addr wide) s (fun t => viol false t ∧
      t.part.out = p.out ++ [.busError req addr])) ∧
    (∀ wide, addr % (if wide then 8 else 4) = 0 → Completes (.clearingRead req addr wide) s (fun t =>
      ∃ v, t.part.out = p.out ++ [.readData req addr v])) ∧
    (∀ pg lo hi, addr % 8 = 0 → pg.hasHdr = true → req.locate addr = some (pg, 0x10) → req.locate (addr + 4) = some (pg, 0x14) →
      Permits s req pg 0x10 → Permits s req pg 0x14 →
      Completes (.registerWrite req addr lo (some hi)) s (fun t => t.part.posted = p.posted ∧
        t.part.rd (pg.base + 0x14) &&& BitVec.ofNat 32 pg.irqMask = hi &&& BitVec.ofNat 32 pg.irqMask))

/-! ### Completion -/

/-- Every command completes in every state: exec answers a next state, never a fault or a refusal, for every row of the table. The queue and the
time stay, OTP bits only grow (R389), and OTP, Chitin's records, the flash and each piece of the part stay as they were under every command that the
named lists do not give them to. -/
def Obligations.EveryCommandCompletes : Prop :=
  ∀ (c : Instr) (s : State), Completes c s (fun t =>
    t.pending = s.pending ∧ t.part.now = s.part.now ∧ (OtpForm s → OtpGrows s.otp t.otp) ∧ (programsOtp c = false → t.otp = s.otp) ∧
    (changesTrust c = false → t.trust = s.trust) ∧ (writesFlash c = false → t.part.flash = s.part.flash) ∧
    ∀ ks : List Piece, registerPieces c = some ks ∨ linkPieces c = some ks ∨ trafficPieces c = some ks ∨ hostPieces c = some ks →
      ∀ k : Piece, k ∉ ks → k.same s.part t.part)
end

