-- ==== Sys2Proof/Laws/Sparse.lean ====
section
/-! SUPPORT. Sparse stores: what a read gives after a write, and that every operation keeps the canonical form. -/

namespace Sys2Proof.Machine

variable {β : Type}

theorem Sparse.get_put_same (m : Sparse β) (d v : β) (k : Nat) : Sparse.get (Sparse.put m k v) d k = v := by
  induction m with
  | nil => simp [Sparse.put, Sparse.get]
  | cons e r ih =>
    obtain ⟨a, w⟩ := e
    unfold Sparse.put
    split
    · simp [Sparse.get]
    · split
      · simp [Sparse.get]
      · rename_i h
        simp [Sparse.get, ih, show ¬ a = k from fun x => h x.symm]

theorem Sparse.get_put_ne (m : Sparse β) (d v : β) {k j : Nat} (h : j ≠ k) :
    Sparse.get (Sparse.put m k v) d j = Sparse.get m d j := by
  induction m with
  | nil => simp [Sparse.put, Sparse.get, Ne.symm h]
  | cons e r ih =>
    obtain ⟨a, w⟩ := e
    unfold Sparse.put
    split
    · simp [Sparse.get, Ne.symm h]
    · split
      · subst_vars
        simp [Sparse.get, Ne.symm h]
      · simp [Sparse.get, ih]

theorem Sparse.get_del_same (m : Sparse β) (d : β) (k : Nat) : Sparse.get (Sparse.del m k) d k = d := by
  induction m with
  | nil => simp [Sparse.del, Sparse.get]
  | cons e r ih =>
    obtain ⟨a, w⟩ := e
    unfold Sparse.del at ih ⊢
    by_cases h : a = k <;> simp [h, Sparse.get, ih]

theorem Sparse.get_del_ne (m : Sparse β) (d : β) {k j : Nat} (h : j ≠ k) :
    Sparse.get (Sparse.del m k) d j = Sparse.get m d j := by
  induction m with
  | nil => simp [Sparse.del]
  | cons e r ih =>
    obtain ⟨a, w⟩ := e
    unfold Sparse.del at ih ⊢
    by_cases hk : a = k
    · subst hk
      simp [Sparse.get, ih, Ne.symm h]
    · simp [hk, Sparse.get, ih]

/-- What was written is read back. -/
@[simp] theorem Sparse.get_set_same [DecidableEq β] (m : Sparse β) (d v : β) (k : Nat) :
    Sparse.get (Sparse.set m d k v) d k = v := by
  unfold Sparse.set
  split
  · subst_vars
    exact Sparse.get_del_same m _ k
  · exact Sparse.get_put_same m d v k

/-- A write leaves every other number alone, whatever default it is read with. -/
theorem Sparse.get_set_ne [DecidableEq β] (m : Sparse β) (d e v : β) {k j : Nat} (h : j ≠ k) :
    Sparse.get (Sparse.set m d k v) e j = Sparse.get m e j := by
  unfold Sparse.set
  split
  · exact Sparse.get_del_ne m e h
  · exact Sparse.get_put_ne m e v h

/-- A read after a write. -/
theorem Sparse.get_set [DecidableEq β] (m : Sparse β) (d v : β) (k j : Nat) :
    Sparse.get (Sparse.set m d k v) d j = if j = k then v else Sparse.get m d j := by
  split
  · subst_vars
    exact Sparse.get_set_same m d v _
  · rename_i h
    exact Sparse.get_set_ne m d d v h

/-! ### The canonical form -/

theorem Sparse.rising_weaken {lo hi : Nat} (h : lo ≤ hi) :
    ∀ (m : Sparse β), Sparse.rising (some hi) m = true → Sparse.rising (some lo) m = true
  | [], _ => rfl
  | (a, v) :: r, x => by
    simp only [Sparse.rising, Bool.and_eq_true, decide_eq_true_eq] at x ⊢
    exact ⟨by omega, x.2⟩

theorem Sparse.rising_none {lo : Nat} (m : Sparse β) (h : Sparse.rising (some lo) m = true) :
    Sparse.rising none m = true := by
  cases m with
  | nil => rfl
  | cons e r =>
    obtain ⟨a, v⟩ := e
    simp only [Sparse.rising, Bool.and_eq_true] at h ⊢
    exact ⟨trivial, h.2⟩

theorem Sparse.rising_put (k : Nat) (v : β) : ∀ (lo : Option Nat) (m : Sparse β), (∀ l, lo = some l → l < k) →
    Sparse.rising lo m = true → Sparse.rising lo (Sparse.put m k v) = true
  | lo, [], hl, _ => by
    cases lo with
    | none => simp [Sparse.put, Sparse.rising]
    | some l => simp [Sparse.put, Sparse.rising, hl l rfl]
  | lo, (a, w) :: r, hl, hr => by
    have h2 : Sparse.rising (some a) r = true := by
      simp only [Sparse.rising, Bool.and_eq_true] at hr
      exact hr.2
    unfold Sparse.put
    split
    · rename_i hk
      cases lo with
      | none => simp [Sparse.rising, hk, h2]
      | some l => simp [Sparse.rising, hk, h2, hl l rfl]
    · split
      · subst_vars
        cases lo with
        | none => simpa [Sparse.rising] using h2
        | some l => simp [Sparse.rising, hl l rfl, h2]
      · have ih := Sparse.rising_put k v (some a) r (by intro l e; cases e; omega) h2
        cases lo with
        | none => simp [Sparse.rising, ih]
        | some l =>
          simp only [Sparse.rising, Bool.and_eq_true] at hr
          simp only [Sparse.rising, ih, Bool.and_true]
          exact hr.1

theorem Sparse.rising_filter (f : Nat × β → Bool) : ∀ (lo : Option Nat) (m : Sparse β),
    Sparse.rising lo m = true → Sparse.rising lo (m.filter f) = true
  | _, [], _ => rfl
  | lo, (a, w) :: r, hr => by
    simp only [Sparse.rising, Bool.and_eq_true] at hr
    have ih := Sparse.rising_filter f (some a) r hr.2
    by_cases h : f (a, w) = true
    · simp only [List.filter, h, Sparse.rising, ih, Bool.and_true]
      exact hr.1
    · simp only [List.filter, Bool.not_eq_true _ ▸ h]
      cases lo with
      | none => exact Sparse.rising_none _ ih
      | some l =>
        simp only [decide_eq_true_eq] at hr
        exact Sparse.rising_weaken (by omega) _ ih

theorem Sparse.mem_put (k : Nat) (v : β) : ∀ (m : Sparse β) (e : Nat × β), e ∈ Sparse.put m k v → e = (k, v) ∨ e ∈ m
  | [], e, h => by simpa [Sparse.put] using h
  | (a, w) :: r, e, h => by
    unfold Sparse.put at h
    split at h
    · simpa using h
    · split at h
      · simp only [List.mem_cons] at h ⊢
        rcases h with h | h
        · exact .inl h
        · exact .inr (.inr h)
      · simp only [List.mem_cons] at h ⊢
        rcases h with h | h
        · exact .inr (.inl h)
        · rcases Sparse.mem_put k v r e h with h | h
          · exact .inl h
          · exact .inr (.inr h)

/-- A write keeps the canonical form. -/
theorem Sparse.wf_set [DecidableEq β] (d : Nat → β) (m : Sparse β) (k : Nat) (v : β) (h : Sparse.wf d m = true) :
    Sparse.wf d (Sparse.set m (d k) k v) = true := by
  simp only [Sparse.wf, Bool.and_eq_true, List.all_eq_true, decide_eq_true_eq] at h ⊢
  unfold Sparse.set
  split
  · exact ⟨Sparse.rising_filter _ none m h.1, fun e he => h.2 e ((List.mem_filter.mp he).1)⟩
  · rename_i hv
    refine ⟨Sparse.rising_put k v none m (by intro l x; cases x) h.1, fun e he => ?_⟩
    rcases Sparse.mem_put k v m e he with rfl | he
    · exact hv
    · exact h.2 e he

/-- Keeping some entries keeps the canonical form. -/
theorem Sparse.wf_filter [DecidableEq β] (d : Nat → β) (m : Sparse β) (f : Nat × β → Bool) (h : Sparse.wf d m = true) :
    Sparse.wf d (m.filter f) = true := by
  simp only [Sparse.wf, Bool.and_eq_true, List.all_eq_true, decide_eq_true_eq] at h ⊢
  exact ⟨Sparse.rising_filter f none m h.1, fun e he => h.2 e ((List.mem_filter.mp he).1)⟩

end Sys2Proof.Machine
end

