-- ==== Sys2Proof/Laws/State.lean ====
section
/-! SUPPORT. What each update of the part leaves alone, field by field, and what lifting an operation to the state leaves alone. -/

namespace Sys2Proof.Machine

variable (p : Part)

@[simp] theorem Part.wr_now (a : Nat) (v : BitVec 32) : (p.wr a v).now = p.now := rfl
@[simp] theorem Part.wr_ftime (a : Nat) (v : BitVec 32) : (p.wr a v).ftime = p.ftime := rfl
@[simp] theorem Part.wr_slew (a : Nat) (v : BitVec 32) : (p.wr a v).slew = p.slew := rfl
@[simp] theorem Part.wr_out (a : Nat) (v : BitVec 32) : (p.wr a v).out = p.out := rfl
@[simp] theorem Part.wr_freeCtr (a : Nat) (v : BitVec 32) : (p.wr a v).freeCtr = p.freeCtr := rfl
@[simp] theorem Part.wr_md (a : Nat) (v : BitVec 32) : (p.wr a v).md = p.md := rfl
@[simp] theorem Part.wr_posted (a : Nat) (v : BitVec 32) : (p.wr a v).posted = p.posted := rfl
@[simp] theorem Part.wr_shadow (a : Nat) (v : BitVec 32) : (p.wr a v).shadow = p.shadow := rfl
@[simp] theorem Part.wr_cell (a : Nat) (v : BitVec 32) : (p.wr a v).cell = p.cell := rfl
@[simp] theorem Part.wr_frames (a : Nat) (v : BitVec 32) : (p.wr a v).frames = p.frames := rfl
@[simp] theorem Part.wr_nextFrame (a : Nat) (v : BitVec 32) : (p.wr a v).nextFrame = p.nextFrame := rfl
@[simp] theorem Part.wr_voqs (a : Nat) (v : BitVec 32) : (p.wr a v).voqs = p.voqs := rfl
@[simp] theorem Part.wr_flights (a : Nat) (v : BitVec 32) : (p.wr a v).flights = p.flights := rfl
@[simp] theorem Part.wr_residues (a : Nat) (v : BitVec 32) : (p.wr a v).residues = p.residues := rfl
@[simp] theorem Part.wr_arbA (a : Nat) (v : BitVec 32) : (p.wr a v).arbA = p.arbA := rfl
@[simp] theorem Part.wr_arbG (a : Nat) (v : BitVec 32) : (p.wr a v).arbG = p.arbG := rfl
@[simp] theorem Part.wr_arbV (a : Nat) (v : BitVec 32) : (p.wr a v).arbV = p.arbV := rfl
@[simp] theorem Part.wr_cellTime (a : Nat) (v : BitVec 32) : (p.wr a v).cellTime = p.cellTime := rfl
@[simp] theorem Part.wr_joining (a : Nat) (v : BitVec 32) : (p.wr a v).joining = p.joining := rfl
@[simp] theorem Part.wr_starved (a : Nat) (v : BitVec 32) : (p.wr a v).starved = p.starved := rfl
@[simp] theorem Part.wr_occ (a : Nat) (v : BitVec 32) : (p.wr a v).occ = p.occ := rfl
@[simp] theorem Part.wr_refused (a : Nat) (v : BitVec 32) : (p.wr a v).refused = p.refused := rfl
@[simp] theorem Part.wr_backing (a : Nat) (v : BitVec 32) : (p.wr a v).backing = p.backing := rfl
@[simp] theorem Part.wr_stuck (a : Nat) (v : BitVec 32) : (p.wr a v).stuck = p.stuck := rfl
@[simp] theorem Part.wr_audit (a : Nat) (v : BitVec 32) : (p.wr a v).audit = p.audit := rfl
@[simp] theorem Part.wr_tq (a : Nat) (v : BitVec 32) : (p.wr a v).tq = p.tq := rfl
@[simp] theorem Part.wr_deficit (a : Nat) (v : BitVec 32) : (p.wr a v).deficit = p.deficit := rfl
@[simp] theorem Part.wr_stale (a : Nat) (v : BitVec 32) : (p.wr a v).stale = p.stale := rfl
@[simp] theorem Part.wr_tok (a : Nat) (v : BitVec 32) : (p.wr a v).tok = p.tok := rfl
@[simp] theorem Part.wr_shpAct (a : Nat) (v : BitVec 32) : (p.wr a v).shpAct = p.shpAct := rfl
@[simp] theorem Part.wr_polTok (a : Nat) (v : BitVec 32) : (p.wr a v).polTok = p.polTok := rfl
@[simp] theorem Part.wr_polAct (a : Nat) (v : BitVec 32) : (p.wr a v).polAct = p.polAct := rfl
@[simp] theorem Part.wr_debt (a : Nat) (v : BitVec 32) : (p.wr a v).debt = p.debt := rfl
@[simp] theorem Part.wr_withheld (a : Nat) (v : BitVec 32) : (p.wr a v).withheld = p.withheld := rfl
@[simp] theorem Part.wr_tables (a : Nat) (v : BitVec 32) : (p.wr a v).tables = p.tables := rfl
@[simp] theorem Part.wr_ort (a : Nat) (v : BitVec 32) : (p.wr a v).ort = p.ort := rfl
@[simp] theorem Part.wr_ledger (a : Nat) (v : BitVec 32) : (p.wr a v).ledger = p.ledger := rfl
@[simp] theorem Part.wr_fail (a : Nat) (v : BitVec 32) : (p.wr a v).fail = p.fail := rfl
@[simp] theorem Part.wr_jrnl (a : Nat) (v : BitVec 32) : (p.wr a v).jrnl = p.jrnl := rfl
@[simp] theorem Part.wr_gates (a : Nat) (v : BitVec 32) : (p.wr a v).gates = p.gates := rfl
@[simp] theorem Part.wr_nextGate (a : Nat) (v : BitVec 32) : (p.wr a v).nextGate = p.nextGate := rfl
@[simp] theorem Part.wr_waiting (a : Nat) (v : BitVec 32) : (p.wr a v).waiting = p.waiting := rfl
@[simp] theorem Part.wr_fences (a : Nat) (v : BitVec 32) : (p.wr a v).fences = p.fences := rfl
@[simp] theorem Part.wr_link (a : Nat) (v : BitVec 32) : (p.wr a v).link = p.link := rfl
@[simp] theorem Part.wr_txFlow (a : Nat) (v : BitVec 32) : (p.wr a v).txFlow = p.txFlow := rfl
@[simp] theorem Part.wr_rxFlow (a : Nat) (v : BitVec 32) : (p.wr a v).rxFlow = p.rxFlow := rfl
@[simp] theorem Part.wr_rsqIn (a : Nat) (v : BitVec 32) : (p.wr a v).rsqIn = p.rsqIn := rfl
@[simp] theorem Part.wr_combine (a : Nat) (v : BitVec 32) : (p.wr a v).combine = p.combine := rfl
@[simp] theorem Part.wr_port (a : Nat) (v : BitVec 32) : (p.wr a v).port = p.port := rfl
@[simp] theorem Part.wr_cfg (a : Nat) (v : BitVec 32) : (p.wr a v).cfg = p.cfg := rfl
@[simp] theorem Part.wr_sharers (a : Nat) (v : BitVec 32) : (p.wr a v).sharers = p.sharers := rfl
@[simp] theorem Part.wr_intx (a : Nat) (v : BitVec 32) : (p.wr a v).intx = p.intx := rfl
@[simp] theorem Part.wr_msix (a : Nat) (v : BitVec 32) : (p.wr a v).msix = p.msix := rfl
@[simp] theorem Part.wr_flr (a : Nat) (v : BitVec 32) : (p.wr a v).flr = p.flr := rfl
@[simp] theorem Part.wr_cfFlr (a : Nat) (v : BitVec 32) : (p.wr a v).cfFlr = p.cfFlr := rfl
@[simp] theorem Part.wr_stnRest (a : Nat) (v : BitVec 32) : (p.wr a v).stnRest = p.stnRest := rfl
@[simp] theorem Part.wr_chan (a : Nat) (v : BitVec 32) : (p.wr a v).chan = p.chan := rfl
@[simp] theorem Part.wr_hist (a : Nat) (v : BitVec 32) : (p.wr a v).hist = p.hist := rfl
@[simp] theorem Part.wr_domHist (a : Nat) (v : BitVec 32) : (p.wr a v).domHist = p.domHist := rfl
@[simp] theorem Part.wr_ant (a : Nat) (v : BitVec 32) : (p.wr a v).ant = p.ant := rfl
@[simp] theorem Part.wr_ffy (a : Nat) (v : BitVec 32) : (p.wr a v).ffy = p.ffy := rfl
@[simp] theorem Part.wr_boot (a : Nat) (v : BitVec 32) : (p.wr a v).boot = p.boot := rfl
@[simp] theorem Part.wr_time (a : Nat) (v : BitVec 32) : (p.wr a v).time = p.time := rfl
@[simp] theorem Part.wr_ibi (a : Nat) (v : BitVec 32) : (p.wr a v).ibi = p.ibi := rfl
@[simp] theorem Part.wr_spi (a : Nat) (v : BitVec 32) : (p.wr a v).spi = p.spi := rfl
@[simp] theorem Part.wr_flash (a : Nat) (v : BitVec 32) : (p.wr a v).flash = p.flash := rfl
@[simp] theorem Part.wr_spare (a : Nat) (v : BitVec 32) : (p.wr a v).spare = p.spare := rfl
@[simp] theorem Part.wr_ueRows (a : Nat) (v : BitVec 32) : (p.wr a v).ueRows = p.ueRows := rfl
@[simp] theorem Part.wr_jext (a : Nat) (v : BitVec 32) : (p.wr a v).jext = p.jext := rfl
@[simp] theorem Part.wr_side (a : Nat) (v : BitVec 32) : (p.wr a v).side = p.side := rfl
@[simp] theorem Part.wr_awaited (a : Nat) (v : BitVec 32) : (p.wr a v).awaited = p.awaited := rfl
@[simp] theorem Part.wr_credAt (a : Nat) (v : BitVec 32) : (p.wr a v).credAt = p.credAt := rfl
@[simp] theorem Part.wr_cplWait (a : Nat) (v : BitVec 32) : (p.wr a v).cplWait = p.cplWait := rfl
@[simp] theorem Part.wr_rstDue (a : Nat) (v : BitVec 32) : (p.wr a v).rstDue = p.rstDue := rfl
@[simp] theorem Part.wr_doe (a : Nat) (v : BitVec 32) : (p.wr a v).doe = p.doe := rfl
@[simp] theorem Part.wr_regUe (a : Nat) (v : BitVec 32) : (p.wr a v).regUe = p.regUe := rfl
@[simp] theorem Part.wr_dfe (a : Nat) (v : BitVec 32) : (p.wr a v).dfe = p.dfe := rfl
@[simp] theorem Part.wr_farPreset (a : Nat) (v : BitVec 32) : (p.wr a v).farPreset = p.farPreset := rfl
@[simp] theorem Part.wr_laneRx (a : Nat) (v : BitVec 32) : (p.wr a v).laneRx = p.laneRx := rfl
@[simp] theorem Part.wr_scr (a : Nat) (v : BitVec 32) : (p.wr a v).scr = p.scr := rfl
@[simp] theorem Part.wr_lines (a : Nat) (v : BitVec 32) : (p.wr a v).lines = p.lines := rfl

@[simp] theorem Part.setF_now (pg : Page) (f : Fld) (n : Nat) : (p.setF pg f n).now = p.now := rfl
@[simp] theorem Part.setF_ftime (pg : Page) (f : Fld) (n : Nat) : (p.setF pg f n).ftime = p.ftime := rfl
@[simp] theorem Part.setF_slew (pg : Page) (f : Fld) (n : Nat) : (p.setF pg f n).slew = p.slew := rfl
@[simp] theorem Part.setF_out (pg : Page) (f : Fld) (n : Nat) : (p.setF pg f n).out = p.out := rfl
@[simp] theorem Part.setF_freeCtr (pg : Page) (f : Fld) (n : Nat) : (p.setF pg f n).freeCtr = p.freeCtr := rfl
@[simp] theorem Part.setF_md (pg : Page) (f : Fld) (n : Nat) : (p.setF pg f n).md = p.md := rfl
@[simp] theorem Part.setF_posted (pg : Page) (f : Fld) (n : Nat) : (p.setF pg f n).posted = p.posted := rfl
@[simp] theorem Part.setF_shadow (pg : Page) (f : Fld) (n : Nat) : (p.setF pg f n).shadow = p.shadow := rfl
@[simp] theorem Part.setF_cell (pg : Page) (f : Fld) (n : Nat) : (p.setF pg f n).cell = p.cell := rfl
@[simp] theorem Part.setF_frames (pg : Page) (f : Fld) (n : Nat) : (p.setF pg f n).frames = p.frames := rfl
@[simp] theorem Part.setF_nextFrame (pg : Page) (f : Fld) (n : Nat) : (p.setF pg f n).nextFrame = p.nextFrame := rfl
@[simp] theorem Part.setF_voqs (pg : Page) (f : Fld) (n : Nat) : (p.setF pg f n).voqs = p.voqs := rfl
@[simp] theorem Part.setF_flights (pg : Page) (f : Fld) (n : Nat) : (p.setF pg f n).flights = p.flights := rfl
@[simp] theorem Part.setF_residues (pg : Page) (f : Fld) (n : Nat) : (p.setF pg f n).residues = p.residues := rfl
@[simp] theorem Part.setF_arbA (pg : Page) (f : Fld) (n : Nat) : (p.setF pg f n).arbA = p.arbA := rfl
@[simp] theorem Part.setF_arbG (pg : Page) (f : Fld) (n : Nat) : (p.setF pg f n).arbG = p.arbG := rfl
@[simp] theorem Part.setF_arbV (pg : Page) (f : Fld) (n : Nat) : (p.setF pg f n).arbV = p.arbV := rfl
@[simp] theorem Part.setF_cellTime (pg : Page) (f : Fld) (n : Nat) : (p.setF pg f n).cellTime = p.cellTime := rfl
@[simp] theorem Part.setF_joining (pg : Page) (f : Fld) (n : Nat) : (p.setF pg f n).joining = p.joining := rfl
@[simp] theorem Part.setF_starved (pg : Page) (f : Fld) (n : Nat) : (p.setF pg f n).starved = p.starved := rfl
@[simp] theorem Part.setF_occ (pg : Page) (f : Fld) (n : Nat) : (p.setF pg f n).occ = p.occ := rfl
@[simp] theorem Part.setF_refused (pg : Page) (f : Fld) (n : Nat) : (p.setF pg f n).refused = p.refused := rfl
@[simp] theorem Part.setF_backing (pg : Page) (f : Fld) (n : Nat) : (p.setF pg f n).backing = p.backing := rfl
@[simp] theorem Part.setF_stuck (pg : Page) (f : Fld) (n : Nat) : (p.setF pg f n).stuck = p.stuck := rfl
@[simp] theorem Part.setF_audit (pg : Page) (f : Fld) (n : Nat) : (p.setF pg f n).audit = p.audit := rfl
@[simp] theorem Part.setF_tq (pg : Page) (f : Fld) (n : Nat) : (p.setF pg f n).tq = p.tq := rfl
@[simp] theorem Part.setF_deficit (pg : Page) (f : Fld) (n : Nat) : (p.setF pg f n).deficit = p.deficit := rfl
@[simp] theorem Part.setF_stale (pg : Page) (f : Fld) (n : Nat) : (p.setF pg f n).stale = p.stale := rfl
@[simp] theorem Part.setF_tok (pg : Page) (f : Fld) (n : Nat) : (p.setF pg f n).tok = p.tok := rfl
@[simp] theorem Part.setF_shpAct (pg : Page) (f : Fld) (n : Nat) : (p.setF pg f n).shpAct = p.shpAct := rfl
@[simp] theorem Part.setF_polTok (pg : Page) (f : Fld) (n : Nat) : (p.setF pg f n).polTok = p.polTok := rfl
@[simp] theorem Part.setF_polAct (pg : Page) (f : Fld) (n : Nat) : (p.setF pg f n).polAct = p.polAct := rfl
@[simp] theorem Part.setF_debt (pg : Page) (f : Fld) (n : Nat) : (p.setF pg f n).debt = p.debt := rfl
@[simp] theorem Part.setF_withheld (pg : Page) (f : Fld) (n : Nat) : (p.setF pg f n).withheld = p.withheld := rfl
@[simp] theorem Part.setF_tables (pg : Page) (f : Fld) (n : Nat) : (p.setF pg f n).tables = p.tables := rfl
@[simp] theorem Part.setF_ort (pg : Page) (f : Fld) (n : Nat) : (p.setF pg f n).ort = p.ort := rfl
@[simp] theorem Part.setF_ledger (pg : Page) (f : Fld) (n : Nat) : (p.setF pg f n).ledger = p.ledger := rfl
@[simp] theorem Part.setF_fail (pg : Page) (f : Fld) (n : Nat) : (p.setF pg f n).fail = p.fail := rfl
@[simp] theorem Part.setF_jrnl (pg : Page) (f : Fld) (n : Nat) : (p.setF pg f n).jrnl = p.jrnl := rfl
@[simp] theorem Part.setF_gates (pg : Page) (f : Fld) (n : Nat) : (p.setF pg f n).gates = p.gates := rfl
@[simp] theorem Part.setF_nextGate (pg : Page) (f : Fld) (n : Nat) : (p.setF pg f n).nextGate = p.nextGate := rfl
@[simp] theorem Part.setF_waiting (pg : Page) (f : Fld) (n : Nat) : (p.setF pg f n).waiting = p.waiting := rfl
@[simp] theorem Part.setF_fences (pg : Page) (f : Fld) (n : Nat) : (p.setF pg f n).fences = p.fences := rfl
@[simp] theorem Part.setF_link (pg : Page) (f : Fld) (n : Nat) : (p.setF pg f n).link = p.link := rfl
@[simp] theorem Part.setF_txFlow (pg : Page) (f : Fld) (n : Nat) : (p.setF pg f n).txFlow = p.txFlow := rfl
@[simp] theorem Part.setF_rxFlow (pg : Page) (f : Fld) (n : Nat) : (p.setF pg f n).rxFlow = p.rxFlow := rfl
@[simp] theorem Part.setF_rsqIn (pg : Page) (f : Fld) (n : Nat) : (p.setF pg f n).rsqIn = p.rsqIn := rfl
@[simp] theorem Part.setF_combine (pg : Page) (f : Fld) (n : Nat) : (p.setF pg f n).combine = p.combine := rfl
@[simp] theorem Part.setF_port (pg : Page) (f : Fld) (n : Nat) : (p.setF pg f n).port = p.port := rfl
@[simp] theorem Part.setF_cfg (pg : Page) (f : Fld) (n : Nat) : (p.setF pg f n).cfg = p.cfg := rfl
@[simp] theorem Part.setF_sharers (pg : Page) (f : Fld) (n : Nat) : (p.setF pg f n).sharers = p.sharers := rfl
@[simp] theorem Part.setF_intx (pg : Page) (f : Fld) (n : Nat) : (p.setF pg f n).intx = p.intx := rfl
@[simp] theorem Part.setF_msix (pg : Page) (f : Fld) (n : Nat) : (p.setF pg f n).msix = p.msix := rfl
@[simp] theorem Part.setF_flr (pg : Page) (f : Fld) (n : Nat) : (p.setF pg f n).flr = p.flr := rfl
@[simp] theorem Part.setF_cfFlr (pg : Page) (f : Fld) (n : Nat) : (p.setF pg f n).cfFlr = p.cfFlr := rfl
@[simp] theorem Part.setF_stnRest (pg : Page) (f : Fld) (n : Nat) : (p.setF pg f n).stnRest = p.stnRest := rfl
@[simp] theorem Part.setF_chan (pg : Page) (f : Fld) (n : Nat) : (p.setF pg f n).chan = p.chan := rfl
@[simp] theorem Part.setF_hist (pg : Page) (f : Fld) (n : Nat) : (p.setF pg f n).hist = p.hist := rfl
@[simp] theorem Part.setF_domHist (pg : Page) (f : Fld) (n : Nat) : (p.setF pg f n).domHist = p.domHist := rfl
@[simp] theorem Part.setF_ant (pg : Page) (f : Fld) (n : Nat) : (p.setF pg f n).ant = p.ant := rfl
@[simp] theorem Part.setF_ffy (pg : Page) (f : Fld) (n : Nat) : (p.setF pg f n).ffy = p.ffy := rfl
@[simp] theorem Part.setF_boot (pg : Page) (f : Fld) (n : Nat) : (p.setF pg f n).boot = p.boot := rfl
@[simp] theorem Part.setF_time (pg : Page) (f : Fld) (n : Nat) : (p.setF pg f n).time = p.time := rfl
@[simp] theorem Part.setF_ibi (pg : Page) (f : Fld) (n : Nat) : (p.setF pg f n).ibi = p.ibi := rfl
@[simp] theorem Part.setF_spi (pg : Page) (f : Fld) (n : Nat) : (p.setF pg f n).spi = p.spi := rfl
@[simp] theorem Part.setF_flash (pg : Page) (f : Fld) (n : Nat) : (p.setF pg f n).flash = p.flash := rfl
@[simp] theorem Part.setF_spare (pg : Page) (f : Fld) (n : Nat) : (p.setF pg f n).spare = p.spare := rfl
@[simp] theorem Part.setF_ueRows (pg : Page) (f : Fld) (n : Nat) : (p.setF pg f n).ueRows = p.ueRows := rfl
@[simp] theorem Part.setF_jext (pg : Page) (f : Fld) (n : Nat) : (p.setF pg f n).jext = p.jext := rfl
@[simp] theorem Part.setF_side (pg : Page) (f : Fld) (n : Nat) : (p.setF pg f n).side = p.side := rfl
@[simp] theorem Part.setF_awaited (pg : Page) (f : Fld) (n : Nat) : (p.setF pg f n).awaited = p.awaited := rfl
@[simp] theorem Part.setF_credAt (pg : Page) (f : Fld) (n : Nat) : (p.setF pg f n).credAt = p.credAt := rfl
@[simp] theorem Part.setF_cplWait (pg : Page) (f : Fld) (n : Nat) : (p.setF pg f n).cplWait = p.cplWait := rfl
@[simp] theorem Part.setF_rstDue (pg : Page) (f : Fld) (n : Nat) : (p.setF pg f n).rstDue = p.rstDue := rfl
@[simp] theorem Part.setF_doe (pg : Page) (f : Fld) (n : Nat) : (p.setF pg f n).doe = p.doe := rfl
@[simp] theorem Part.setF_regUe (pg : Page) (f : Fld) (n : Nat) : (p.setF pg f n).regUe = p.regUe := rfl
@[simp] theorem Part.setF_dfe (pg : Page) (f : Fld) (n : Nat) : (p.setF pg f n).dfe = p.dfe := rfl
@[simp] theorem Part.setF_farPreset (pg : Page) (f : Fld) (n : Nat) : (p.setF pg f n).farPreset = p.farPreset := rfl
@[simp] theorem Part.setF_laneRx (pg : Page) (f : Fld) (n : Nat) : (p.setF pg f n).laneRx = p.laneRx := rfl
@[simp] theorem Part.setF_scr (pg : Page) (f : Fld) (n : Nat) : (p.setF pg f n).scr = p.scr := rfl
@[simp] theorem Part.setF_lines (pg : Page) (f : Fld) (n : Nat) : (p.setF pg f n).lines = p.lines := rfl

@[simp] theorem Part.irq_now (pg : Page) (m : Nat) : (p.irq pg m).now = p.now := rfl
@[simp] theorem Part.irq_ftime (pg : Page) (m : Nat) : (p.irq pg m).ftime = p.ftime := rfl
@[simp] theorem Part.irq_slew (pg : Page) (m : Nat) : (p.irq pg m).slew = p.slew := rfl
@[simp] theorem Part.irq_out (pg : Page) (m : Nat) : (p.irq pg m).out = p.out := rfl
@[simp] theorem Part.irq_freeCtr (pg : Page) (m : Nat) : (p.irq pg m).freeCtr = p.freeCtr := rfl
@[simp] theorem Part.irq_md (pg : Page) (m : Nat) : (p.irq pg m).md = p.md := rfl
@[simp] theorem Part.irq_posted (pg : Page) (m : Nat) : (p.irq pg m).posted = p.posted := rfl
@[simp] theorem Part.irq_shadow (pg : Page) (m : Nat) : (p.irq pg m).shadow = p.shadow := rfl
@[simp] theorem Part.irq_cell (pg : Page) (m : Nat) : (p.irq pg m).cell = p.cell := rfl
@[simp] theorem Part.irq_frames (pg : Page) (m : Nat) : (p.irq pg m).frames = p.frames := rfl
@[simp] theorem Part.irq_nextFrame (pg : Page) (m : Nat) : (p.irq pg m).nextFrame = p.nextFrame := rfl
@[simp] theorem Part.irq_voqs (pg : Page) (m : Nat) : (p.irq pg m).voqs = p.voqs := rfl
@[simp] theorem Part.irq_flights (pg : Page) (m : Nat) : (p.irq pg m).flights = p.flights := rfl
@[simp] theorem Part.irq_residues (pg : Page) (m : Nat) : (p.irq pg m).residues = p.residues := rfl
@[simp] theorem Part.irq_arbA (pg : Page) (m : Nat) : (p.irq pg m).arbA = p.arbA := rfl
@[simp] theorem Part.irq_arbG (pg : Page) (m : Nat) : (p.irq pg m).arbG = p.arbG := rfl
@[simp] theorem Part.irq_arbV (pg : Page) (m : Nat) : (p.irq pg m).arbV = p.arbV := rfl
@[simp] theorem Part.irq_cellTime (pg : Page) (m : Nat) : (p.irq pg m).cellTime = p.cellTime := rfl
@[simp] theorem Part.irq_joining (pg : Page) (m : Nat) : (p.irq pg m).joining = p.joining := rfl
@[simp] theorem Part.irq_starved (pg : Page) (m : Nat) : (p.irq pg m).starved = p.starved := rfl
@[simp] theorem Part.irq_occ (pg : Page) (m : Nat) : (p.irq pg m).occ = p.occ := rfl
@[simp] theorem Part.irq_refused (pg : Page) (m : Nat) : (p.irq pg m).refused = p.refused := rfl
@[simp] theorem Part.irq_backing (pg : Page) (m : Nat) : (p.irq pg m).backing = p.backing := rfl
@[simp] theorem Part.irq_stuck (pg : Page) (m : Nat) : (p.irq pg m).stuck = p.stuck := rfl
@[simp] theorem Part.irq_audit (pg : Page) (m : Nat) : (p.irq pg m).audit = p.audit := rfl
@[simp] theorem Part.irq_tq (pg : Page) (m : Nat) : (p.irq pg m).tq = p.tq := rfl
@[simp] theorem Part.irq_deficit (pg : Page) (m : Nat) : (p.irq pg m).deficit = p.deficit := rfl
@[simp] theorem Part.irq_stale (pg : Page) (m : Nat) : (p.irq pg m).stale = p.stale := rfl
@[simp] theorem Part.irq_tok (pg : Page) (m : Nat) : (p.irq pg m).tok = p.tok := rfl
@[simp] theorem Part.irq_shpAct (pg : Page) (m : Nat) : (p.irq pg m).shpAct = p.shpAct := rfl
@[simp] theorem Part.irq_polTok (pg : Page) (m : Nat) : (p.irq pg m).polTok = p.polTok := rfl
@[simp] theorem Part.irq_polAct (pg : Page) (m : Nat) : (p.irq pg m).polAct = p.polAct := rfl
@[simp] theorem Part.irq_debt (pg : Page) (m : Nat) : (p.irq pg m).debt = p.debt := rfl
@[simp] theorem Part.irq_withheld (pg : Page) (m : Nat) : (p.irq pg m).withheld = p.withheld := rfl
@[simp] theorem Part.irq_tables (pg : Page) (m : Nat) : (p.irq pg m).tables = p.tables := rfl
@[simp] theorem Part.irq_ort (pg : Page) (m : Nat) : (p.irq pg m).ort = p.ort := rfl
@[simp] theorem Part.irq_ledger (pg : Page) (m : Nat) : (p.irq pg m).ledger = p.ledger := rfl
@[simp] theorem Part.irq_fail (pg : Page) (m : Nat) : (p.irq pg m).fail = p.fail := rfl
@[simp] theorem Part.irq_jrnl (pg : Page) (m : Nat) : (p.irq pg m).jrnl = p.jrnl := rfl
@[simp] theorem Part.irq_gates (pg : Page) (m : Nat) : (p.irq pg m).gates = p.gates := rfl
@[simp] theorem Part.irq_nextGate (pg : Page) (m : Nat) : (p.irq pg m).nextGate = p.nextGate := rfl
@[simp] theorem Part.irq_waiting (pg : Page) (m : Nat) : (p.irq pg m).waiting = p.waiting := rfl
@[simp] theorem Part.irq_fences (pg : Page) (m : Nat) : (p.irq pg m).fences = p.fences := rfl
@[simp] theorem Part.irq_link (pg : Page) (m : Nat) : (p.irq pg m).link = p.link := rfl
@[simp] theorem Part.irq_txFlow (pg : Page) (m : Nat) : (p.irq pg m).txFlow = p.txFlow := rfl
@[simp] theorem Part.irq_rxFlow (pg : Page) (m : Nat) : (p.irq pg m).rxFlow = p.rxFlow := rfl
@[simp] theorem Part.irq_rsqIn (pg : Page) (m : Nat) : (p.irq pg m).rsqIn = p.rsqIn := rfl
@[simp] theorem Part.irq_combine (pg : Page) (m : Nat) : (p.irq pg m).combine = p.combine := rfl
@[simp] theorem Part.irq_port (pg : Page) (m : Nat) : (p.irq pg m).port = p.port := rfl
@[simp] theorem Part.irq_cfg (pg : Page) (m : Nat) : (p.irq pg m).cfg = p.cfg := rfl
@[simp] theorem Part.irq_sharers (pg : Page) (m : Nat) : (p.irq pg m).sharers = p.sharers := rfl
@[simp] theorem Part.irq_intx (pg : Page) (m : Nat) : (p.irq pg m).intx = p.intx := rfl
@[simp] theorem Part.irq_msix (pg : Page) (m : Nat) : (p.irq pg m).msix = p.msix := rfl
@[simp] theorem Part.irq_flr (pg : Page) (m : Nat) : (p.irq pg m).flr = p.flr := rfl
@[simp] theorem Part.irq_cfFlr (pg : Page) (m : Nat) : (p.irq pg m).cfFlr = p.cfFlr := rfl
@[simp] theorem Part.irq_stnRest (pg : Page) (m : Nat) : (p.irq pg m).stnRest = p.stnRest := rfl
@[simp] theorem Part.irq_chan (pg : Page) (m : Nat) : (p.irq pg m).chan = p.chan := rfl
@[simp] theorem Part.irq_hist (pg : Page) (m : Nat) : (p.irq pg m).hist = p.hist := rfl
@[simp] theorem Part.irq_domHist (pg : Page) (m : Nat) : (p.irq pg m).domHist = p.domHist := rfl
@[simp] theorem Part.irq_ant (pg : Page) (m : Nat) : (p.irq pg m).ant = p.ant := rfl
@[simp] theorem Part.irq_ffy (pg : Page) (m : Nat) : (p.irq pg m).ffy = p.ffy := rfl
@[simp] theorem Part.irq_boot (pg : Page) (m : Nat) : (p.irq pg m).boot = p.boot := rfl
@[simp] theorem Part.irq_time (pg : Page) (m : Nat) : (p.irq pg m).time = p.time := rfl
@[simp] theorem Part.irq_ibi (pg : Page) (m : Nat) : (p.irq pg m).ibi = p.ibi := rfl
@[simp] theorem Part.irq_spi (pg : Page) (m : Nat) : (p.irq pg m).spi = p.spi := rfl
@[simp] theorem Part.irq_flash (pg : Page) (m : Nat) : (p.irq pg m).flash = p.flash := rfl
@[simp] theorem Part.irq_spare (pg : Page) (m : Nat) : (p.irq pg m).spare = p.spare := rfl
@[simp] theorem Part.irq_ueRows (pg : Page) (m : Nat) : (p.irq pg m).ueRows = p.ueRows := rfl
@[simp] theorem Part.irq_jext (pg : Page) (m : Nat) : (p.irq pg m).jext = p.jext := rfl
@[simp] theorem Part.irq_side (pg : Page) (m : Nat) : (p.irq pg m).side = p.side := rfl
@[simp] theorem Part.irq_awaited (pg : Page) (m : Nat) : (p.irq pg m).awaited = p.awaited := rfl
@[simp] theorem Part.irq_credAt (pg : Page) (m : Nat) : (p.irq pg m).credAt = p.credAt := rfl
@[simp] theorem Part.irq_cplWait (pg : Page) (m : Nat) : (p.irq pg m).cplWait = p.cplWait := rfl
@[simp] theorem Part.irq_rstDue (pg : Page) (m : Nat) : (p.irq pg m).rstDue = p.rstDue := rfl
@[simp] theorem Part.irq_doe (pg : Page) (m : Nat) : (p.irq pg m).doe = p.doe := rfl
@[simp] theorem Part.irq_regUe (pg : Page) (m : Nat) : (p.irq pg m).regUe = p.regUe := rfl
@[simp] theorem Part.irq_dfe (pg : Page) (m : Nat) : (p.irq pg m).dfe = p.dfe := rfl
@[simp] theorem Part.irq_farPreset (pg : Page) (m : Nat) : (p.irq pg m).farPreset = p.farPreset := rfl
@[simp] theorem Part.irq_laneRx (pg : Page) (m : Nat) : (p.irq pg m).laneRx = p.laneRx := rfl
@[simp] theorem Part.irq_scr (pg : Page) (m : Nat) : (p.irq pg m).scr = p.scr := rfl
@[simp] theorem Part.irq_lines (pg : Page) (m : Nat) : (p.irq pg m).lines = p.lines := rfl

@[simp] theorem Part.emit_regs (o : Output) : (p.emit o).regs = p.regs := rfl
@[simp] theorem Part.emit_now (o : Output) : (p.emit o).now = p.now := rfl
@[simp] theorem Part.emit_ftime (o : Output) : (p.emit o).ftime = p.ftime := rfl
@[simp] theorem Part.emit_slew (o : Output) : (p.emit o).slew = p.slew := rfl
@[simp] theorem Part.emit_freeCtr (o : Output) : (p.emit o).freeCtr = p.freeCtr := rfl
@[simp] theorem Part.emit_md (o : Output) : (p.emit o).md = p.md := rfl
@[simp] theorem Part.emit_posted (o : Output) : (p.emit o).posted = p.posted := rfl
@[simp] theorem Part.emit_shadow (o : Output) : (p.emit o).shadow = p.shadow := rfl
@[simp] theorem Part.emit_cell (o : Output) : (p.emit o).cell = p.cell := rfl
@[simp] theorem Part.emit_frames (o : Output) : (p.emit o).frames = p.frames := rfl
@[simp] theorem Part.emit_nextFrame (o : Output) : (p.emit o).nextFrame = p.nextFrame := rfl
@[simp] theorem Part.emit_voqs (o : Output) : (p.emit o).voqs = p.voqs := rfl
@[simp] theorem Part.emit_flights (o : Output) : (p.emit o).flights = p.flights := rfl
@[simp] theorem Part.emit_residues (o : Output) : (p.emit o).residues = p.residues := rfl
@[simp] theorem Part.emit_arbA (o : Output) : (p.emit o).arbA = p.arbA := rfl
@[simp] theorem Part.emit_arbG (o : Output) : (p.emit o).arbG = p.arbG := rfl
@[simp] theorem Part.emit_arbV (o : Output) : (p.emit o).arbV = p.arbV := rfl
@[simp] theorem Part.emit_cellTime (o : Output) : (p.emit o).cellTime = p.cellTime := rfl
@[simp] theorem Part.emit_joining (o : Output) : (p.emit o).joining = p.joining := rfl
@[simp] theorem Part.emit_starved (o : Output) : (p.emit o).starved = p.starved := rfl
@[simp] theorem Part.emit_occ (o : Output) : (p.emit o).occ = p.occ := rfl
@[simp] theorem Part.emit_refused (o : Output) : (p.emit o).refused = p.refused := rfl
@[simp] theorem Part.emit_backing (o : Output) : (p.emit o).backing = p.backing := rfl
@[simp] theorem Part.emit_stuck (o : Output) : (p.emit o).stuck = p.stuck := rfl
@[simp] theorem Part.emit_audit (o : Output) : (p.emit o).audit = p.audit := rfl
@[simp] theorem Part.emit_tq (o : Output) : (p.emit o).tq = p.tq := rfl
@[simp] theorem Part.emit_deficit (o : Output) : (p.emit o).deficit = p.deficit := rfl
@[simp] theorem Part.emit_stale (o : Output) : (p.emit o).stale = p.stale := rfl
@[simp] theorem Part.emit_tok (o : Output) : (p.emit o).tok = p.tok := rfl
@[simp] theorem Part.emit_shpAct (o : Output) : (p.emit o).shpAct = p.shpAct := rfl
@[simp] theorem Part.emit_polTok (o : Output) : (p.emit o).polTok = p.polTok := rfl
@[simp] theorem Part.emit_polAct (o : Output) : (p.emit o).polAct = p.polAct := rfl
@[simp] theorem Part.emit_debt (o : Output) : (p.emit o).debt = p.debt := rfl
@[simp] theorem Part.emit_withheld (o : Output) : (p.emit o).withheld = p.withheld := rfl
@[simp] theorem Part.emit_tables (o : Output) : (p.emit o).tables = p.tables := rfl
@[simp] theorem Part.emit_ort (o : Output) : (p.emit o).ort = p.ort := rfl
@[simp] theorem Part.emit_ledger (o : Output) : (p.emit o).ledger = p.ledger := rfl
@[simp] theorem Part.emit_fail (o : Output) : (p.emit o).fail = p.fail := rfl
@[simp] theorem Part.emit_jrnl (o : Output) : (p.emit o).jrnl = p.jrnl := rfl
@[simp] theorem Part.emit_gates (o : Output) : (p.emit o).gates = p.gates := rfl
@[simp] theorem Part.emit_nextGate (o : Output) : (p.emit o).nextGate = p.nextGate := rfl
@[simp] theorem Part.emit_waiting (o : Output) : (p.emit o).waiting = p.waiting := rfl
@[simp] theorem Part.emit_fences (o : Output) : (p.emit o).fences = p.fences := rfl
@[simp] theorem Part.emit_link (o : Output) : (p.emit o).link = p.link := rfl
@[simp] theorem Part.emit_txFlow (o : Output) : (p.emit o).txFlow = p.txFlow := rfl
@[simp] theorem Part.emit_rxFlow (o : Output) : (p.emit o).rxFlow = p.rxFlow := rfl
@[simp] theorem Part.emit_rsqIn (o : Output) : (p.emit o).rsqIn = p.rsqIn := rfl
@[simp] theorem Part.emit_combine (o : Output) : (p.emit o).combine = p.combine := rfl
@[simp] theorem Part.emit_port (o : Output) : (p.emit o).port = p.port := rfl
@[simp] theorem Part.emit_cfg (o : Output) : (p.emit o).cfg = p.cfg := rfl
@[simp] theorem Part.emit_sharers (o : Output) : (p.emit o).sharers = p.sharers := rfl
@[simp] theorem Part.emit_intx (o : Output) : (p.emit o).intx = p.intx := rfl
@[simp] theorem Part.emit_msix (o : Output) : (p.emit o).msix = p.msix := rfl
@[simp] theorem Part.emit_flr (o : Output) : (p.emit o).flr = p.flr := rfl
@[simp] theorem Part.emit_cfFlr (o : Output) : (p.emit o).cfFlr = p.cfFlr := rfl
@[simp] theorem Part.emit_stnRest (o : Output) : (p.emit o).stnRest = p.stnRest := rfl
@[simp] theorem Part.emit_chan (o : Output) : (p.emit o).chan = p.chan := rfl
@[simp] theorem Part.emit_hist (o : Output) : (p.emit o).hist = p.hist := rfl
@[simp] theorem Part.emit_domHist (o : Output) : (p.emit o).domHist = p.domHist := rfl
@[simp] theorem Part.emit_ant (o : Output) : (p.emit o).ant = p.ant := rfl
@[simp] theorem Part.emit_ffy (o : Output) : (p.emit o).ffy = p.ffy := rfl
@[simp] theorem Part.emit_boot (o : Output) : (p.emit o).boot = p.boot := rfl
@[simp] theorem Part.emit_time (o : Output) : (p.emit o).time = p.time := rfl
@[simp] theorem Part.emit_ibi (o : Output) : (p.emit o).ibi = p.ibi := rfl
@[simp] theorem Part.emit_spi (o : Output) : (p.emit o).spi = p.spi := rfl
@[simp] theorem Part.emit_flash (o : Output) : (p.emit o).flash = p.flash := rfl
@[simp] theorem Part.emit_spare (o : Output) : (p.emit o).spare = p.spare := rfl
@[simp] theorem Part.emit_ueRows (o : Output) : (p.emit o).ueRows = p.ueRows := rfl
@[simp] theorem Part.emit_jext (o : Output) : (p.emit o).jext = p.jext := rfl
@[simp] theorem Part.emit_side (o : Output) : (p.emit o).side = p.side := rfl
@[simp] theorem Part.emit_awaited (o : Output) : (p.emit o).awaited = p.awaited := rfl
@[simp] theorem Part.emit_credAt (o : Output) : (p.emit o).credAt = p.credAt := rfl
@[simp] theorem Part.emit_cplWait (o : Output) : (p.emit o).cplWait = p.cplWait := rfl
@[simp] theorem Part.emit_rstDue (o : Output) : (p.emit o).rstDue = p.rstDue := rfl
@[simp] theorem Part.emit_doe (o : Output) : (p.emit o).doe = p.doe := rfl
@[simp] theorem Part.emit_regUe (o : Output) : (p.emit o).regUe = p.regUe := rfl
@[simp] theorem Part.emit_dfe (o : Output) : (p.emit o).dfe = p.dfe := rfl
@[simp] theorem Part.emit_farPreset (o : Output) : (p.emit o).farPreset = p.farPreset := rfl
@[simp] theorem Part.emit_laneRx (o : Output) : (p.emit o).laneRx = p.laneRx := rfl
@[simp] theorem Part.emit_scr (o : Output) : (p.emit o).scr = p.scr := rfl
@[simp] theorem Part.emit_lines (o : Output) : (p.emit o).lines = p.lines := rfl

@[simp] theorem Part.setTw_regs (t i w : Nat) (v : BitVec 32) : (p.setTw t i w v).regs = p.regs := rfl
@[simp] theorem Part.setTw_now (t i w : Nat) (v : BitVec 32) : (p.setTw t i w v).now = p.now := rfl
@[simp] theorem Part.setTw_ftime (t i w : Nat) (v : BitVec 32) : (p.setTw t i w v).ftime = p.ftime := rfl
@[simp] theorem Part.setTw_slew (t i w : Nat) (v : BitVec 32) : (p.setTw t i w v).slew = p.slew := rfl
@[simp] theorem Part.setTw_out (t i w : Nat) (v : BitVec 32) : (p.setTw t i w v).out = p.out := rfl
@[simp] theorem Part.setTw_freeCtr (t i w : Nat) (v : BitVec 32) : (p.setTw t i w v).freeCtr = p.freeCtr := rfl
@[simp] theorem Part.setTw_md (t i w : Nat) (v : BitVec 32) : (p.setTw t i w v).md = p.md := rfl
@[simp] theorem Part.setTw_posted (t i w : Nat) (v : BitVec 32) : (p.setTw t i w v).posted = p.posted := rfl
@[simp] theorem Part.setTw_shadow (t i w : Nat) (v : BitVec 32) : (p.setTw t i w v).shadow = p.shadow := rfl
@[simp] theorem Part.setTw_cell (t i w : Nat) (v : BitVec 32) : (p.setTw t i w v).cell = p.cell := rfl
@[simp] theorem Part.setTw_frames (t i w : Nat) (v : BitVec 32) : (p.setTw t i w v).frames = p.frames := rfl
@[simp] theorem Part.setTw_nextFrame (t i w : Nat) (v : BitVec 32) : (p.setTw t i w v).nextFrame = p.nextFrame := rfl
@[simp] theorem Part.setTw_voqs (t i w : Nat) (v : BitVec 32) : (p.setTw t i w v).voqs = p.voqs := rfl
@[simp] theorem Part.setTw_flights (t i w : Nat) (v : BitVec 32) : (p.setTw t i w v).flights = p.flights := rfl
@[simp] theorem Part.setTw_residues (t i w : Nat) (v : BitVec 32) : (p.setTw t i w v).residues = p.residues := rfl
@[simp] theorem Part.setTw_arbA (t i w : Nat) (v : BitVec 32) : (p.setTw t i w v).arbA = p.arbA := rfl
@[simp] theorem Part.setTw_arbG (t i w : Nat) (v : BitVec 32) : (p.setTw t i w v).arbG = p.arbG := rfl
@[simp] theorem Part.setTw_arbV (t i w : Nat) (v : BitVec 32) : (p.setTw t i w v).arbV = p.arbV := rfl
@[simp] theorem Part.setTw_cellTime (t i w : Nat) (v : BitVec 32) : (p.setTw t i w v).cellTime = p.cellTime := rfl
@[simp] theorem Part.setTw_joining (t i w : Nat) (v : BitVec 32) : (p.setTw t i w v).joining = p.joining := rfl
@[simp] theorem Part.setTw_starved (t i w : Nat) (v : BitVec 32) : (p.setTw t i w v).starved = p.starved := rfl
@[simp] theorem Part.setTw_occ (t i w : Nat) (v : BitVec 32) : (p.setTw t i w v).occ = p.occ := rfl
@[simp] theorem Part.setTw_refused (t i w : Nat) (v : BitVec 32) : (p.setTw t i w v).refused = p.refused := rfl
@[simp] theorem Part.setTw_backing (t i w : Nat) (v : BitVec 32) : (p.setTw t i w v).backing = p.backing := rfl
@[simp] theorem Part.setTw_stuck (t i w : Nat) (v : BitVec 32) : (p.setTw t i w v).stuck = p.stuck := rfl
@[simp] theorem Part.setTw_audit (t i w : Nat) (v : BitVec 32) : (p.setTw t i w v).audit = p.audit := rfl
@[simp] theorem Part.setTw_tq (t i w : Nat) (v : BitVec 32) : (p.setTw t i w v).tq = p.tq := rfl
@[simp] theorem Part.setTw_deficit (t i w : Nat) (v : BitVec 32) : (p.setTw t i w v).deficit = p.deficit := rfl
@[simp] theorem Part.setTw_stale (t i w : Nat) (v : BitVec 32) : (p.setTw t i w v).stale = p.stale := rfl
@[simp] theorem Part.setTw_tok (t i w : Nat) (v : BitVec 32) : (p.setTw t i w v).tok = p.tok := rfl
@[simp] theorem Part.setTw_shpAct (t i w : Nat) (v : BitVec 32) : (p.setTw t i w v).shpAct = p.shpAct := rfl
@[simp] theorem Part.setTw_polTok (t i w : Nat) (v : BitVec 32) : (p.setTw t i w v).polTok = p.polTok := rfl
@[simp] theorem Part.setTw_polAct (t i w : Nat) (v : BitVec 32) : (p.setTw t i w v).polAct = p.polAct := rfl
@[simp] theorem Part.setTw_debt (t i w : Nat) (v : BitVec 32) : (p.setTw t i w v).debt = p.debt := rfl
@[simp] theorem Part.setTw_withheld (t i w : Nat) (v : BitVec 32) : (p.setTw t i w v).withheld = p.withheld := rfl
@[simp] theorem Part.setTw_ort (t i w : Nat) (v : BitVec 32) : (p.setTw t i w v).ort = p.ort := rfl
@[simp] theorem Part.setTw_ledger (t i w : Nat) (v : BitVec 32) : (p.setTw t i w v).ledger = p.ledger := rfl
@[simp] theorem Part.setTw_fail (t i w : Nat) (v : BitVec 32) : (p.setTw t i w v).fail = p.fail := rfl
@[simp] theorem Part.setTw_jrnl (t i w : Nat) (v : BitVec 32) : (p.setTw t i w v).jrnl = p.jrnl := rfl
@[simp] theorem Part.setTw_gates (t i w : Nat) (v : BitVec 32) : (p.setTw t i w v).gates = p.gates := rfl
@[simp] theorem Part.setTw_nextGate (t i w : Nat) (v : BitVec 32) : (p.setTw t i w v).nextGate = p.nextGate := rfl
@[simp] theorem Part.setTw_waiting (t i w : Nat) (v : BitVec 32) : (p.setTw t i w v).waiting = p.waiting := rfl
@[simp] theorem Part.setTw_fences (t i w : Nat) (v : BitVec 32) : (p.setTw t i w v).fences = p.fences := rfl
@[simp] theorem Part.setTw_link (t i w : Nat) (v : BitVec 32) : (p.setTw t i w v).link = p.link := rfl
@[simp] theorem Part.setTw_txFlow (t i w : Nat) (v : BitVec 32) : (p.setTw t i w v).txFlow = p.txFlow := rfl
@[simp] theorem Part.setTw_rxFlow (t i w : Nat) (v : BitVec 32) : (p.setTw t i w v).rxFlow = p.rxFlow := rfl
@[simp] theorem Part.setTw_rsqIn (t i w : Nat) (v : BitVec 32) : (p.setTw t i w v).rsqIn = p.rsqIn := rfl
@[simp] theorem Part.setTw_combine (t i w : Nat) (v : BitVec 32) : (p.setTw t i w v).combine = p.combine := rfl
@[simp] theorem Part.setTw_port (t i w : Nat) (v : BitVec 32) : (p.setTw t i w v).port = p.port := rfl
@[simp] theorem Part.setTw_cfg (t i w : Nat) (v : BitVec 32) : (p.setTw t i w v).cfg = p.cfg := rfl
@[simp] theorem Part.setTw_sharers (t i w : Nat) (v : BitVec 32) : (p.setTw t i w v).sharers = p.sharers := rfl
@[simp] theorem Part.setTw_intx (t i w : Nat) (v : BitVec 32) : (p.setTw t i w v).intx = p.intx := rfl
@[simp] theorem Part.setTw_msix (t i w : Nat) (v : BitVec 32) : (p.setTw t i w v).msix = p.msix := rfl
@[simp] theorem Part.setTw_flr (t i w : Nat) (v : BitVec 32) : (p.setTw t i w v).flr = p.flr := rfl
@[simp] theorem Part.setTw_cfFlr (t i w : Nat) (v : BitVec 32) : (p.setTw t i w v).cfFlr = p.cfFlr := rfl
@[simp] theorem Part.setTw_stnRest (t i w : Nat) (v : BitVec 32) : (p.setTw t i w v).stnRest = p.stnRest := rfl
@[simp] theorem Part.setTw_chan (t i w : Nat) (v : BitVec 32) : (p.setTw t i w v).chan = p.chan := rfl
@[simp] theorem Part.setTw_hist (t i w : Nat) (v : BitVec 32) : (p.setTw t i w v).hist = p.hist := rfl
@[simp] theorem Part.setTw_domHist (t i w : Nat) (v : BitVec 32) : (p.setTw t i w v).domHist = p.domHist := rfl
@[simp] theorem Part.setTw_ant (t i w : Nat) (v : BitVec 32) : (p.setTw t i w v).ant = p.ant := rfl
@[simp] theorem Part.setTw_ffy (t i w : Nat) (v : BitVec 32) : (p.setTw t i w v).ffy = p.ffy := rfl
@[simp] theorem Part.setTw_boot (t i w : Nat) (v : BitVec 32) : (p.setTw t i w v).boot = p.boot := rfl
@[simp] theorem Part.setTw_time (t i w : Nat) (v : BitVec 32) : (p.setTw t i w v).time = p.time := rfl
@[simp] theorem Part.setTw_ibi (t i w : Nat) (v : BitVec 32) : (p.setTw t i w v).ibi = p.ibi := rfl
@[simp] theorem Part.setTw_spi (t i w : Nat) (v : BitVec 32) : (p.setTw t i w v).spi = p.spi := rfl
@[simp] theorem Part.setTw_flash (t i w : Nat) (v : BitVec 32) : (p.setTw t i w v).flash = p.flash := rfl
@[simp] theorem Part.setTw_spare (t i w : Nat) (v : BitVec 32) : (p.setTw t i w v).spare = p.spare := rfl
@[simp] theorem Part.setTw_ueRows (t i w : Nat) (v : BitVec 32) : (p.setTw t i w v).ueRows = p.ueRows := rfl
@[simp] theorem Part.setTw_jext (t i w : Nat) (v : BitVec 32) : (p.setTw t i w v).jext = p.jext := rfl
@[simp] theorem Part.setTw_side (t i w : Nat) (v : BitVec 32) : (p.setTw t i w v).side = p.side := rfl
@[simp] theorem Part.setTw_awaited (t i w : Nat) (v : BitVec 32) : (p.setTw t i w v).awaited = p.awaited := rfl
@[simp] theorem Part.setTw_credAt (t i w : Nat) (v : BitVec 32) : (p.setTw t i w v).credAt = p.credAt := rfl
@[simp] theorem Part.setTw_cplWait (t i w : Nat) (v : BitVec 32) : (p.setTw t i w v).cplWait = p.cplWait := rfl
@[simp] theorem Part.setTw_rstDue (t i w : Nat) (v : BitVec 32) : (p.setTw t i w v).rstDue = p.rstDue := rfl
@[simp] theorem Part.setTw_doe (t i w : Nat) (v : BitVec 32) : (p.setTw t i w v).doe = p.doe := rfl
@[simp] theorem Part.setTw_regUe (t i w : Nat) (v : BitVec 32) : (p.setTw t i w v).regUe = p.regUe := rfl
@[simp] theorem Part.setTw_dfe (t i w : Nat) (v : BitVec 32) : (p.setTw t i w v).dfe = p.dfe := rfl
@[simp] theorem Part.setTw_farPreset (t i w : Nat) (v : BitVec 32) : (p.setTw t i w v).farPreset = p.farPreset := rfl
@[simp] theorem Part.setTw_laneRx (t i w : Nat) (v : BitVec 32) : (p.setTw t i w v).laneRx = p.laneRx := rfl
@[simp] theorem Part.setTw_scr (t i w : Nat) (v : BitVec 32) : (p.setTw t i w v).scr = p.scr := rfl
@[simp] theorem Part.setTw_lines (t i w : Nat) (v : BitVec 32) : (p.setTw t i w v).lines = p.lines := rfl

@[simp] theorem Part.setLk_regs (l : Nat) (b : LinkBlk) : (p.setLk l b).regs = p.regs := rfl
@[simp] theorem Part.setLk_now (l : Nat) (b : LinkBlk) : (p.setLk l b).now = p.now := rfl
@[simp] theorem Part.setLk_ftime (l : Nat) (b : LinkBlk) : (p.setLk l b).ftime = p.ftime := rfl
@[simp] theorem Part.setLk_slew (l : Nat) (b : LinkBlk) : (p.setLk l b).slew = p.slew := rfl
@[simp] theorem Part.setLk_out (l : Nat) (b : LinkBlk) : (p.setLk l b).out = p.out := rfl
@[simp] theorem Part.setLk_freeCtr (l : Nat) (b : LinkBlk) : (p.setLk l b).freeCtr = p.freeCtr := rfl
@[simp] theorem Part.setLk_md (l : Nat) (b : LinkBlk) : (p.setLk l b).md = p.md := rfl
@[simp] theorem Part.setLk_posted (l : Nat) (b : LinkBlk) : (p.setLk l b).posted = p.posted := rfl
@[simp] theorem Part.setLk_shadow (l : Nat) (b : LinkBlk) : (p.setLk l b).shadow = p.shadow := rfl
@[simp] theorem Part.setLk_cell (l : Nat) (b : LinkBlk) : (p.setLk l b).cell = p.cell := rfl
@[simp] theorem Part.setLk_frames (l : Nat) (b : LinkBlk) : (p.setLk l b).frames = p.frames := rfl
@[simp] theorem Part.setLk_nextFrame (l : Nat) (b : LinkBlk) : (p.setLk l b).nextFrame = p.nextFrame := rfl
@[simp] theorem Part.setLk_voqs (l : Nat) (b : LinkBlk) : (p.setLk l b).voqs = p.voqs := rfl
@[simp] theorem Part.setLk_flights (l : Nat) (b : LinkBlk) : (p.setLk l b).flights = p.flights := rfl
@[simp] theorem Part.setLk_residues (l : Nat) (b : LinkBlk) : (p.setLk l b).residues = p.residues := rfl
@[simp] theorem Part.setLk_arbA (l : Nat) (b : LinkBlk) : (p.setLk l b).arbA = p.arbA := rfl
@[simp] theorem Part.setLk_arbG (l : Nat) (b : LinkBlk) : (p.setLk l b).arbG = p.arbG := rfl
@[simp] theorem Part.setLk_arbV (l : Nat) (b : LinkBlk) : (p.setLk l b).arbV = p.arbV := rfl
@[simp] theorem Part.setLk_cellTime (l : Nat) (b : LinkBlk) : (p.setLk l b).cellTime = p.cellTime := rfl
@[simp] theorem Part.setLk_joining (l : Nat) (b : LinkBlk) : (p.setLk l b).joining = p.joining := rfl
@[simp] theorem Part.setLk_starved (l : Nat) (b : LinkBlk) : (p.setLk l b).starved = p.starved := rfl
@[simp] theorem Part.setLk_occ (l : Nat) (b : LinkBlk) : (p.setLk l b).occ = p.occ := rfl
@[simp] theorem Part.setLk_refused (l : Nat) (b : LinkBlk) : (p.setLk l b).refused = p.refused := rfl
@[simp] theorem Part.setLk_backing (l : Nat) (b : LinkBlk) : (p.setLk l b).backing = p.backing := rfl
@[simp] theorem Part.setLk_stuck (l : Nat) (b : LinkBlk) : (p.setLk l b).stuck = p.stuck := rfl
@[simp] theorem Part.setLk_audit (l : Nat) (b : LinkBlk) : (p.setLk l b).audit = p.audit := rfl
@[simp] theorem Part.setLk_tq (l : Nat) (b : LinkBlk) : (p.setLk l b).tq = p.tq := rfl
@[simp] theorem Part.setLk_deficit (l : Nat) (b : LinkBlk) : (p.setLk l b).deficit = p.deficit := rfl
@[simp] theorem Part.setLk_stale (l : Nat) (b : LinkBlk) : (p.setLk l b).stale = p.stale := rfl
@[simp] theorem Part.setLk_tok (l : Nat) (b : LinkBlk) : (p.setLk l b).tok = p.tok := rfl
@[simp] theorem Part.setLk_shpAct (l : Nat) (b : LinkBlk) : (p.setLk l b).shpAct = p.shpAct := rfl
@[simp] theorem Part.setLk_polTok (l : Nat) (b : LinkBlk) : (p.setLk l b).polTok = p.polTok := rfl
@[simp] theorem Part.setLk_polAct (l : Nat) (b : LinkBlk) : (p.setLk l b).polAct = p.polAct := rfl
@[simp] theorem Part.setLk_debt (l : Nat) (b : LinkBlk) : (p.setLk l b).debt = p.debt := rfl
@[simp] theorem Part.setLk_withheld (l : Nat) (b : LinkBlk) : (p.setLk l b).withheld = p.withheld := rfl
@[simp] theorem Part.setLk_tables (l : Nat) (b : LinkBlk) : (p.setLk l b).tables = p.tables := rfl
@[simp] theorem Part.setLk_ort (l : Nat) (b : LinkBlk) : (p.setLk l b).ort = p.ort := rfl
@[simp] theorem Part.setLk_ledger (l : Nat) (b : LinkBlk) : (p.setLk l b).ledger = p.ledger := rfl
@[simp] theorem Part.setLk_fail (l : Nat) (b : LinkBlk) : (p.setLk l b).fail = p.fail := rfl
@[simp] theorem Part.setLk_jrnl (l : Nat) (b : LinkBlk) : (p.setLk l b).jrnl = p.jrnl := rfl
@[simp] theorem Part.setLk_gates (l : Nat) (b : LinkBlk) : (p.setLk l b).gates = p.gates := rfl
@[simp] theorem Part.setLk_nextGate (l : Nat) (b : LinkBlk) : (p.setLk l b).nextGate = p.nextGate := rfl
@[simp] theorem Part.setLk_waiting (l : Nat) (b : LinkBlk) : (p.setLk l b).waiting = p.waiting := rfl
@[simp] theorem Part.setLk_fences (l : Nat) (b : LinkBlk) : (p.setLk l b).fences = p.fences := rfl
@[simp] theorem Part.setLk_txFlow (l : Nat) (b : LinkBlk) : (p.setLk l b).txFlow = p.txFlow := rfl
@[simp] theorem Part.setLk_rxFlow (l : Nat) (b : LinkBlk) : (p.setLk l b).rxFlow = p.rxFlow := rfl
@[simp] theorem Part.setLk_rsqIn (l : Nat) (b : LinkBlk) : (p.setLk l b).rsqIn = p.rsqIn := rfl
@[simp] theorem Part.setLk_combine (l : Nat) (b : LinkBlk) : (p.setLk l b).combine = p.combine := rfl
@[simp] theorem Part.setLk_port (l : Nat) (b : LinkBlk) : (p.setLk l b).port = p.port := rfl
@[simp] theorem Part.setLk_cfg (l : Nat) (b : LinkBlk) : (p.setLk l b).cfg = p.cfg := rfl
@[simp] theorem Part.setLk_sharers (l : Nat) (b : LinkBlk) : (p.setLk l b).sharers = p.sharers := rfl
@[simp] theorem Part.setLk_intx (l : Nat) (b : LinkBlk) : (p.setLk l b).intx = p.intx := rfl
@[simp] theorem Part.setLk_msix (l : Nat) (b : LinkBlk) : (p.setLk l b).msix = p.msix := rfl
@[simp] theorem Part.setLk_flr (l : Nat) (b : LinkBlk) : (p.setLk l b).flr = p.flr := rfl
@[simp] theorem Part.setLk_cfFlr (l : Nat) (b : LinkBlk) : (p.setLk l b).cfFlr = p.cfFlr := rfl
@[simp] theorem Part.setLk_stnRest (l : Nat) (b : LinkBlk) : (p.setLk l b).stnRest = p.stnRest := rfl
@[simp] theorem Part.setLk_chan (l : Nat) (b : LinkBlk) : (p.setLk l b).chan = p.chan := rfl
@[simp] theorem Part.setLk_hist (l : Nat) (b : LinkBlk) : (p.setLk l b).hist = p.hist := rfl
@[simp] theorem Part.setLk_domHist (l : Nat) (b : LinkBlk) : (p.setLk l b).domHist = p.domHist := rfl
@[simp] theorem Part.setLk_ant (l : Nat) (b : LinkBlk) : (p.setLk l b).ant = p.ant := rfl
@[simp] theorem Part.setLk_ffy (l : Nat) (b : LinkBlk) : (p.setLk l b).ffy = p.ffy := rfl
@[simp] theorem Part.setLk_boot (l : Nat) (b : LinkBlk) : (p.setLk l b).boot = p.boot := rfl
@[simp] theorem Part.setLk_time (l : Nat) (b : LinkBlk) : (p.setLk l b).time = p.time := rfl
@[simp] theorem Part.setLk_ibi (l : Nat) (b : LinkBlk) : (p.setLk l b).ibi = p.ibi := rfl
@[simp] theorem Part.setLk_spi (l : Nat) (b : LinkBlk) : (p.setLk l b).spi = p.spi := rfl
@[simp] theorem Part.setLk_flash (l : Nat) (b : LinkBlk) : (p.setLk l b).flash = p.flash := rfl
@[simp] theorem Part.setLk_spare (l : Nat) (b : LinkBlk) : (p.setLk l b).spare = p.spare := rfl
@[simp] theorem Part.setLk_ueRows (l : Nat) (b : LinkBlk) : (p.setLk l b).ueRows = p.ueRows := rfl
@[simp] theorem Part.setLk_jext (l : Nat) (b : LinkBlk) : (p.setLk l b).jext = p.jext := rfl
@[simp] theorem Part.setLk_side (l : Nat) (b : LinkBlk) : (p.setLk l b).side = p.side := rfl
@[simp] theorem Part.setLk_awaited (l : Nat) (b : LinkBlk) : (p.setLk l b).awaited = p.awaited := rfl
@[simp] theorem Part.setLk_credAt (l : Nat) (b : LinkBlk) : (p.setLk l b).credAt = p.credAt := rfl
@[simp] theorem Part.setLk_cplWait (l : Nat) (b : LinkBlk) : (p.setLk l b).cplWait = p.cplWait := rfl
@[simp] theorem Part.setLk_rstDue (l : Nat) (b : LinkBlk) : (p.setLk l b).rstDue = p.rstDue := rfl
@[simp] theorem Part.setLk_doe (l : Nat) (b : LinkBlk) : (p.setLk l b).doe = p.doe := rfl
@[simp] theorem Part.setLk_regUe (l : Nat) (b : LinkBlk) : (p.setLk l b).regUe = p.regUe := rfl
@[simp] theorem Part.setLk_dfe (l : Nat) (b : LinkBlk) : (p.setLk l b).dfe = p.dfe := rfl
@[simp] theorem Part.setLk_farPreset (l : Nat) (b : LinkBlk) : (p.setLk l b).farPreset = p.farPreset := rfl
@[simp] theorem Part.setLk_laneRx (l : Nat) (b : LinkBlk) : (p.setLk l b).laneRx = p.laneRx := rfl
@[simp] theorem Part.setLk_scr (l : Nat) (b : LinkBlk) : (p.setLk l b).scr = p.scr := rfl
@[simp] theorem Part.setLk_lines (l : Nat) (b : LinkBlk) : (p.setLk l b).lines = p.lines := rfl

@[simp] theorem Part.setPt_regs (t : Nat) (b : PortBlk) : (p.setPt t b).regs = p.regs := rfl
@[simp] theorem Part.setPt_now (t : Nat) (b : PortBlk) : (p.setPt t b).now = p.now := rfl
@[simp] theorem Part.setPt_ftime (t : Nat) (b : PortBlk) : (p.setPt t b).ftime = p.ftime := rfl
@[simp] theorem Part.setPt_slew (t : Nat) (b : PortBlk) : (p.setPt t b).slew = p.slew := rfl
@[simp] theorem Part.setPt_out (t : Nat) (b : PortBlk) : (p.setPt t b).out = p.out := rfl
@[simp] theorem Part.setPt_freeCtr (t : Nat) (b : PortBlk) : (p.setPt t b).freeCtr = p.freeCtr := rfl
@[simp] theorem Part.setPt_md (t : Nat) (b : PortBlk) : (p.setPt t b).md = p.md := rfl
@[simp] theorem Part.setPt_posted (t : Nat) (b : PortBlk) : (p.setPt t b).posted = p.posted := rfl
@[simp] theorem Part.setPt_shadow (t : Nat) (b : PortBlk) : (p.setPt t b).shadow = p.shadow := rfl
@[simp] theorem Part.setPt_cell (t : Nat) (b : PortBlk) : (p.setPt t b).cell = p.cell := rfl
@[simp] theorem Part.setPt_frames (t : Nat) (b : PortBlk) : (p.setPt t b).frames = p.frames := rfl
@[simp] theorem Part.setPt_nextFrame (t : Nat) (b : PortBlk) : (p.setPt t b).nextFrame = p.nextFrame := rfl
@[simp] theorem Part.setPt_voqs (t : Nat) (b : PortBlk) : (p.setPt t b).voqs = p.voqs := rfl
@[simp] theorem Part.setPt_flights (t : Nat) (b : PortBlk) : (p.setPt t b).flights = p.flights := rfl
@[simp] theorem Part.setPt_residues (t : Nat) (b : PortBlk) : (p.setPt t b).residues = p.residues := rfl
@[simp] theorem Part.setPt_arbA (t : Nat) (b : PortBlk) : (p.setPt t b).arbA = p.arbA := rfl
@[simp] theorem Part.setPt_arbG (t : Nat) (b : PortBlk) : (p.setPt t b).arbG = p.arbG := rfl
@[simp] theorem Part.setPt_arbV (t : Nat) (b : PortBlk) : (p.setPt t b).arbV = p.arbV := rfl
@[simp] theorem Part.setPt_cellTime (t : Nat) (b : PortBlk) : (p.setPt t b).cellTime = p.cellTime := rfl
@[simp] theorem Part.setPt_joining (t : Nat) (b : PortBlk) : (p.setPt t b).joining = p.joining := rfl
@[simp] theorem Part.setPt_starved (t : Nat) (b : PortBlk) : (p.setPt t b).starved = p.starved := rfl
@[simp] theorem Part.setPt_occ (t : Nat) (b : PortBlk) : (p.setPt t b).occ = p.occ := rfl
@[simp] theorem Part.setPt_refused (t : Nat) (b : PortBlk) : (p.setPt t b).refused = p.refused := rfl
@[simp] theorem Part.setPt_backing (t : Nat) (b : PortBlk) : (p.setPt t b).backing = p.backing := rfl
@[simp] theorem Part.setPt_stuck (t : Nat) (b : PortBlk) : (p.setPt t b).stuck = p.stuck := rfl
@[simp] theorem Part.setPt_audit (t : Nat) (b : PortBlk) : (p.setPt t b).audit = p.audit := rfl
@[simp] theorem Part.setPt_tq (t : Nat) (b : PortBlk) : (p.setPt t b).tq = p.tq := rfl
@[simp] theorem Part.setPt_deficit (t : Nat) (b : PortBlk) : (p.setPt t b).deficit = p.deficit := rfl
@[simp] theorem Part.setPt_stale (t : Nat) (b : PortBlk) : (p.setPt t b).stale = p.stale := rfl
@[simp] theorem Part.setPt_tok (t : Nat) (b : PortBlk) : (p.setPt t b).tok = p.tok := rfl
@[simp] theorem Part.setPt_shpAct (t : Nat) (b : PortBlk) : (p.setPt t b).shpAct = p.shpAct := rfl
@[simp] theorem Part.setPt_polTok (t : Nat) (b : PortBlk) : (p.setPt t b).polTok = p.polTok := rfl
@[simp] theorem Part.setPt_polAct (t : Nat) (b : PortBlk) : (p.setPt t b).polAct = p.polAct := rfl
@[simp] theorem Part.setPt_debt (t : Nat) (b : PortBlk) : (p.setPt t b).debt = p.debt := rfl
@[simp] theorem Part.setPt_withheld (t : Nat) (b : PortBlk) : (p.setPt t b).withheld = p.withheld := rfl
@[simp] theorem Part.setPt_tables (t : Nat) (b : PortBlk) : (p.setPt t b).tables = p.tables := rfl
@[simp] theorem Part.setPt_ort (t : Nat) (b : PortBlk) : (p.setPt t b).ort = p.ort := rfl
@[simp] theorem Part.setPt_ledger (t : Nat) (b : PortBlk) : (p.setPt t b).ledger = p.ledger := rfl
@[simp] theorem Part.setPt_fail (t : Nat) (b : PortBlk) : (p.setPt t b).fail = p.fail := rfl
@[simp] theorem Part.setPt_jrnl (t : Nat) (b : PortBlk) : (p.setPt t b).jrnl = p.jrnl := rfl
@[simp] theorem Part.setPt_gates (t : Nat) (b : PortBlk) : (p.setPt t b).gates = p.gates := rfl
@[simp] theorem Part.setPt_nextGate (t : Nat) (b : PortBlk) : (p.setPt t b).nextGate = p.nextGate := rfl
@[simp] theorem Part.setPt_waiting (t : Nat) (b : PortBlk) : (p.setPt t b).waiting = p.waiting := rfl
@[simp] theorem Part.setPt_fences (t : Nat) (b : PortBlk) : (p.setPt t b).fences = p.fences := rfl
@[simp] theorem Part.setPt_link (t : Nat) (b : PortBlk) : (p.setPt t b).link = p.link := rfl
@[simp] theorem Part.setPt_txFlow (t : Nat) (b : PortBlk) : (p.setPt t b).txFlow = p.txFlow := rfl
@[simp] theorem Part.setPt_rxFlow (t : Nat) (b : PortBlk) : (p.setPt t b).rxFlow = p.rxFlow := rfl
@[simp] theorem Part.setPt_rsqIn (t : Nat) (b : PortBlk) : (p.setPt t b).rsqIn = p.rsqIn := rfl
@[simp] theorem Part.setPt_combine (t : Nat) (b : PortBlk) : (p.setPt t b).combine = p.combine := rfl
@[simp] theorem Part.setPt_cfg (t : Nat) (b : PortBlk) : (p.setPt t b).cfg = p.cfg := rfl
@[simp] theorem Part.setPt_sharers (t : Nat) (b : PortBlk) : (p.setPt t b).sharers = p.sharers := rfl
@[simp] theorem Part.setPt_intx (t : Nat) (b : PortBlk) : (p.setPt t b).intx = p.intx := rfl
@[simp] theorem Part.setPt_msix (t : Nat) (b : PortBlk) : (p.setPt t b).msix = p.msix := rfl
@[simp] theorem Part.setPt_flr (t : Nat) (b : PortBlk) : (p.setPt t b).flr = p.flr := rfl
@[simp] theorem Part.setPt_cfFlr (t : Nat) (b : PortBlk) : (p.setPt t b).cfFlr = p.cfFlr := rfl
@[simp] theorem Part.setPt_stnRest (t : Nat) (b : PortBlk) : (p.setPt t b).stnRest = p.stnRest := rfl
@[simp] theorem Part.setPt_chan (t : Nat) (b : PortBlk) : (p.setPt t b).chan = p.chan := rfl
@[simp] theorem Part.setPt_hist (t : Nat) (b : PortBlk) : (p.setPt t b).hist = p.hist := rfl
@[simp] theorem Part.setPt_domHist (t : Nat) (b : PortBlk) : (p.setPt t b).domHist = p.domHist := rfl
@[simp] theorem Part.setPt_ant (t : Nat) (b : PortBlk) : (p.setPt t b).ant = p.ant := rfl
@[simp] theorem Part.setPt_ffy (t : Nat) (b : PortBlk) : (p.setPt t b).ffy = p.ffy := rfl
@[simp] theorem Part.setPt_boot (t : Nat) (b : PortBlk) : (p.setPt t b).boot = p.boot := rfl
@[simp] theorem Part.setPt_time (t : Nat) (b : PortBlk) : (p.setPt t b).time = p.time := rfl
@[simp] theorem Part.setPt_ibi (t : Nat) (b : PortBlk) : (p.setPt t b).ibi = p.ibi := rfl
@[simp] theorem Part.setPt_spi (t : Nat) (b : PortBlk) : (p.setPt t b).spi = p.spi := rfl
@[simp] theorem Part.setPt_flash (t : Nat) (b : PortBlk) : (p.setPt t b).flash = p.flash := rfl
@[simp] theorem Part.setPt_spare (t : Nat) (b : PortBlk) : (p.setPt t b).spare = p.spare := rfl
@[simp] theorem Part.setPt_ueRows (t : Nat) (b : PortBlk) : (p.setPt t b).ueRows = p.ueRows := rfl
@[simp] theorem Part.setPt_jext (t : Nat) (b : PortBlk) : (p.setPt t b).jext = p.jext := rfl
@[simp] theorem Part.setPt_side (t : Nat) (b : PortBlk) : (p.setPt t b).side = p.side := rfl
@[simp] theorem Part.setPt_awaited (t : Nat) (b : PortBlk) : (p.setPt t b).awaited = p.awaited := rfl
@[simp] theorem Part.setPt_credAt (t : Nat) (b : PortBlk) : (p.setPt t b).credAt = p.credAt := rfl
@[simp] theorem Part.setPt_cplWait (t : Nat) (b : PortBlk) : (p.setPt t b).cplWait = p.cplWait := rfl
@[simp] theorem Part.setPt_rstDue (t : Nat) (b : PortBlk) : (p.setPt t b).rstDue = p.rstDue := rfl
@[simp] theorem Part.setPt_doe (t : Nat) (b : PortBlk) : (p.setPt t b).doe = p.doe := rfl
@[simp] theorem Part.setPt_regUe (t : Nat) (b : PortBlk) : (p.setPt t b).regUe = p.regUe := rfl
@[simp] theorem Part.setPt_dfe (t : Nat) (b : PortBlk) : (p.setPt t b).dfe = p.dfe := rfl
@[simp] theorem Part.setPt_farPreset (t : Nat) (b : PortBlk) : (p.setPt t b).farPreset = p.farPreset := rfl
@[simp] theorem Part.setPt_laneRx (t : Nat) (b : PortBlk) : (p.setPt t b).laneRx = p.laneRx := rfl
@[simp] theorem Part.setPt_scr (t : Nat) (b : PortBlk) : (p.setPt t b).scr = p.scr := rfl
@[simp] theorem Part.setPt_lines (t : Nat) (b : PortBlk) : (p.setPt t b).lines = p.lines := rfl

@[simp] theorem Part.setOe_regs (k : Nat) (e : OrtEnt) : (p.setOe k e).regs = p.regs := rfl
@[simp] theorem Part.setOe_now (k : Nat) (e : OrtEnt) : (p.setOe k e).now = p.now := rfl
@[simp] theorem Part.setOe_ftime (k : Nat) (e : OrtEnt) : (p.setOe k e).ftime = p.ftime := rfl
@[simp] theorem Part.setOe_slew (k : Nat) (e : OrtEnt) : (p.setOe k e).slew = p.slew := rfl
@[simp] theorem Part.setOe_out (k : Nat) (e : OrtEnt) : (p.setOe k e).out = p.out := rfl
@[simp] theorem Part.setOe_freeCtr (k : Nat) (e : OrtEnt) : (p.setOe k e).freeCtr = p.freeCtr := rfl
@[simp] theorem Part.setOe_md (k : Nat) (e : OrtEnt) : (p.setOe k e).md = p.md := rfl
@[simp] theorem Part.setOe_posted (k : Nat) (e : OrtEnt) : (p.setOe k e).posted = p.posted := rfl
@[simp] theorem Part.setOe_shadow (k : Nat) (e : OrtEnt) : (p.setOe k e).shadow = p.shadow := rfl
@[simp] theorem Part.setOe_cell (k : Nat) (e : OrtEnt) : (p.setOe k e).cell = p.cell := rfl
@[simp] theorem Part.setOe_frames (k : Nat) (e : OrtEnt) : (p.setOe k e).frames = p.frames := rfl
@[simp] theorem Part.setOe_nextFrame (k : Nat) (e : OrtEnt) : (p.setOe k e).nextFrame = p.nextFrame := rfl
@[simp] theorem Part.setOe_voqs (k : Nat) (e : OrtEnt) : (p.setOe k e).voqs = p.voqs := rfl
@[simp] theorem Part.setOe_flights (k : Nat) (e : OrtEnt) : (p.setOe k e).flights = p.flights := rfl
@[simp] theorem Part.setOe_residues (k : Nat) (e : OrtEnt) : (p.setOe k e).residues = p.residues := rfl
@[simp] theorem Part.setOe_arbA (k : Nat) (e : OrtEnt) : (p.setOe k e).arbA = p.arbA := rfl
@[simp] theorem Part.setOe_arbG (k : Nat) (e : OrtEnt) : (p.setOe k e).arbG = p.arbG := rfl
@[simp] theorem Part.setOe_arbV (k : Nat) (e : OrtEnt) : (p.setOe k e).arbV = p.arbV := rfl
@[simp] theorem Part.setOe_cellTime (k : Nat) (e : OrtEnt) : (p.setOe k e).cellTime = p.cellTime := rfl
@[simp] theorem Part.setOe_joining (k : Nat) (e : OrtEnt) : (p.setOe k e).joining = p.joining := rfl
@[simp] theorem Part.setOe_starved (k : Nat) (e : OrtEnt) : (p.setOe k e).starved = p.starved := rfl
@[simp] theorem Part.setOe_occ (k : Nat) (e : OrtEnt) : (p.setOe k e).occ = p.occ := rfl
@[simp] theorem Part.setOe_refused (k : Nat) (e : OrtEnt) : (p.setOe k e).refused = p.refused := rfl
@[simp] theorem Part.setOe_backing (k : Nat) (e : OrtEnt) : (p.setOe k e).backing = p.backing := rfl
@[simp] theorem Part.setOe_stuck (k : Nat) (e : OrtEnt) : (p.setOe k e).stuck = p.stuck := rfl
@[simp] theorem Part.setOe_audit (k : Nat) (e : OrtEnt) : (p.setOe k e).audit = p.audit := rfl
@[simp] theorem Part.setOe_tq (k : Nat) (e : OrtEnt) : (p.setOe k e).tq = p.tq := rfl
@[simp] theorem Part.setOe_deficit (k : Nat) (e : OrtEnt) : (p.setOe k e).deficit = p.deficit := rfl
@[simp] theorem Part.setOe_stale (k : Nat) (e : OrtEnt) : (p.setOe k e).stale = p.stale := rfl
@[simp] theorem Part.setOe_tok (k : Nat) (e : OrtEnt) : (p.setOe k e).tok = p.tok := rfl
@[simp] theorem Part.setOe_shpAct (k : Nat) (e : OrtEnt) : (p.setOe k e).shpAct = p.shpAct := rfl
@[simp] theorem Part.setOe_polTok (k : Nat) (e : OrtEnt) : (p.setOe k e).polTok = p.polTok := rfl
@[simp] theorem Part.setOe_polAct (k : Nat) (e : OrtEnt) : (p.setOe k e).polAct = p.polAct := rfl
@[simp] theorem Part.setOe_debt (k : Nat) (e : OrtEnt) : (p.setOe k e).debt = p.debt := rfl
@[simp] theorem Part.setOe_withheld (k : Nat) (e : OrtEnt) : (p.setOe k e).withheld = p.withheld := rfl
@[simp] theorem Part.setOe_tables (k : Nat) (e : OrtEnt) : (p.setOe k e).tables = p.tables := rfl
@[simp] theorem Part.setOe_ledger (k : Nat) (e : OrtEnt) : (p.setOe k e).ledger = p.ledger := rfl
@[simp] theorem Part.setOe_fail (k : Nat) (e : OrtEnt) : (p.setOe k e).fail = p.fail := rfl
@[simp] theorem Part.setOe_jrnl (k : Nat) (e : OrtEnt) : (p.setOe k e).jrnl = p.jrnl := rfl
@[simp] theorem Part.setOe_gates (k : Nat) (e : OrtEnt) : (p.setOe k e).gates = p.gates := rfl
@[simp] theorem Part.setOe_nextGate (k : Nat) (e : OrtEnt) : (p.setOe k e).nextGate = p.nextGate := rfl
@[simp] theorem Part.setOe_waiting (k : Nat) (e : OrtEnt) : (p.setOe k e).waiting = p.waiting := rfl
@[simp] theorem Part.setOe_fences (k : Nat) (e : OrtEnt) : (p.setOe k e).fences = p.fences := rfl
@[simp] theorem Part.setOe_link (k : Nat) (e : OrtEnt) : (p.setOe k e).link = p.link := rfl
@[simp] theorem Part.setOe_txFlow (k : Nat) (e : OrtEnt) : (p.setOe k e).txFlow = p.txFlow := rfl
@[simp] theorem Part.setOe_rxFlow (k : Nat) (e : OrtEnt) : (p.setOe k e).rxFlow = p.rxFlow := rfl
@[simp] theorem Part.setOe_rsqIn (k : Nat) (e : OrtEnt) : (p.setOe k e).rsqIn = p.rsqIn := rfl
@[simp] theorem Part.setOe_combine (k : Nat) (e : OrtEnt) : (p.setOe k e).combine = p.combine := rfl
@[simp] theorem Part.setOe_port (k : Nat) (e : OrtEnt) : (p.setOe k e).port = p.port := rfl
@[simp] theorem Part.setOe_cfg (k : Nat) (e : OrtEnt) : (p.setOe k e).cfg = p.cfg := rfl
@[simp] theorem Part.setOe_sharers (k : Nat) (e : OrtEnt) : (p.setOe k e).sharers = p.sharers := rfl
@[simp] theorem Part.setOe_intx (k : Nat) (e : OrtEnt) : (p.setOe k e).intx = p.intx := rfl
@[simp] theorem Part.setOe_msix (k : Nat) (e : OrtEnt) : (p.setOe k e).msix = p.msix := rfl
@[simp] theorem Part.setOe_flr (k : Nat) (e : OrtEnt) : (p.setOe k e).flr = p.flr := rfl
@[simp] theorem Part.setOe_cfFlr (k : Nat) (e : OrtEnt) : (p.setOe k e).cfFlr = p.cfFlr := rfl
@[simp] theorem Part.setOe_stnRest (k : Nat) (e : OrtEnt) : (p.setOe k e).stnRest = p.stnRest := rfl
@[simp] theorem Part.setOe_chan (k : Nat) (e : OrtEnt) : (p.setOe k e).chan = p.chan := rfl
@[simp] theorem Part.setOe_hist (k : Nat) (e : OrtEnt) : (p.setOe k e).hist = p.hist := rfl
@[simp] theorem Part.setOe_domHist (k : Nat) (e : OrtEnt) : (p.setOe k e).domHist = p.domHist := rfl
@[simp] theorem Part.setOe_ant (k : Nat) (e : OrtEnt) : (p.setOe k e).ant = p.ant := rfl
@[simp] theorem Part.setOe_ffy (k : Nat) (e : OrtEnt) : (p.setOe k e).ffy = p.ffy := rfl
@[simp] theorem Part.setOe_boot (k : Nat) (e : OrtEnt) : (p.setOe k e).boot = p.boot := rfl
@[simp] theorem Part.setOe_time (k : Nat) (e : OrtEnt) : (p.setOe k e).time = p.time := rfl
@[simp] theorem Part.setOe_ibi (k : Nat) (e : OrtEnt) : (p.setOe k e).ibi = p.ibi := rfl
@[simp] theorem Part.setOe_spi (k : Nat) (e : OrtEnt) : (p.setOe k e).spi = p.spi := rfl
@[simp] theorem Part.setOe_flash (k : Nat) (e : OrtEnt) : (p.setOe k e).flash = p.flash := rfl
@[simp] theorem Part.setOe_spare (k : Nat) (e : OrtEnt) : (p.setOe k e).spare = p.spare := rfl
@[simp] theorem Part.setOe_ueRows (k : Nat) (e : OrtEnt) : (p.setOe k e).ueRows = p.ueRows := rfl
@[simp] theorem Part.setOe_jext (k : Nat) (e : OrtEnt) : (p.setOe k e).jext = p.jext := rfl
@[simp] theorem Part.setOe_side (k : Nat) (e : OrtEnt) : (p.setOe k e).side = p.side := rfl
@[simp] theorem Part.setOe_awaited (k : Nat) (e : OrtEnt) : (p.setOe k e).awaited = p.awaited := rfl
@[simp] theorem Part.setOe_credAt (k : Nat) (e : OrtEnt) : (p.setOe k e).credAt = p.credAt := rfl
@[simp] theorem Part.setOe_cplWait (k : Nat) (e : OrtEnt) : (p.setOe k e).cplWait = p.cplWait := rfl
@[simp] theorem Part.setOe_rstDue (k : Nat) (e : OrtEnt) : (p.setOe k e).rstDue = p.rstDue := rfl
@[simp] theorem Part.setOe_doe (k : Nat) (e : OrtEnt) : (p.setOe k e).doe = p.doe := rfl
@[simp] theorem Part.setOe_regUe (k : Nat) (e : OrtEnt) : (p.setOe k e).regUe = p.regUe := rfl
@[simp] theorem Part.setOe_dfe (k : Nat) (e : OrtEnt) : (p.setOe k e).dfe = p.dfe := rfl
@[simp] theorem Part.setOe_farPreset (k : Nat) (e : OrtEnt) : (p.setOe k e).farPreset = p.farPreset := rfl
@[simp] theorem Part.setOe_laneRx (k : Nat) (e : OrtEnt) : (p.setOe k e).laneRx = p.laneRx := rfl
@[simp] theorem Part.setOe_scr (k : Nat) (e : OrtEnt) : (p.setOe k e).scr = p.scr := rfl
@[simp] theorem Part.setOe_lines (k : Nat) (e : OrtEnt) : (p.setOe k e).lines = p.lines := rfl

@[simp] theorem Part.setSl_regs (k : Nat) (e : Slot) : (p.setSl k e).regs = p.regs := rfl
@[simp] theorem Part.setSl_now (k : Nat) (e : Slot) : (p.setSl k e).now = p.now := rfl
@[simp] theorem Part.setSl_ftime (k : Nat) (e : Slot) : (p.setSl k e).ftime = p.ftime := rfl
@[simp] theorem Part.setSl_slew (k : Nat) (e : Slot) : (p.setSl k e).slew = p.slew := rfl
@[simp] theorem Part.setSl_out (k : Nat) (e : Slot) : (p.setSl k e).out = p.out := rfl
@[simp] theorem Part.setSl_freeCtr (k : Nat) (e : Slot) : (p.setSl k e).freeCtr = p.freeCtr := rfl
@[simp] theorem Part.setSl_md (k : Nat) (e : Slot) : (p.setSl k e).md = p.md := rfl
@[simp] theorem Part.setSl_posted (k : Nat) (e : Slot) : (p.setSl k e).posted = p.posted := rfl
@[simp] theorem Part.setSl_shadow (k : Nat) (e : Slot) : (p.setSl k e).shadow = p.shadow := rfl
@[simp] theorem Part.setSl_cell (k : Nat) (e : Slot) : (p.setSl k e).cell = p.cell := rfl
@[simp] theorem Part.setSl_frames (k : Nat) (e : Slot) : (p.setSl k e).frames = p.frames := rfl
@[simp] theorem Part.setSl_nextFrame (k : Nat) (e : Slot) : (p.setSl k e).nextFrame = p.nextFrame := rfl
@[simp] theorem Part.setSl_voqs (k : Nat) (e : Slot) : (p.setSl k e).voqs = p.voqs := rfl
@[simp] theorem Part.setSl_flights (k : Nat) (e : Slot) : (p.setSl k e).flights = p.flights := rfl
@[simp] theorem Part.setSl_residues (k : Nat) (e : Slot) : (p.setSl k e).residues = p.residues := rfl
@[simp] theorem Part.setSl_arbA (k : Nat) (e : Slot) : (p.setSl k e).arbA = p.arbA := rfl
@[simp] theorem Part.setSl_arbG (k : Nat) (e : Slot) : (p.setSl k e).arbG = p.arbG := rfl
@[simp] theorem Part.setSl_arbV (k : Nat) (e : Slot) : (p.setSl k e).arbV = p.arbV := rfl
@[simp] theorem Part.setSl_cellTime (k : Nat) (e : Slot) : (p.setSl k e).cellTime = p.cellTime := rfl
@[simp] theorem Part.setSl_joining (k : Nat) (e : Slot) : (p.setSl k e).joining = p.joining := rfl
@[simp] theorem Part.setSl_starved (k : Nat) (e : Slot) : (p.setSl k e).starved = p.starved := rfl
@[simp] theorem Part.setSl_occ (k : Nat) (e : Slot) : (p.setSl k e).occ = p.occ := rfl
@[simp] theorem Part.setSl_refused (k : Nat) (e : Slot) : (p.setSl k e).refused = p.refused := rfl
@[simp] theorem Part.setSl_backing (k : Nat) (e : Slot) : (p.setSl k e).backing = p.backing := rfl
@[simp] theorem Part.setSl_stuck (k : Nat) (e : Slot) : (p.setSl k e).stuck = p.stuck := rfl
@[simp] theorem Part.setSl_audit (k : Nat) (e : Slot) : (p.setSl k e).audit = p.audit := rfl
@[simp] theorem Part.setSl_tq (k : Nat) (e : Slot) : (p.setSl k e).tq = p.tq := rfl
@[simp] theorem Part.setSl_deficit (k : Nat) (e : Slot) : (p.setSl k e).deficit = p.deficit := rfl
@[simp] theorem Part.setSl_stale (k : Nat) (e : Slot) : (p.setSl k e).stale = p.stale := rfl
@[simp] theorem Part.setSl_tok (k : Nat) (e : Slot) : (p.setSl k e).tok = p.tok := rfl
@[simp] theorem Part.setSl_shpAct (k : Nat) (e : Slot) : (p.setSl k e).shpAct = p.shpAct := rfl
@[simp] theorem Part.setSl_polTok (k : Nat) (e : Slot) : (p.setSl k e).polTok = p.polTok := rfl
@[simp] theorem Part.setSl_polAct (k : Nat) (e : Slot) : (p.setSl k e).polAct = p.polAct := rfl
@[simp] theorem Part.setSl_debt (k : Nat) (e : Slot) : (p.setSl k e).debt = p.debt := rfl
@[simp] theorem Part.setSl_withheld (k : Nat) (e : Slot) : (p.setSl k e).withheld = p.withheld := rfl
@[simp] theorem Part.setSl_tables (k : Nat) (e : Slot) : (p.setSl k e).tables = p.tables := rfl
@[simp] theorem Part.setSl_ort (k : Nat) (e : Slot) : (p.setSl k e).ort = p.ort := rfl
@[simp] theorem Part.setSl_fail (k : Nat) (e : Slot) : (p.setSl k e).fail = p.fail := rfl
@[simp] theorem Part.setSl_jrnl (k : Nat) (e : Slot) : (p.setSl k e).jrnl = p.jrnl := rfl
@[simp] theorem Part.setSl_gates (k : Nat) (e : Slot) : (p.setSl k e).gates = p.gates := rfl
@[simp] theorem Part.setSl_nextGate (k : Nat) (e : Slot) : (p.setSl k e).nextGate = p.nextGate := rfl
@[simp] theorem Part.setSl_waiting (k : Nat) (e : Slot) : (p.setSl k e).waiting = p.waiting := rfl
@[simp] theorem Part.setSl_fences (k : Nat) (e : Slot) : (p.setSl k e).fences = p.fences := rfl
@[simp] theorem Part.setSl_link (k : Nat) (e : Slot) : (p.setSl k e).link = p.link := rfl
@[simp] theorem Part.setSl_txFlow (k : Nat) (e : Slot) : (p.setSl k e).txFlow = p.txFlow := rfl
@[simp] theorem Part.setSl_rxFlow (k : Nat) (e : Slot) : (p.setSl k e).rxFlow = p.rxFlow := rfl
@[simp] theorem Part.setSl_rsqIn (k : Nat) (e : Slot) : (p.setSl k e).rsqIn = p.rsqIn := rfl
@[simp] theorem Part.setSl_combine (k : Nat) (e : Slot) : (p.setSl k e).combine = p.combine := rfl
@[simp] theorem Part.setSl_port (k : Nat) (e : Slot) : (p.setSl k e).port = p.port := rfl
@[simp] theorem Part.setSl_cfg (k : Nat) (e : Slot) : (p.setSl k e).cfg = p.cfg := rfl
@[simp] theorem Part.setSl_sharers (k : Nat) (e : Slot) : (p.setSl k e).sharers = p.sharers := rfl
@[simp] theorem Part.setSl_intx (k : Nat) (e : Slot) : (p.setSl k e).intx = p.intx := rfl
@[simp] theorem Part.setSl_msix (k : Nat) (e : Slot) : (p.setSl k e).msix = p.msix := rfl
@[simp] theorem Part.setSl_flr (k : Nat) (e : Slot) : (p.setSl k e).flr = p.flr := rfl
@[simp] theorem Part.setSl_cfFlr (k : Nat) (e : Slot) : (p.setSl k e).cfFlr = p.cfFlr := rfl
@[simp] theorem Part.setSl_stnRest (k : Nat) (e : Slot) : (p.setSl k e).stnRest = p.stnRest := rfl
@[simp] theorem Part.setSl_chan (k : Nat) (e : Slot) : (p.setSl k e).chan = p.chan := rfl
@[simp] theorem Part.setSl_hist (k : Nat) (e : Slot) : (p.setSl k e).hist = p.hist := rfl
@[simp] theorem Part.setSl_domHist (k : Nat) (e : Slot) : (p.setSl k e).domHist = p.domHist := rfl
@[simp] theorem Part.setSl_ant (k : Nat) (e : Slot) : (p.setSl k e).ant = p.ant := rfl
@[simp] theorem Part.setSl_ffy (k : Nat) (e : Slot) : (p.setSl k e).ffy = p.ffy := rfl
@[simp] theorem Part.setSl_boot (k : Nat) (e : Slot) : (p.setSl k e).boot = p.boot := rfl
@[simp] theorem Part.setSl_time (k : Nat) (e : Slot) : (p.setSl k e).time = p.time := rfl
@[simp] theorem Part.setSl_ibi (k : Nat) (e : Slot) : (p.setSl k e).ibi = p.ibi := rfl
@[simp] theorem Part.setSl_spi (k : Nat) (e : Slot) : (p.setSl k e).spi = p.spi := rfl
@[simp] theorem Part.setSl_flash (k : Nat) (e : Slot) : (p.setSl k e).flash = p.flash := rfl
@[simp] theorem Part.setSl_spare (k : Nat) (e : Slot) : (p.setSl k e).spare = p.spare := rfl
@[simp] theorem Part.setSl_ueRows (k : Nat) (e : Slot) : (p.setSl k e).ueRows = p.ueRows := rfl
@[simp] theorem Part.setSl_jext (k : Nat) (e : Slot) : (p.setSl k e).jext = p.jext := rfl
@[simp] theorem Part.setSl_side (k : Nat) (e : Slot) : (p.setSl k e).side = p.side := rfl
@[simp] theorem Part.setSl_awaited (k : Nat) (e : Slot) : (p.setSl k e).awaited = p.awaited := rfl
@[simp] theorem Part.setSl_credAt (k : Nat) (e : Slot) : (p.setSl k e).credAt = p.credAt := rfl
@[simp] theorem Part.setSl_cplWait (k : Nat) (e : Slot) : (p.setSl k e).cplWait = p.cplWait := rfl
@[simp] theorem Part.setSl_rstDue (k : Nat) (e : Slot) : (p.setSl k e).rstDue = p.rstDue := rfl
@[simp] theorem Part.setSl_doe (k : Nat) (e : Slot) : (p.setSl k e).doe = p.doe := rfl
@[simp] theorem Part.setSl_regUe (k : Nat) (e : Slot) : (p.setSl k e).regUe = p.regUe := rfl
@[simp] theorem Part.setSl_dfe (k : Nat) (e : Slot) : (p.setSl k e).dfe = p.dfe := rfl
@[simp] theorem Part.setSl_farPreset (k : Nat) (e : Slot) : (p.setSl k e).farPreset = p.farPreset := rfl
@[simp] theorem Part.setSl_laneRx (k : Nat) (e : Slot) : (p.setSl k e).laneRx = p.laneRx := rfl
@[simp] theorem Part.setSl_scr (k : Nat) (e : Slot) : (p.setSl k e).scr = p.scr := rfl
@[simp] theorem Part.setSl_lines (k : Nat) (e : Slot) : (p.setSl k e).lines = p.lines := rfl

@[simp] theorem Part.setFr_regs (k : Nat) (f : Option Frame) : (p.setFr k f).regs = p.regs := rfl
@[simp] theorem Part.setFr_now (k : Nat) (f : Option Frame) : (p.setFr k f).now = p.now := rfl
@[simp] theorem Part.setFr_ftime (k : Nat) (f : Option Frame) : (p.setFr k f).ftime = p.ftime := rfl
@[simp] theorem Part.setFr_slew (k : Nat) (f : Option Frame) : (p.setFr k f).slew = p.slew := rfl
@[simp] theorem Part.setFr_out (k : Nat) (f : Option Frame) : (p.setFr k f).out = p.out := rfl
@[simp] theorem Part.setFr_freeCtr (k : Nat) (f : Option Frame) : (p.setFr k f).freeCtr = p.freeCtr := rfl
@[simp] theorem Part.setFr_md (k : Nat) (f : Option Frame) : (p.setFr k f).md = p.md := rfl
@[simp] theorem Part.setFr_posted (k : Nat) (f : Option Frame) : (p.setFr k f).posted = p.posted := rfl
@[simp] theorem Part.setFr_shadow (k : Nat) (f : Option Frame) : (p.setFr k f).shadow = p.shadow := rfl
@[simp] theorem Part.setFr_cell (k : Nat) (f : Option Frame) : (p.setFr k f).cell = p.cell := rfl
@[simp] theorem Part.setFr_nextFrame (k : Nat) (f : Option Frame) : (p.setFr k f).nextFrame = p.nextFrame := rfl
@[simp] theorem Part.setFr_voqs (k : Nat) (f : Option Frame) : (p.setFr k f).voqs = p.voqs := rfl
@[simp] theorem Part.setFr_flights (k : Nat) (f : Option Frame) : (p.setFr k f).flights = p.flights := rfl
@[simp] theorem Part.setFr_residues (k : Nat) (f : Option Frame) : (p.setFr k f).residues = p.residues := rfl
@[simp] theorem Part.setFr_arbA (k : Nat) (f : Option Frame) : (p.setFr k f).arbA = p.arbA := rfl
@[simp] theorem Part.setFr_arbG (k : Nat) (f : Option Frame) : (p.setFr k f).arbG = p.arbG := rfl
@[simp] theorem Part.setFr_arbV (k : Nat) (f : Option Frame) : (p.setFr k f).arbV = p.arbV := rfl
@[simp] theorem Part.setFr_cellTime (k : Nat) (f : Option Frame) : (p.setFr k f).cellTime = p.cellTime := rfl
@[simp] theorem Part.setFr_joining (k : Nat) (f : Option Frame) : (p.setFr k f).joining = p.joining := rfl
@[simp] theorem Part.setFr_starved (k : Nat) (f : Option Frame) : (p.setFr k f).starved = p.starved := rfl
@[simp] theorem Part.setFr_occ (k : Nat) (f : Option Frame) : (p.setFr k f).occ = p.occ := rfl
@[simp] theorem Part.setFr_refused (k : Nat) (f : Option Frame) : (p.setFr k f).refused = p.refused := rfl
@[simp] theorem Part.setFr_backing (k : Nat) (f : Option Frame) : (p.setFr k f).backing = p.backing := rfl
@[simp] theorem Part.setFr_stuck (k : Nat) (f : Option Frame) : (p.setFr k f).stuck = p.stuck := rfl
@[simp] theorem Part.setFr_audit (k : Nat) (f : Option Frame) : (p.setFr k f).audit = p.audit := rfl
@[simp] theorem Part.setFr_tq (k : Nat) (f : Option Frame) : (p.setFr k f).tq = p.tq := rfl
@[simp] theorem Part.setFr_deficit (k : Nat) (f : Option Frame) : (p.setFr k f).deficit = p.deficit := rfl
@[simp] theorem Part.setFr_stale (k : Nat) (f : Option Frame) : (p.setFr k f).stale = p.stale := rfl
@[simp] theorem Part.setFr_tok (k : Nat) (f : Option Frame) : (p.setFr k f).tok = p.tok := rfl
@[simp] theorem Part.setFr_shpAct (k : Nat) (f : Option Frame) : (p.setFr k f).shpAct = p.shpAct := rfl
@[simp] theorem Part.setFr_polTok (k : Nat) (f : Option Frame) : (p.setFr k f).polTok = p.polTok := rfl
@[simp] theorem Part.setFr_polAct (k : Nat) (f : Option Frame) : (p.setFr k f).polAct = p.polAct := rfl
@[simp] theorem Part.setFr_debt (k : Nat) (f : Option Frame) : (p.setFr k f).debt = p.debt := rfl
@[simp] theorem Part.setFr_withheld (k : Nat) (f : Option Frame) : (p.setFr k f).withheld = p.withheld := rfl
@[simp] theorem Part.setFr_tables (k : Nat) (f : Option Frame) : (p.setFr k f).tables = p.tables := rfl
@[simp] theorem Part.setFr_ort (k : Nat) (f : Option Frame) : (p.setFr k f).ort = p.ort := rfl
@[simp] theorem Part.setFr_ledger (k : Nat) (f : Option Frame) : (p.setFr k f).ledger = p.ledger := rfl
@[simp] theorem Part.setFr_fail (k : Nat) (f : Option Frame) : (p.setFr k f).fail = p.fail := rfl
@[simp] theorem Part.setFr_jrnl (k : Nat) (f : Option Frame) : (p.setFr k f).jrnl = p.jrnl := rfl
@[simp] theorem Part.setFr_gates (k : Nat) (f : Option Frame) : (p.setFr k f).gates = p.gates := rfl
@[simp] theorem Part.setFr_nextGate (k : Nat) (f : Option Frame) : (p.setFr k f).nextGate = p.nextGate := rfl
@[simp] theorem Part.setFr_waiting (k : Nat) (f : Option Frame) : (p.setFr k f).waiting = p.waiting := rfl
@[simp] theorem Part.setFr_fences (k : Nat) (f : Option Frame) : (p.setFr k f).fences = p.fences := rfl
@[simp] theorem Part.setFr_link (k : Nat) (f : Option Frame) : (p.setFr k f).link = p.link := rfl
@[simp] theorem Part.setFr_txFlow (k : Nat) (f : Option Frame) : (p.setFr k f).txFlow = p.txFlow := rfl
@[simp] theorem Part.setFr_rxFlow (k : Nat) (f : Option Frame) : (p.setFr k f).rxFlow = p.rxFlow := rfl
@[simp] theorem Part.setFr_rsqIn (k : Nat) (f : Option Frame) : (p.setFr k f).rsqIn = p.rsqIn := rfl
@[simp] theorem Part.setFr_combine (k : Nat) (f : Option Frame) : (p.setFr k f).combine = p.combine := rfl
@[simp] theorem Part.setFr_port (k : Nat) (f : Option Frame) : (p.setFr k f).port = p.port := rfl
@[simp] theorem Part.setFr_cfg (k : Nat) (f : Option Frame) : (p.setFr k f).cfg = p.cfg := rfl
@[simp] theorem Part.setFr_sharers (k : Nat) (f : Option Frame) : (p.setFr k f).sharers = p.sharers := rfl
@[simp] theorem Part.setFr_intx (k : Nat) (f : Option Frame) : (p.setFr k f).intx = p.intx := rfl
@[simp] theorem Part.setFr_msix (k : Nat) (f : Option Frame) : (p.setFr k f).msix = p.msix := rfl
@[simp] theorem Part.setFr_flr (k : Nat) (f : Option Frame) : (p.setFr k f).flr = p.flr := rfl
@[simp] theorem Part.setFr_cfFlr (k : Nat) (f : Option Frame) : (p.setFr k f).cfFlr = p.cfFlr := rfl
@[simp] theorem Part.setFr_stnRest (k : Nat) (f : Option Frame) : (p.setFr k f).stnRest = p.stnRest := rfl
@[simp] theorem Part.setFr_chan (k : Nat) (f : Option Frame) : (p.setFr k f).chan = p.chan := rfl
@[simp] theorem Part.setFr_hist (k : Nat) (f : Option Frame) : (p.setFr k f).hist = p.hist := rfl
@[simp] theorem Part.setFr_domHist (k : Nat) (f : Option Frame) : (p.setFr k f).domHist = p.domHist := rfl
@[simp] theorem Part.setFr_ant (k : Nat) (f : Option Frame) : (p.setFr k f).ant = p.ant := rfl
@[simp] theorem Part.setFr_ffy (k : Nat) (f : Option Frame) : (p.setFr k f).ffy = p.ffy := rfl
@[simp] theorem Part.setFr_boot (k : Nat) (f : Option Frame) : (p.setFr k f).boot = p.boot := rfl
@[simp] theorem Part.setFr_time (k : Nat) (f : Option Frame) : (p.setFr k f).time = p.time := rfl
@[simp] theorem Part.setFr_ibi (k : Nat) (f : Option Frame) : (p.setFr k f).ibi = p.ibi := rfl
@[simp] theorem Part.setFr_spi (k : Nat) (f : Option Frame) : (p.setFr k f).spi = p.spi := rfl
@[simp] theorem Part.setFr_flash (k : Nat) (f : Option Frame) : (p.setFr k f).flash = p.flash := rfl
@[simp] theorem Part.setFr_spare (k : Nat) (f : Option Frame) : (p.setFr k f).spare = p.spare := rfl
@[simp] theorem Part.setFr_ueRows (k : Nat) (f : Option Frame) : (p.setFr k f).ueRows = p.ueRows := rfl
@[simp] theorem Part.setFr_jext (k : Nat) (f : Option Frame) : (p.setFr k f).jext = p.jext := rfl
@[simp] theorem Part.setFr_side (k : Nat) (f : Option Frame) : (p.setFr k f).side = p.side := rfl
@[simp] theorem Part.setFr_awaited (k : Nat) (f : Option Frame) : (p.setFr k f).awaited = p.awaited := rfl
@[simp] theorem Part.setFr_credAt (k : Nat) (f : Option Frame) : (p.setFr k f).credAt = p.credAt := rfl
@[simp] theorem Part.setFr_cplWait (k : Nat) (f : Option Frame) : (p.setFr k f).cplWait = p.cplWait := rfl
@[simp] theorem Part.setFr_rstDue (k : Nat) (f : Option Frame) : (p.setFr k f).rstDue = p.rstDue := rfl
@[simp] theorem Part.setFr_doe (k : Nat) (f : Option Frame) : (p.setFr k f).doe = p.doe := rfl
@[simp] theorem Part.setFr_regUe (k : Nat) (f : Option Frame) : (p.setFr k f).regUe = p.regUe := rfl
@[simp] theorem Part.setFr_dfe (k : Nat) (f : Option Frame) : (p.setFr k f).dfe = p.dfe := rfl
@[simp] theorem Part.setFr_farPreset (k : Nat) (f : Option Frame) : (p.setFr k f).farPreset = p.farPreset := rfl
@[simp] theorem Part.setFr_laneRx (k : Nat) (f : Option Frame) : (p.setFr k f).laneRx = p.laneRx := rfl
@[simp] theorem Part.setFr_scr (k : Nat) (f : Option Frame) : (p.setFr k f).scr = p.scr := rfl
@[simp] theorem Part.setFr_lines (k : Nat) (f : Option Frame) : (p.setFr k f).lines = p.lines := rfl

@[simp] theorem Part.setCr_regs (c : Nat) (r : CellRec) : (p.setCr c r).regs = p.regs := rfl
@[simp] theorem Part.setCr_now (c : Nat) (r : CellRec) : (p.setCr c r).now = p.now := rfl
@[simp] theorem Part.setCr_ftime (c : Nat) (r : CellRec) : (p.setCr c r).ftime = p.ftime := rfl
@[simp] theorem Part.setCr_slew (c : Nat) (r : CellRec) : (p.setCr c r).slew = p.slew := rfl
@[simp] theorem Part.setCr_out (c : Nat) (r : CellRec) : (p.setCr c r).out = p.out := rfl
@[simp] theorem Part.setCr_freeCtr (c : Nat) (r : CellRec) : (p.setCr c r).freeCtr = p.freeCtr := rfl
@[simp] theorem Part.setCr_md (c : Nat) (r : CellRec) : (p.setCr c r).md = p.md := rfl
@[simp] theorem Part.setCr_posted (c : Nat) (r : CellRec) : (p.setCr c r).posted = p.posted := rfl
@[simp] theorem Part.setCr_shadow (c : Nat) (r : CellRec) : (p.setCr c r).shadow = p.shadow := rfl
@[simp] theorem Part.setCr_frames (c : Nat) (r : CellRec) : (p.setCr c r).frames = p.frames := rfl
@[simp] theorem Part.setCr_nextFrame (c : Nat) (r : CellRec) : (p.setCr c r).nextFrame = p.nextFrame := rfl
@[simp] theorem Part.setCr_voqs (c : Nat) (r : CellRec) : (p.setCr c r).voqs = p.voqs := rfl
@[simp] theorem Part.setCr_flights (c : Nat) (r : CellRec) : (p.setCr c r).flights = p.flights := rfl
@[simp] theorem Part.setCr_residues (c : Nat) (r : CellRec) : (p.setCr c r).residues = p.residues := rfl
@[simp] theorem Part.setCr_arbA (c : Nat) (r : CellRec) : (p.setCr c r).arbA = p.arbA := rfl
@[simp] theorem Part.setCr_arbG (c : Nat) (r : CellRec) : (p.setCr c r).arbG = p.arbG := rfl
@[simp] theorem Part.setCr_arbV (c : Nat) (r : CellRec) : (p.setCr c r).arbV = p.arbV := rfl
@[simp] theorem Part.setCr_cellTime (c : Nat) (r : CellRec) : (p.setCr c r).cellTime = p.cellTime := rfl
@[simp] theorem Part.setCr_joining (c : Nat) (r : CellRec) : (p.setCr c r).joining = p.joining := rfl
@[simp] theorem Part.setCr_starved (c : Nat) (r : CellRec) : (p.setCr c r).starved = p.starved := rfl
@[simp] theorem Part.setCr_occ (c : Nat) (r : CellRec) : (p.setCr c r).occ = p.occ := rfl
@[simp] theorem Part.setCr_refused (c : Nat) (r : CellRec) : (p.setCr c r).refused = p.refused := rfl
@[simp] theorem Part.setCr_backing (c : Nat) (r : CellRec) : (p.setCr c r).backing = p.backing := rfl
@[simp] theorem Part.setCr_stuck (c : Nat) (r : CellRec) : (p.setCr c r).stuck = p.stuck := rfl
@[simp] theorem Part.setCr_audit (c : Nat) (r : CellRec) : (p.setCr c r).audit = p.audit := rfl
@[simp] theorem Part.setCr_tq (c : Nat) (r : CellRec) : (p.setCr c r).tq = p.tq := rfl
@[simp] theorem Part.setCr_deficit (c : Nat) (r : CellRec) : (p.setCr c r).deficit = p.deficit := rfl
@[simp] theorem Part.setCr_stale (c : Nat) (r : CellRec) : (p.setCr c r).stale = p.stale := rfl
@[simp] theorem Part.setCr_tok (c : Nat) (r : CellRec) : (p.setCr c r).tok = p.tok := rfl
@[simp] theorem Part.setCr_shpAct (c : Nat) (r : CellRec) : (p.setCr c r).shpAct = p.shpAct := rfl
@[simp] theorem Part.setCr_polTok (c : Nat) (r : CellRec) : (p.setCr c r).polTok = p.polTok := rfl
@[simp] theorem Part.setCr_polAct (c : Nat) (r : CellRec) : (p.setCr c r).polAct = p.polAct := rfl
@[simp] theorem Part.setCr_debt (c : Nat) (r : CellRec) : (p.setCr c r).debt = p.debt := rfl
@[simp] theorem Part.setCr_withheld (c : Nat) (r : CellRec) : (p.setCr c r).withheld = p.withheld := rfl
@[simp] theorem Part.setCr_tables (c : Nat) (r : CellRec) : (p.setCr c r).tables = p.tables := rfl
@[simp] theorem Part.setCr_ort (c : Nat) (r : CellRec) : (p.setCr c r).ort = p.ort := rfl
@[simp] theorem Part.setCr_ledger (c : Nat) (r : CellRec) : (p.setCr c r).ledger = p.ledger := rfl
@[simp] theorem Part.setCr_fail (c : Nat) (r : CellRec) : (p.setCr c r).fail = p.fail := rfl
@[simp] theorem Part.setCr_jrnl (c : Nat) (r : CellRec) : (p.setCr c r).jrnl = p.jrnl := rfl
@[simp] theorem Part.setCr_gates (c : Nat) (r : CellRec) : (p.setCr c r).gates = p.gates := rfl
@[simp] theorem Part.setCr_nextGate (c : Nat) (r : CellRec) : (p.setCr c r).nextGate = p.nextGate := rfl
@[simp] theorem Part.setCr_waiting (c : Nat) (r : CellRec) : (p.setCr c r).waiting = p.waiting := rfl
@[simp] theorem Part.setCr_fences (c : Nat) (r : CellRec) : (p.setCr c r).fences = p.fences := rfl
@[simp] theorem Part.setCr_link (c : Nat) (r : CellRec) : (p.setCr c r).link = p.link := rfl
@[simp] theorem Part.setCr_txFlow (c : Nat) (r : CellRec) : (p.setCr c r).txFlow = p.txFlow := rfl
@[simp] theorem Part.setCr_rxFlow (c : Nat) (r : CellRec) : (p.setCr c r).rxFlow = p.rxFlow := rfl
@[simp] theorem Part.setCr_rsqIn (c : Nat) (r : CellRec) : (p.setCr c r).rsqIn = p.rsqIn := rfl
@[simp] theorem Part.setCr_combine (c : Nat) (r : CellRec) : (p.setCr c r).combine = p.combine := rfl
@[simp] theorem Part.setCr_port (c : Nat) (r : CellRec) : (p.setCr c r).port = p.port := rfl
@[simp] theorem Part.setCr_cfg (c : Nat) (r : CellRec) : (p.setCr c r).cfg = p.cfg := rfl
@[simp] theorem Part.setCr_sharers (c : Nat) (r : CellRec) : (p.setCr c r).sharers = p.sharers := rfl
@[simp] theorem Part.setCr_intx (c : Nat) (r : CellRec) : (p.setCr c r).intx = p.intx := rfl
@[simp] theorem Part.setCr_msix (c : Nat) (r : CellRec) : (p.setCr c r).msix = p.msix := rfl
@[simp] theorem Part.setCr_flr (c : Nat) (r : CellRec) : (p.setCr c r).flr = p.flr := rfl
@[simp] theorem Part.setCr_cfFlr (c : Nat) (r : CellRec) : (p.setCr c r).cfFlr = p.cfFlr := rfl
@[simp] theorem Part.setCr_stnRest (c : Nat) (r : CellRec) : (p.setCr c r).stnRest = p.stnRest := rfl
@[simp] theorem Part.setCr_chan (c : Nat) (r : CellRec) : (p.setCr c r).chan = p.chan := rfl
@[simp] theorem Part.setCr_hist (c : Nat) (r : CellRec) : (p.setCr c r).hist = p.hist := rfl
@[simp] theorem Part.setCr_domHist (c : Nat) (r : CellRec) : (p.setCr c r).domHist = p.domHist := rfl
@[simp] theorem Part.setCr_ant (c : Nat) (r : CellRec) : (p.setCr c r).ant = p.ant := rfl
@[simp] theorem Part.setCr_ffy (c : Nat) (r : CellRec) : (p.setCr c r).ffy = p.ffy := rfl
@[simp] theorem Part.setCr_boot (c : Nat) (r : CellRec) : (p.setCr c r).boot = p.boot := rfl
@[simp] theorem Part.setCr_time (c : Nat) (r : CellRec) : (p.setCr c r).time = p.time := rfl
@[simp] theorem Part.setCr_ibi (c : Nat) (r : CellRec) : (p.setCr c r).ibi = p.ibi := rfl
@[simp] theorem Part.setCr_spi (c : Nat) (r : CellRec) : (p.setCr c r).spi = p.spi := rfl
@[simp] theorem Part.setCr_flash (c : Nat) (r : CellRec) : (p.setCr c r).flash = p.flash := rfl
@[simp] theorem Part.setCr_spare (c : Nat) (r : CellRec) : (p.setCr c r).spare = p.spare := rfl
@[simp] theorem Part.setCr_ueRows (c : Nat) (r : CellRec) : (p.setCr c r).ueRows = p.ueRows := rfl
@[simp] theorem Part.setCr_jext (c : Nat) (r : CellRec) : (p.setCr c r).jext = p.jext := rfl
@[simp] theorem Part.setCr_side (c : Nat) (r : CellRec) : (p.setCr c r).side = p.side := rfl
@[simp] theorem Part.setCr_awaited (c : Nat) (r : CellRec) : (p.setCr c r).awaited = p.awaited := rfl
@[simp] theorem Part.setCr_credAt (c : Nat) (r : CellRec) : (p.setCr c r).credAt = p.credAt := rfl
@[simp] theorem Part.setCr_cplWait (c : Nat) (r : CellRec) : (p.setCr c r).cplWait = p.cplWait := rfl
@[simp] theorem Part.setCr_rstDue (c : Nat) (r : CellRec) : (p.setCr c r).rstDue = p.rstDue := rfl
@[simp] theorem Part.setCr_doe (c : Nat) (r : CellRec) : (p.setCr c r).doe = p.doe := rfl
@[simp] theorem Part.setCr_regUe (c : Nat) (r : CellRec) : (p.setCr c r).regUe = p.regUe := rfl
@[simp] theorem Part.setCr_dfe (c : Nat) (r : CellRec) : (p.setCr c r).dfe = p.dfe := rfl
@[simp] theorem Part.setCr_farPreset (c : Nat) (r : CellRec) : (p.setCr c r).farPreset = p.farPreset := rfl
@[simp] theorem Part.setCr_laneRx (c : Nat) (r : CellRec) : (p.setCr c r).laneRx = p.laneRx := rfl
@[simp] theorem Part.setCr_scr (c : Nat) (r : CellRec) : (p.setCr c r).scr = p.scr := rfl
@[simp] theorem Part.setCr_lines (c : Nat) (r : CellRec) : (p.setCr c r).lines = p.lines := rfl

@[simp] theorem Part.setVoq_regs (k : Nat) (l : List Nat) : (p.setVoq k l).regs = p.regs := rfl
@[simp] theorem Part.setVoq_now (k : Nat) (l : List Nat) : (p.setVoq k l).now = p.now := rfl
@[simp] theorem Part.setVoq_ftime (k : Nat) (l : List Nat) : (p.setVoq k l).ftime = p.ftime := rfl
@[simp] theorem Part.setVoq_slew (k : Nat) (l : List Nat) : (p.setVoq k l).slew = p.slew := rfl
@[simp] theorem Part.setVoq_out (k : Nat) (l : List Nat) : (p.setVoq k l).out = p.out := rfl
@[simp] theorem Part.setVoq_freeCtr (k : Nat) (l : List Nat) : (p.setVoq k l).freeCtr = p.freeCtr := rfl
@[simp] theorem Part.setVoq_md (k : Nat) (l : List Nat) : (p.setVoq k l).md = p.md := rfl
@[simp] theorem Part.setVoq_posted (k : Nat) (l : List Nat) : (p.setVoq k l).posted = p.posted := rfl
@[simp] theorem Part.setVoq_shadow (k : Nat) (l : List Nat) : (p.setVoq k l).shadow = p.shadow := rfl
@[simp] theorem Part.setVoq_cell (k : Nat) (l : List Nat) : (p.setVoq k l).cell = p.cell := rfl
@[simp] theorem Part.setVoq_frames (k : Nat) (l : List Nat) : (p.setVoq k l).frames = p.frames := rfl
@[simp] theorem Part.setVoq_nextFrame (k : Nat) (l : List Nat) : (p.setVoq k l).nextFrame = p.nextFrame := rfl
@[simp] theorem Part.setVoq_flights (k : Nat) (l : List Nat) : (p.setVoq k l).flights = p.flights := rfl
@[simp] theorem Part.setVoq_residues (k : Nat) (l : List Nat) : (p.setVoq k l).residues = p.residues := rfl
@[simp] theorem Part.setVoq_arbA (k : Nat) (l : List Nat) : (p.setVoq k l).arbA = p.arbA := rfl
@[simp] theorem Part.setVoq_arbG (k : Nat) (l : List Nat) : (p.setVoq k l).arbG = p.arbG := rfl
@[simp] theorem Part.setVoq_arbV (k : Nat) (l : List Nat) : (p.setVoq k l).arbV = p.arbV := rfl
@[simp] theorem Part.setVoq_cellTime (k : Nat) (l : List Nat) : (p.setVoq k l).cellTime = p.cellTime := rfl
@[simp] theorem Part.setVoq_joining (k : Nat) (l : List Nat) : (p.setVoq k l).joining = p.joining := rfl
@[simp] theorem Part.setVoq_starved (k : Nat) (l : List Nat) : (p.setVoq k l).starved = p.starved := rfl
@[simp] theorem Part.setVoq_occ (k : Nat) (l : List Nat) : (p.setVoq k l).occ = p.occ := rfl
@[simp] theorem Part.setVoq_refused (k : Nat) (l : List Nat) : (p.setVoq k l).refused = p.refused := rfl
@[simp] theorem Part.setVoq_backing (k : Nat) (l : List Nat) : (p.setVoq k l).backing = p.backing := rfl
@[simp] theorem Part.setVoq_stuck (k : Nat) (l : List Nat) : (p.setVoq k l).stuck = p.stuck := rfl
@[simp] theorem Part.setVoq_audit (k : Nat) (l : List Nat) : (p.setVoq k l).audit = p.audit := rfl
@[simp] theorem Part.setVoq_tq (k : Nat) (l : List Nat) : (p.setVoq k l).tq = p.tq := rfl
@[simp] theorem Part.setVoq_deficit (k : Nat) (l : List Nat) : (p.setVoq k l).deficit = p.deficit := rfl
@[simp] theorem Part.setVoq_stale (k : Nat) (l : List Nat) : (p.setVoq k l).stale = p.stale := rfl
@[simp] theorem Part.setVoq_tok (k : Nat) (l : List Nat) : (p.setVoq k l).tok = p.tok := rfl
@[simp] theorem Part.setVoq_shpAct (k : Nat) (l : List Nat) : (p.setVoq k l).shpAct = p.shpAct := rfl
@[simp] theorem Part.setVoq_polTok (k : Nat) (l : List Nat) : (p.setVoq k l).polTok = p.polTok := rfl
@[simp] theorem Part.setVoq_polAct (k : Nat) (l : List Nat) : (p.setVoq k l).polAct = p.polAct := rfl
@[simp] theorem Part.setVoq_debt (k : Nat) (l : List Nat) : (p.setVoq k l).debt = p.debt := rfl
@[simp] theorem Part.setVoq_withheld (k : Nat) (l : List Nat) : (p.setVoq k l).withheld = p.withheld := rfl
@[simp] theorem Part.setVoq_tables (k : Nat) (l : List Nat) : (p.setVoq k l).tables = p.tables := rfl
@[simp] theorem Part.setVoq_ort (k : Nat) (l : List Nat) : (p.setVoq k l).ort = p.ort := rfl
@[simp] theorem Part.setVoq_ledger (k : Nat) (l : List Nat) : (p.setVoq k l).ledger = p.ledger := rfl
@[simp] theorem Part.setVoq_fail (k : Nat) (l : List Nat) : (p.setVoq k l).fail = p.fail := rfl
@[simp] theorem Part.setVoq_jrnl (k : Nat) (l : List Nat) : (p.setVoq k l).jrnl = p.jrnl := rfl
@[simp] theorem Part.setVoq_gates (k : Nat) (l : List Nat) : (p.setVoq k l).gates = p.gates := rfl
@[simp] theorem Part.setVoq_nextGate (k : Nat) (l : List Nat) : (p.setVoq k l).nextGate = p.nextGate := rfl
@[simp] theorem Part.setVoq_waiting (k : Nat) (l : List Nat) : (p.setVoq k l).waiting = p.waiting := rfl
@[simp] theorem Part.setVoq_fences (k : Nat) (l : List Nat) : (p.setVoq k l).fences = p.fences := rfl
@[simp] theorem Part.setVoq_link (k : Nat) (l : List Nat) : (p.setVoq k l).link = p.link := rfl
@[simp] theorem Part.setVoq_txFlow (k : Nat) (l : List Nat) : (p.setVoq k l).txFlow = p.txFlow := rfl
@[simp] theorem Part.setVoq_rxFlow (k : Nat) (l : List Nat) : (p.setVoq k l).rxFlow = p.rxFlow := rfl
@[simp] theorem Part.setVoq_rsqIn (k : Nat) (l : List Nat) : (p.setVoq k l).rsqIn = p.rsqIn := rfl
@[simp] theorem Part.setVoq_combine (k : Nat) (l : List Nat) : (p.setVoq k l).combine = p.combine := rfl
@[simp] theorem Part.setVoq_port (k : Nat) (l : List Nat) : (p.setVoq k l).port = p.port := rfl
@[simp] theorem Part.setVoq_cfg (k : Nat) (l : List Nat) : (p.setVoq k l).cfg = p.cfg := rfl
@[simp] theorem Part.setVoq_sharers (k : Nat) (l : List Nat) : (p.setVoq k l).sharers = p.sharers := rfl
@[simp] theorem Part.setVoq_intx (k : Nat) (l : List Nat) : (p.setVoq k l).intx = p.intx := rfl
@[simp] theorem Part.setVoq_msix (k : Nat) (l : List Nat) : (p.setVoq k l).msix = p.msix := rfl
@[simp] theorem Part.setVoq_flr (k : Nat) (l : List Nat) : (p.setVoq k l).flr = p.flr := rfl
@[simp] theorem Part.setVoq_cfFlr (k : Nat) (l : List Nat) : (p.setVoq k l).cfFlr = p.cfFlr := rfl
@[simp] theorem Part.setVoq_stnRest (k : Nat) (l : List Nat) : (p.setVoq k l).stnRest = p.stnRest := rfl
@[simp] theorem Part.setVoq_chan (k : Nat) (l : List Nat) : (p.setVoq k l).chan = p.chan := rfl
@[simp] theorem Part.setVoq_hist (k : Nat) (l : List Nat) : (p.setVoq k l).hist = p.hist := rfl
@[simp] theorem Part.setVoq_domHist (k : Nat) (l : List Nat) : (p.setVoq k l).domHist = p.domHist := rfl
@[simp] theorem Part.setVoq_ant (k : Nat) (l : List Nat) : (p.setVoq k l).ant = p.ant := rfl
@[simp] theorem Part.setVoq_ffy (k : Nat) (l : List Nat) : (p.setVoq k l).ffy = p.ffy := rfl
@[simp] theorem Part.setVoq_boot (k : Nat) (l : List Nat) : (p.setVoq k l).boot = p.boot := rfl
@[simp] theorem Part.setVoq_time (k : Nat) (l : List Nat) : (p.setVoq k l).time = p.time := rfl
@[simp] theorem Part.setVoq_ibi (k : Nat) (l : List Nat) : (p.setVoq k l).ibi = p.ibi := rfl
@[simp] theorem Part.setVoq_spi (k : Nat) (l : List Nat) : (p.setVoq k l).spi = p.spi := rfl
@[simp] theorem Part.setVoq_flash (k : Nat) (l : List Nat) : (p.setVoq k l).flash = p.flash := rfl
@[simp] theorem Part.setVoq_spare (k : Nat) (l : List Nat) : (p.setVoq k l).spare = p.spare := rfl
@[simp] theorem Part.setVoq_ueRows (k : Nat) (l : List Nat) : (p.setVoq k l).ueRows = p.ueRows := rfl
@[simp] theorem Part.setVoq_jext (k : Nat) (l : List Nat) : (p.setVoq k l).jext = p.jext := rfl
@[simp] theorem Part.setVoq_side (k : Nat) (l : List Nat) : (p.setVoq k l).side = p.side := rfl
@[simp] theorem Part.setVoq_awaited (k : Nat) (l : List Nat) : (p.setVoq k l).awaited = p.awaited := rfl
@[simp] theorem Part.setVoq_credAt (k : Nat) (l : List Nat) : (p.setVoq k l).credAt = p.credAt := rfl
@[simp] theorem Part.setVoq_cplWait (k : Nat) (l : List Nat) : (p.setVoq k l).cplWait = p.cplWait := rfl
@[simp] theorem Part.setVoq_rstDue (k : Nat) (l : List Nat) : (p.setVoq k l).rstDue = p.rstDue := rfl
@[simp] theorem Part.setVoq_doe (k : Nat) (l : List Nat) : (p.setVoq k l).doe = p.doe := rfl
@[simp] theorem Part.setVoq_regUe (k : Nat) (l : List Nat) : (p.setVoq k l).regUe = p.regUe := rfl
@[simp] theorem Part.setVoq_dfe (k : Nat) (l : List Nat) : (p.setVoq k l).dfe = p.dfe := rfl
@[simp] theorem Part.setVoq_farPreset (k : Nat) (l : List Nat) : (p.setVoq k l).farPreset = p.farPreset := rfl
@[simp] theorem Part.setVoq_laneRx (k : Nat) (l : List Nat) : (p.setVoq k l).laneRx = p.laneRx := rfl
@[simp] theorem Part.setVoq_scr (k : Nat) (l : List Nat) : (p.setVoq k l).scr = p.scr := rfl
@[simp] theorem Part.setVoq_lines (k : Nat) (l : List Nat) : (p.setVoq k l).lines = p.lines := rfl

@[simp] theorem Part.setCh_regs (k : Nat) (c : Chan) : (p.setCh k c).regs = p.regs := rfl
@[simp] theorem Part.setCh_now (k : Nat) (c : Chan) : (p.setCh k c).now = p.now := rfl
@[simp] theorem Part.setCh_ftime (k : Nat) (c : Chan) : (p.setCh k c).ftime = p.ftime := rfl
@[simp] theorem Part.setCh_slew (k : Nat) (c : Chan) : (p.setCh k c).slew = p.slew := rfl
@[simp] theorem Part.setCh_out (k : Nat) (c : Chan) : (p.setCh k c).out = p.out := rfl
@[simp] theorem Part.setCh_freeCtr (k : Nat) (c : Chan) : (p.setCh k c).freeCtr = p.freeCtr := rfl
@[simp] theorem Part.setCh_md (k : Nat) (c : Chan) : (p.setCh k c).md = p.md := rfl
@[simp] theorem Part.setCh_posted (k : Nat) (c : Chan) : (p.setCh k c).posted = p.posted := rfl
@[simp] theorem Part.setCh_shadow (k : Nat) (c : Chan) : (p.setCh k c).shadow = p.shadow := rfl
@[simp] theorem Part.setCh_cell (k : Nat) (c : Chan) : (p.setCh k c).cell = p.cell := rfl
@[simp] theorem Part.setCh_frames (k : Nat) (c : Chan) : (p.setCh k c).frames = p.frames := rfl
@[simp] theorem Part.setCh_nextFrame (k : Nat) (c : Chan) : (p.setCh k c).nextFrame = p.nextFrame := rfl
@[simp] theorem Part.setCh_voqs (k : Nat) (c : Chan) : (p.setCh k c).voqs = p.voqs := rfl
@[simp] theorem Part.setCh_flights (k : Nat) (c : Chan) : (p.setCh k c).flights = p.flights := rfl
@[simp] theorem Part.setCh_residues (k : Nat) (c : Chan) : (p.setCh k c).residues = p.residues := rfl
@[simp] theorem Part.setCh_arbA (k : Nat) (c : Chan) : (p.setCh k c).arbA = p.arbA := rfl
@[simp] theorem Part.setCh_arbG (k : Nat) (c : Chan) : (p.setCh k c).arbG = p.arbG := rfl
@[simp] theorem Part.setCh_arbV (k : Nat) (c : Chan) : (p.setCh k c).arbV = p.arbV := rfl
@[simp] theorem Part.setCh_cellTime (k : Nat) (c : Chan) : (p.setCh k c).cellTime = p.cellTime := rfl
@[simp] theorem Part.setCh_joining (k : Nat) (c : Chan) : (p.setCh k c).joining = p.joining := rfl
@[simp] theorem Part.setCh_starved (k : Nat) (c : Chan) : (p.setCh k c).starved = p.starved := rfl
@[simp] theorem Part.setCh_occ (k : Nat) (c : Chan) : (p.setCh k c).occ = p.occ := rfl
@[simp] theorem Part.setCh_refused (k : Nat) (c : Chan) : (p.setCh k c).refused = p.refused := rfl
@[simp] theorem Part.setCh_backing (k : Nat) (c : Chan) : (p.setCh k c).backing = p.backing := rfl
@[simp] theorem Part.setCh_stuck (k : Nat) (c : Chan) : (p.setCh k c).stuck = p.stuck := rfl
@[simp] theorem Part.setCh_audit (k : Nat) (c : Chan) : (p.setCh k c).audit = p.audit := rfl
@[simp] theorem Part.setCh_tq (k : Nat) (c : Chan) : (p.setCh k c).tq = p.tq := rfl
@[simp] theorem Part.setCh_deficit (k : Nat) (c : Chan) : (p.setCh k c).deficit = p.deficit := rfl
@[simp] theorem Part.setCh_stale (k : Nat) (c : Chan) : (p.setCh k c).stale = p.stale := rfl
@[simp] theorem Part.setCh_tok (k : Nat) (c : Chan) : (p.setCh k c).tok = p.tok := rfl
@[simp] theorem Part.setCh_shpAct (k : Nat) (c : Chan) : (p.setCh k c).shpAct = p.shpAct := rfl
@[simp] theorem Part.setCh_polTok (k : Nat) (c : Chan) : (p.setCh k c).polTok = p.polTok := rfl
@[simp] theorem Part.setCh_polAct (k : Nat) (c : Chan) : (p.setCh k c).polAct = p.polAct := rfl
@[simp] theorem Part.setCh_debt (k : Nat) (c : Chan) : (p.setCh k c).debt = p.debt := rfl
@[simp] theorem Part.setCh_withheld (k : Nat) (c : Chan) : (p.setCh k c).withheld = p.withheld := rfl
@[simp] theorem Part.setCh_tables (k : Nat) (c : Chan) : (p.setCh k c).tables = p.tables := rfl
@[simp] theorem Part.setCh_ort (k : Nat) (c : Chan) : (p.setCh k c).ort = p.ort := rfl
@[simp] theorem Part.setCh_ledger (k : Nat) (c : Chan) : (p.setCh k c).ledger = p.ledger := rfl
@[simp] theorem Part.setCh_fail (k : Nat) (c : Chan) : (p.setCh k c).fail = p.fail := rfl
@[simp] theorem Part.setCh_jrnl (k : Nat) (c : Chan) : (p.setCh k c).jrnl = p.jrnl := rfl
@[simp] theorem Part.setCh_gates (k : Nat) (c : Chan) : (p.setCh k c).gates = p.gates := rfl
@[simp] theorem Part.setCh_nextGate (k : Nat) (c : Chan) : (p.setCh k c).nextGate = p.nextGate := rfl
@[simp] theorem Part.setCh_waiting (k : Nat) (c : Chan) : (p.setCh k c).waiting = p.waiting := rfl
@[simp] theorem Part.setCh_fences (k : Nat) (c : Chan) : (p.setCh k c).fences = p.fences := rfl
@[simp] theorem Part.setCh_link (k : Nat) (c : Chan) : (p.setCh k c).link = p.link := rfl
@[simp] theorem Part.setCh_txFlow (k : Nat) (c : Chan) : (p.setCh k c).txFlow = p.txFlow := rfl
@[simp] theorem Part.setCh_rxFlow (k : Nat) (c : Chan) : (p.setCh k c).rxFlow = p.rxFlow := rfl
@[simp] theorem Part.setCh_rsqIn (k : Nat) (c : Chan) : (p.setCh k c).rsqIn = p.rsqIn := rfl
@[simp] theorem Part.setCh_combine (k : Nat) (c : Chan) : (p.setCh k c).combine = p.combine := rfl
@[simp] theorem Part.setCh_port (k : Nat) (c : Chan) : (p.setCh k c).port = p.port := rfl
@[simp] theorem Part.setCh_cfg (k : Nat) (c : Chan) : (p.setCh k c).cfg = p.cfg := rfl
@[simp] theorem Part.setCh_sharers (k : Nat) (c : Chan) : (p.setCh k c).sharers = p.sharers := rfl
@[simp] theorem Part.setCh_intx (k : Nat) (c : Chan) : (p.setCh k c).intx = p.intx := rfl
@[simp] theorem Part.setCh_msix (k : Nat) (c : Chan) : (p.setCh k c).msix = p.msix := rfl
@[simp] theorem Part.setCh_flr (k : Nat) (c : Chan) : (p.setCh k c).flr = p.flr := rfl
@[simp] theorem Part.setCh_cfFlr (k : Nat) (c : Chan) : (p.setCh k c).cfFlr = p.cfFlr := rfl
@[simp] theorem Part.setCh_stnRest (k : Nat) (c : Chan) : (p.setCh k c).stnRest = p.stnRest := rfl
@[simp] theorem Part.setCh_hist (k : Nat) (c : Chan) : (p.setCh k c).hist = p.hist := rfl
@[simp] theorem Part.setCh_domHist (k : Nat) (c : Chan) : (p.setCh k c).domHist = p.domHist := rfl
@[simp] theorem Part.setCh_ant (k : Nat) (c : Chan) : (p.setCh k c).ant = p.ant := rfl
@[simp] theorem Part.setCh_ffy (k : Nat) (c : Chan) : (p.setCh k c).ffy = p.ffy := rfl
@[simp] theorem Part.setCh_boot (k : Nat) (c : Chan) : (p.setCh k c).boot = p.boot := rfl
@[simp] theorem Part.setCh_time (k : Nat) (c : Chan) : (p.setCh k c).time = p.time := rfl
@[simp] theorem Part.setCh_ibi (k : Nat) (c : Chan) : (p.setCh k c).ibi = p.ibi := rfl
@[simp] theorem Part.setCh_spi (k : Nat) (c : Chan) : (p.setCh k c).spi = p.spi := rfl
@[simp] theorem Part.setCh_flash (k : Nat) (c : Chan) : (p.setCh k c).flash = p.flash := rfl
@[simp] theorem Part.setCh_spare (k : Nat) (c : Chan) : (p.setCh k c).spare = p.spare := rfl
@[simp] theorem Part.setCh_ueRows (k : Nat) (c : Chan) : (p.setCh k c).ueRows = p.ueRows := rfl
@[simp] theorem Part.setCh_jext (k : Nat) (c : Chan) : (p.setCh k c).jext = p.jext := rfl
@[simp] theorem Part.setCh_side (k : Nat) (c : Chan) : (p.setCh k c).side = p.side := rfl
@[simp] theorem Part.setCh_awaited (k : Nat) (c : Chan) : (p.setCh k c).awaited = p.awaited := rfl
@[simp] theorem Part.setCh_credAt (k : Nat) (c : Chan) : (p.setCh k c).credAt = p.credAt := rfl
@[simp] theorem Part.setCh_cplWait (k : Nat) (c : Chan) : (p.setCh k c).cplWait = p.cplWait := rfl
@[simp] theorem Part.setCh_rstDue (k : Nat) (c : Chan) : (p.setCh k c).rstDue = p.rstDue := rfl
@[simp] theorem Part.setCh_doe (k : Nat) (c : Chan) : (p.setCh k c).doe = p.doe := rfl
@[simp] theorem Part.setCh_regUe (k : Nat) (c : Chan) : (p.setCh k c).regUe = p.regUe := rfl
@[simp] theorem Part.setCh_dfe (k : Nat) (c : Chan) : (p.setCh k c).dfe = p.dfe := rfl
@[simp] theorem Part.setCh_farPreset (k : Nat) (c : Chan) : (p.setCh k c).farPreset = p.farPreset := rfl
@[simp] theorem Part.setCh_laneRx (k : Nat) (c : Chan) : (p.setCh k c).laneRx = p.laneRx := rfl
@[simp] theorem Part.setCh_scr (k : Nat) (c : Chan) : (p.setCh k c).scr = p.scr := rfl
@[simp] theorem Part.setCh_lines (k : Nat) (c : Chan) : (p.setCh k c).lines = p.lines := rfl

@[simp] theorem Part.setCw_regs (d fn o : Nat) (v : BitVec 32) : (p.setCw d fn o v).regs = p.regs := rfl
@[simp] theorem Part.setCw_now (d fn o : Nat) (v : BitVec 32) : (p.setCw d fn o v).now = p.now := rfl
@[simp] theorem Part.setCw_ftime (d fn o : Nat) (v : BitVec 32) : (p.setCw d fn o v).ftime = p.ftime := rfl
@[simp] theorem Part.setCw_slew (d fn o : Nat) (v : BitVec 32) : (p.setCw d fn o v).slew = p.slew := rfl
@[simp] theorem Part.setCw_out (d fn o : Nat) (v : BitVec 32) : (p.setCw d fn o v).out = p.out := rfl
@[simp] theorem Part.setCw_freeCtr (d fn o : Nat) (v : BitVec 32) : (p.setCw d fn o v).freeCtr = p.freeCtr := rfl
@[simp] theorem Part.setCw_md (d fn o : Nat) (v : BitVec 32) : (p.setCw d fn o v).md = p.md := rfl
@[simp] theorem Part.setCw_posted (d fn o : Nat) (v : BitVec 32) : (p.setCw d fn o v).posted = p.posted := rfl
@[simp] theorem Part.setCw_shadow (d fn o : Nat) (v : BitVec 32) : (p.setCw d fn o v).shadow = p.shadow := rfl
@[simp] theorem Part.setCw_cell (d fn o : Nat) (v : BitVec 32) : (p.setCw d fn o v).cell = p.cell := rfl
@[simp] theorem Part.setCw_frames (d fn o : Nat) (v : BitVec 32) : (p.setCw d fn o v).frames = p.frames := rfl
@[simp] theorem Part.setCw_nextFrame (d fn o : Nat) (v : BitVec 32) : (p.setCw d fn o v).nextFrame = p.nextFrame := rfl
@[simp] theorem Part.setCw_voqs (d fn o : Nat) (v : BitVec 32) : (p.setCw d fn o v).voqs = p.voqs := rfl
@[simp] theorem Part.setCw_flights (d fn o : Nat) (v : BitVec 32) : (p.setCw d fn o v).flights = p.flights := rfl
@[simp] theorem Part.setCw_residues (d fn o : Nat) (v : BitVec 32) : (p.setCw d fn o v).residues = p.residues := rfl
@[simp] theorem Part.setCw_arbA (d fn o : Nat) (v : BitVec 32) : (p.setCw d fn o v).arbA = p.arbA := rfl
@[simp] theorem Part.setCw_arbG (d fn o : Nat) (v : BitVec 32) : (p.setCw d fn o v).arbG = p.arbG := rfl
@[simp] theorem Part.setCw_arbV (d fn o : Nat) (v : BitVec 32) : (p.setCw d fn o v).arbV = p.arbV := rfl
@[simp] theorem Part.setCw_cellTime (d fn o : Nat) (v : BitVec 32) : (p.setCw d fn o v).cellTime = p.cellTime := rfl
@[simp] theorem Part.setCw_joining (d fn o : Nat) (v : BitVec 32) : (p.setCw d fn o v).joining = p.joining := rfl
@[simp] theorem Part.setCw_starved (d fn o : Nat) (v : BitVec 32) : (p.setCw d fn o v).starved = p.starved := rfl
@[simp] theorem Part.setCw_occ (d fn o : Nat) (v : BitVec 32) : (p.setCw d fn o v).occ = p.occ := rfl
@[simp] theorem Part.setCw_refused (d fn o : Nat) (v : BitVec 32) : (p.setCw d fn o v).refused = p.refused := rfl
@[simp] theorem Part.setCw_backing (d fn o : Nat) (v : BitVec 32) : (p.setCw d fn o v).backing = p.backing := rfl
@[simp] theorem Part.setCw_stuck (d fn o : Nat) (v : BitVec 32) : (p.setCw d fn o v).stuck = p.stuck := rfl
@[simp] theorem Part.setCw_audit (d fn o : Nat) (v : BitVec 32) : (p.setCw d fn o v).audit = p.audit := rfl
@[simp] theorem Part.setCw_tq (d fn o : Nat) (v : BitVec 32) : (p.setCw d fn o v).tq = p.tq := rfl
@[simp] theorem Part.setCw_deficit (d fn o : Nat) (v : BitVec 32) : (p.setCw d fn o v).deficit = p.deficit := rfl
@[simp] theorem Part.setCw_stale (d fn o : Nat) (v : BitVec 32) : (p.setCw d fn o v).stale = p.stale := rfl
@[simp] theorem Part.setCw_tok (d fn o : Nat) (v : BitVec 32) : (p.setCw d fn o v).tok = p.tok := rfl
@[simp] theorem Part.setCw_shpAct (d fn o : Nat) (v : BitVec 32) : (p.setCw d fn o v).shpAct = p.shpAct := rfl
@[simp] theorem Part.setCw_polTok (d fn o : Nat) (v : BitVec 32) : (p.setCw d fn o v).polTok = p.polTok := rfl
@[simp] theorem Part.setCw_polAct (d fn o : Nat) (v : BitVec 32) : (p.setCw d fn o v).polAct = p.polAct := rfl
@[simp] theorem Part.setCw_debt (d fn o : Nat) (v : BitVec 32) : (p.setCw d fn o v).debt = p.debt := rfl
@[simp] theorem Part.setCw_withheld (d fn o : Nat) (v : BitVec 32) : (p.setCw d fn o v).withheld = p.withheld := rfl
@[simp] theorem Part.setCw_tables (d fn o : Nat) (v : BitVec 32) : (p.setCw d fn o v).tables = p.tables := rfl
@[simp] theorem Part.setCw_ort (d fn o : Nat) (v : BitVec 32) : (p.setCw d fn o v).ort = p.ort := rfl
@[simp] theorem Part.setCw_ledger (d fn o : Nat) (v : BitVec 32) : (p.setCw d fn o v).ledger = p.ledger := rfl
@[simp] theorem Part.setCw_fail (d fn o : Nat) (v : BitVec 32) : (p.setCw d fn o v).fail = p.fail := rfl
@[simp] theorem Part.setCw_jrnl (d fn o : Nat) (v : BitVec 32) : (p.setCw d fn o v).jrnl = p.jrnl := rfl
@[simp] theorem Part.setCw_gates (d fn o : Nat) (v : BitVec 32) : (p.setCw d fn o v).gates = p.gates := rfl
@[simp] theorem Part.setCw_nextGate (d fn o : Nat) (v : BitVec 32) : (p.setCw d fn o v).nextGate = p.nextGate := rfl
@[simp] theorem Part.setCw_waiting (d fn o : Nat) (v : BitVec 32) : (p.setCw d fn o v).waiting = p.waiting := rfl
@[simp] theorem Part.setCw_fences (d fn o : Nat) (v : BitVec 32) : (p.setCw d fn o v).fences = p.fences := rfl
@[simp] theorem Part.setCw_link (d fn o : Nat) (v : BitVec 32) : (p.setCw d fn o v).link = p.link := rfl
@[simp] theorem Part.setCw_txFlow (d fn o : Nat) (v : BitVec 32) : (p.setCw d fn o v).txFlow = p.txFlow := rfl
@[simp] theorem Part.setCw_rxFlow (d fn o : Nat) (v : BitVec 32) : (p.setCw d fn o v).rxFlow = p.rxFlow := rfl
@[simp] theorem Part.setCw_rsqIn (d fn o : Nat) (v : BitVec 32) : (p.setCw d fn o v).rsqIn = p.rsqIn := rfl
@[simp] theorem Part.setCw_combine (d fn o : Nat) (v : BitVec 32) : (p.setCw d fn o v).combine = p.combine := rfl
@[simp] theorem Part.setCw_port (d fn o : Nat) (v : BitVec 32) : (p.setCw d fn o v).port = p.port := rfl
@[simp] theorem Part.setCw_sharers (d fn o : Nat) (v : BitVec 32) : (p.setCw d fn o v).sharers = p.sharers := rfl
@[simp] theorem Part.setCw_intx (d fn o : Nat) (v : BitVec 32) : (p.setCw d fn o v).intx = p.intx := rfl
@[simp] theorem Part.setCw_msix (d fn o : Nat) (v : BitVec 32) : (p.setCw d fn o v).msix = p.msix := rfl
@[simp] theorem Part.setCw_flr (d fn o : Nat) (v : BitVec 32) : (p.setCw d fn o v).flr = p.flr := rfl
@[simp] theorem Part.setCw_cfFlr (d fn o : Nat) (v : BitVec 32) : (p.setCw d fn o v).cfFlr = p.cfFlr := rfl
@[simp] theorem Part.setCw_stnRest (d fn o : Nat) (v : BitVec 32) : (p.setCw d fn o v).stnRest = p.stnRest := rfl
@[simp] theorem Part.setCw_chan (d fn o : Nat) (v : BitVec 32) : (p.setCw d fn o v).chan = p.chan := rfl
@[simp] theorem Part.setCw_hist (d fn o : Nat) (v : BitVec 32) : (p.setCw d fn o v).hist = p.hist := rfl
@[simp] theorem Part.setCw_domHist (d fn o : Nat) (v : BitVec 32) : (p.setCw d fn o v).domHist = p.domHist := rfl
@[simp] theorem Part.setCw_ant (d fn o : Nat) (v : BitVec 32) : (p.setCw d fn o v).ant = p.ant := rfl
@[simp] theorem Part.setCw_ffy (d fn o : Nat) (v : BitVec 32) : (p.setCw d fn o v).ffy = p.ffy := rfl
@[simp] theorem Part.setCw_boot (d fn o : Nat) (v : BitVec 32) : (p.setCw d fn o v).boot = p.boot := rfl
@[simp] theorem Part.setCw_time (d fn o : Nat) (v : BitVec 32) : (p.setCw d fn o v).time = p.time := rfl
@[simp] theorem Part.setCw_ibi (d fn o : Nat) (v : BitVec 32) : (p.setCw d fn o v).ibi = p.ibi := rfl
@[simp] theorem Part.setCw_spi (d fn o : Nat) (v : BitVec 32) : (p.setCw d fn o v).spi = p.spi := rfl
@[simp] theorem Part.setCw_flash (d fn o : Nat) (v : BitVec 32) : (p.setCw d fn o v).flash = p.flash := rfl
@[simp] theorem Part.setCw_spare (d fn o : Nat) (v : BitVec 32) : (p.setCw d fn o v).spare = p.spare := rfl
@[simp] theorem Part.setCw_ueRows (d fn o : Nat) (v : BitVec 32) : (p.setCw d fn o v).ueRows = p.ueRows := rfl
@[simp] theorem Part.setCw_jext (d fn o : Nat) (v : BitVec 32) : (p.setCw d fn o v).jext = p.jext := rfl
@[simp] theorem Part.setCw_side (d fn o : Nat) (v : BitVec 32) : (p.setCw d fn o v).side = p.side := rfl
@[simp] theorem Part.setCw_awaited (d fn o : Nat) (v : BitVec 32) : (p.setCw d fn o v).awaited = p.awaited := rfl
@[simp] theorem Part.setCw_credAt (d fn o : Nat) (v : BitVec 32) : (p.setCw d fn o v).credAt = p.credAt := rfl
@[simp] theorem Part.setCw_cplWait (d fn o : Nat) (v : BitVec 32) : (p.setCw d fn o v).cplWait = p.cplWait := rfl
@[simp] theorem Part.setCw_rstDue (d fn o : Nat) (v : BitVec 32) : (p.setCw d fn o v).rstDue = p.rstDue := rfl
@[simp] theorem Part.setCw_doe (d fn o : Nat) (v : BitVec 32) : (p.setCw d fn o v).doe = p.doe := rfl
@[simp] theorem Part.setCw_regUe (d fn o : Nat) (v : BitVec 32) : (p.setCw d fn o v).regUe = p.regUe := rfl
@[simp] theorem Part.setCw_dfe (d fn o : Nat) (v : BitVec 32) : (p.setCw d fn o v).dfe = p.dfe := rfl
@[simp] theorem Part.setCw_farPreset (d fn o : Nat) (v : BitVec 32) : (p.setCw d fn o v).farPreset = p.farPreset := rfl
@[simp] theorem Part.setCw_laneRx (d fn o : Nat) (v : BitVec 32) : (p.setCw d fn o v).laneRx = p.laneRx := rfl
@[simp] theorem Part.setCw_scr (d fn o : Nat) (v : BitVec 32) : (p.setCw d fn o v).scr = p.scr := rfl
@[simp] theorem Part.setCw_lines (d fn o : Nat) (v : BitVec 32) : (p.setCw d fn o v).lines = p.lines := rfl

/-- Lifting answers a next state. -/
theorem State.via_eq (s : State) (f : Part → Part) : s.via f = .next { s with part := f s.part } := rfl

/-- A lifted operation changes the part only. -/
theorem State.via_next {s t : State} {f : Part → Part} (h : s.via f = .next t) :
    t.pending = s.pending ∧ t.otp = s.otp ∧ t.trust = s.trust ∧ t.part = f s.part := by
  cases h
  exact ⟨rfl, rfl, rfl, rfl⟩

end Sys2Proof.Machine
end

