-- ==== Sys2Proof/Laws/Regs.lean ====
section
/-! SUPPORT. Register words and fields: what a read gives after a write, and what the shared header operations (IRQ_STAT, ERR_STAT,
counters, refused accesses) can do: they change register words only. -/

namespace Sys2Proof.Machine

/-! ### Words -/

@[simp] theorem Part.rd_wr_same (p : Part) (a : Nat) (v : BitVec 32) : (p.wr a v).rd a = v :=
  Sparse.get_set_same _ _ _ _

theorem Part.rd_wr_ne (p : Part) {a b : Nat} (v : BitVec 32) (h : b ≠ a) : (p.wr a v).rd b = p.rd b :=
  Sparse.get_set_ne _ _ _ _ h

theorem Part.rd_wr (p : Part) (a b : Nat) (v : BitVec 32) : (p.wr a v).rd b = if b = a then v else p.rd b := by
  split
  · subst_vars
    exact p.rd_wr_same _ v
  · exact p.rd_wr_ne v ‹_›

/-- A read depends on the register words only. -/
theorem Part.rd_congr {p q : Part} (h : p.regs = q.regs) (a : Nat) : p.rd a = q.rd a := by
  unfold Part.rd
  rw [h]

theorem Part.getF_congr {p q : Part} (h : p.regs = q.regs) (pg : Page) (f : Fld) : p.getF pg f = q.getF pg f := by
  unfold Part.getF
  rw [Part.rd_congr h]

/-! ### Fields -/

theorem mask_getLsbD (w i : Nat) (hw : w ≤ 32) : (BitVec.ofNat 32 (2 ^ w - 1)).getLsbD i = decide (i < w) := by
  simp only [BitVec.getLsbD_ofNat, Nat.testBit_two_pow_sub_one]
  by_cases h : i < w
  · simp [h, show i < 32 by omega]
  · simp [h]

/-- Bit `i` of a word with a field written. -/
theorem Fld.into_getLsbD (f : Fld) (v : BitVec 32) (n i : Nat) (h : f.lo + f.w ≤ 32) :
    (f.into v n).getLsbD i = if f.lo ≤ i ∧ i < f.lo + f.w then n.testBit (i - f.lo) else v.getLsbD i := by
  unfold Fld.into Fld.mask
  simp only [BitVec.getLsbD_or, BitVec.getLsbD_and, BitVec.getLsbD_not, BitVec.getLsbD_shiftLeft,
    mask_getLsbD _ _ (show f.w ≤ 32 by omega), BitVec.getLsbD_ofNat]
  by_cases hi : i < 32
  · by_cases h1 : f.lo ≤ i
    · by_cases h2 : i < f.lo + f.w
      · simp [hi, h1, h2, show ¬ i < f.lo by omega, show i - f.lo < f.w by omega, show i - f.lo < 32 by omega]
      · simp [hi, h1, h2, show ¬ i < f.lo by omega, show ¬ i - f.lo < f.w by omega]
    · simp [hi, h1, show i < f.lo by omega]
  · have hv : v.getLsbD i = false := BitVec.getLsbD_of_ge v i (by omega)
    simp [hi, hv, show ¬ (f.lo ≤ i ∧ i < f.lo + f.w) by omega]

/-- A field's bit `i`. -/
theorem Fld.of_testBit (f : Fld) (v : BitVec 32) (i : Nat) (h : f.w ≤ 32) :
    (f.of v).testBit i = (decide (i < f.w) && v.getLsbD (f.lo + i)) := by
  unfold Fld.of Fld.mask
  rw [BitVec.testBit_toNat, BitVec.getLsbD_and, BitVec.getLsbD_ushiftRight, mask_getLsbD _ _ h]
  exact Bool.and_comm _ _

/-- What was written into a field is read back, cut to the field's width. -/
theorem Fld.of_into (f : Fld) (v : BitVec 32) (n : Nat) (h : f.lo + f.w ≤ 32) : f.of (f.into v n) = n % 2 ^ f.w := by
  apply Nat.eq_of_testBit_eq
  intro i
  rw [Fld.of_testBit _ _ _ (by omega), Fld.into_getLsbD _ _ _ _ h, Nat.testBit_mod_two_pow]
  by_cases hi : i < f.w
  · simp [hi]
  · simp [hi]

/-- Writing a field leaves a field with other bits alone. -/
theorem Fld.of_into_ne (f g : Fld) (v : BitVec 32) (n : Nat) (h : f.lo + f.w ≤ 32) (hg : g.w ≤ 32)
    (d : g.lo + g.w ≤ f.lo ∨ f.lo + f.w ≤ g.lo) : g.of (f.into v n) = g.of v := by
  apply Nat.eq_of_testBit_eq
  intro i
  rw [Fld.of_testBit _ _ _ hg, Fld.of_testBit _ _ _ hg, Fld.into_getLsbD _ _ _ _ h]
  by_cases hi : i < g.w
  · rw [if_neg (by omega)]
  · simp [hi]

theorem Part.getF_setF (p : Part) (pg : Page) (f : Fld) (n : Nat) (h : f.lo + f.w ≤ 32) :
    (p.setF pg f n).getF pg f = n % 2 ^ f.w := by
  unfold Part.setF Part.getF
  rw [Part.rd_wr_same, Fld.of_into f _ n h]

/-- Writing a field of one word leaves the fields of every other word alone. -/
theorem Part.getF_setF_ne (p : Part) (pg pg' : Page) (f g : Fld) (n : Nat) (h : pg'.base + g.off ≠ pg.base + f.off) :
    (p.setF pg f n).getF pg' g = p.getF pg' g := by
  unfold Part.setF Part.getF
  rw [Part.rd_wr_ne _ _ h]

/-- Writing a field leaves the other fields of its word alone. -/
theorem Part.getF_setF_bits (p : Part) (pg : Page) (f g : Fld) (n : Nat) (ho : g.off = f.off) (h : f.lo + f.w ≤ 32)
    (hg : g.w ≤ 32) (d : g.lo + g.w ≤ f.lo ∨ f.lo + f.w ≤ g.lo) : (p.setF pg f n).getF pg g = p.getF pg g := by
  unfold Part.setF Part.getF
  rw [ho, Part.rd_wr_same, Fld.of_into_ne f g _ n h hg d]

/-- A read of another word than the one a field write changes. -/
theorem Part.rd_setF_ne (p : Part) (pg : Page) (f : Fld) (n : Nat) {b : Nat} (h : b ≠ pg.base + f.off) :
    (p.setF pg f n).rd b = p.rd b := Part.rd_wr_ne _ _ h

theorem Part.rd_irq_ne (p : Part) (pg : Page) (m : Nat) {b : Nat} (h : b ≠ pg.base + 0x010) : (p.irq pg m).rd b = p.rd b :=
  Part.rd_wr_ne _ _ h

/-! ### Operations that change register words only -/

/-- The parts differ in register words only. -/
def Part.OnlyRegs (p q : Part) : Prop := ∃ r, q = { p with regs := r }

theorem Part.OnlyRegs.refl (p : Part) : p.OnlyRegs p := ⟨p.regs, rfl⟩

theorem Part.OnlyRegs.trans {p q r : Part} (h : p.OnlyRegs q) (k : q.OnlyRegs r) : p.OnlyRegs r := by
  obtain ⟨x, rfl⟩ := h
  obtain ⟨y, rfl⟩ := k
  exact ⟨y, rfl⟩

theorem Part.wr_onlyRegs (p : Part) (a : Nat) (v : BitVec 32) : p.OnlyRegs (p.wr a v) := ⟨_, rfl⟩

theorem Part.setF_onlyRegs (p : Part) (pg : Page) (f : Fld) (n : Nat) : p.OnlyRegs (p.setF pg f n) := ⟨_, rfl⟩

theorem Part.irq_onlyRegs (p : Part) (pg : Page) (m : Nat) : p.OnlyRegs (p.irq pg m) := ⟨_, rfl⟩

theorem Part.setCnt_onlyRegs (p : Part) (pg : Page) (n v : Nat) : p.OnlyRegs (p.setCnt pg n v) := ⟨_, rfl⟩

/-- What the header operations can do to register words: only words `S` holds of change. -/
def Part.Touches (S : Nat → Prop) (p q : Part) : Prop := p.OnlyRegs q ∧ ∀ a, ¬ S a → q.rd a = p.rd a

theorem Part.Touches.refl (S : Nat → Prop) (p : Part) : Part.Touches S p p := ⟨.refl p, fun _ _ => rfl⟩

theorem Part.Touches.trans {S : Nat → Prop} {p q r : Part} (h : Part.Touches S p q) (k : Part.Touches S q r) :
    Part.Touches S p r := ⟨h.1.trans k.1, fun a ha => (k.2 a ha).trans (h.2 a ha)⟩

theorem Part.Touches.wr {S : Nat → Prop} (p : Part) {a : Nat} (v : BitVec 32) (h : S a) : Part.Touches S p (p.wr a v) :=
  ⟨p.wr_onlyRegs a v, fun _ hb => p.rd_wr_ne v (fun e => hb (e ▸ h))⟩

theorem Part.Touches.setF {S : Nat → Prop} (p : Part) (pg : Page) (f : Fld) (n : Nat) (h : S (pg.base + f.off)) :
    Part.Touches S p (p.setF pg f n) := Part.Touches.wr p _ h

theorem Part.Touches.irq {S : Nat → Prop} (p : Part) (pg : Page) (m : Nat) (h : S (pg.base + 0x010)) :
    Part.Touches S p (p.irq pg m) := Part.Touches.wr p _ h

/-- The words of a page's common header, and TEL counter 5, which counts wraps in views (R457). -/
def headerOf (pg : Page) (a : Nat) : Prop :=
  (pg.base ≤ a ∧ a < pg.base + 0x100) ∨ (pg.isView = true ∧ Page.tel.base ≤ a ∧ a < Page.tel.base + 0x100)

theorem chain_bound (p : Part) (pg : Page) (n : Nat) (h : nbit (p.getF pg HDR.CNT_CTL.EN) n = true) : n < 8 := by
  refine Decidable.byContradiction (fun hn => ?_)
  have hw : p.getF pg HDR.CNT_CTL.EN < 2 ^ 8 := by
    unfold Part.getF Fld.of Fld.mask HDR.CNT_CTL.EN
    rw [BitVec.toNat_and]
    exact Nat.lt_of_le_of_lt Nat.and_le_right (by decide)
  have : p.getF pg HDR.CNT_CTL.EN / 2 ^ n = 0 :=
    Nat.div_eq_of_lt (Nat.lt_of_lt_of_le hw (Nat.pow_le_pow_right (by omega) (by omega)))
  simp [nbit, this] at h

theorem Part.Touches.setCnt (p : Part) (pg : Page) {n : Nat} (v : Nat) (hn : n < 8) {S : Nat → Prop}
    (h : ∀ a : Nat, pg.base + 0x80 ≤ a → a < pg.base + 0xC0 → S a) : Part.Touches S p (p.setCnt pg n v) := by
  refine Part.Touches.trans (Part.Touches.setF p pg _ _ (h _ ?_ ?_)) (Part.Touches.setF _ pg _ _ (h _ ?_ ?_)) <;>
    simp [Fld.ix, HDR.CNT.VALUE_LO, HDR.CNT.VALUE_HI] <;> omega

theorem Part.Touches.ite {S : Nat → Prop} {p q r : Part} {c : Prop} [Decidable c] (h : c → Part.Touches S p q)
    (k : ¬ c → Part.Touches S p r) : Part.Touches S p (if c then q else r) := by
  split
  · exact h ‹_›
  · exact k ‹_›

/-- The header of TEL is among the words that a view page's counters can change. -/
theorem tel_header (pg : Page) (hv : pg.isView = true) {a : Nat} (h : headerOf .tel a) : headerOf pg a := by
  rcases h with h | h
  · exact .inr ⟨hv, h⟩
  · exact absurd h.1 (by decide)

/-- Words changed within a smaller set are changed within a larger one. -/
theorem Part.Touches.mono {S T : Nat → Prop} {p q : Part} (h : Part.Touches S p q) (hs : ∀ a, S a → T a) : Part.Touches T p q :=
  ⟨h.1, fun a ha => h.2 a (fun x => ha (hs a x))⟩

/-- A counter's step changes words of the page header only. -/
theorem Part.cntStep_touches (pg : Page) : ∀ (fuel : Nat) (p : Part) (n k : Nat),
    Part.Touches (headerOf pg) p (Part.cntStep fuel p pg n k)
  | 0, p, _, _ => .refl _ p
  | fuel + 1, p, n, k => by
    unfold Part.cntStep
    refine Part.Touches.ite (fun h => ?_) (fun _ => .refl _ p)
    simp only [Bool.and_eq_true] at h
    have hn := chain_bound p pg n h.1
    have hs : ∀ a, pg.base + 0x80 ≤ a → a < pg.base + 0xC0 → headerOf pg a := fun a h1 h2 => .inl ⟨by omega, by omega⟩
    refine Part.Touches.ite (fun _ => Part.Touches.setCnt p pg _ hn hs) (fun _ => ?_)
    have h2 : Part.Touches (headerOf pg) p
        (((p.setCnt pg n ((p.cntVal pg n + k) % 2 ^ 48)).setF pg (HDR.CNT.WRAP.ix n) 1).irq pg 0x40000000) := by
      refine ((Part.Touches.setCnt p pg _ hn hs).trans (Part.Touches.setF _ pg _ _ (.inl ?_))).trans
        (Part.Touches.irq _ pg _ (.inl ?_))
      · simp [Fld.ix, HDR.CNT.WRAP]; omega
      · omega
    have h3 : ∀ (q : Part) (b : Bool), Part.Touches (headerOf pg) q
        (if (pg.isView && b && !q.bit .tel HDR.CNT_CTL.DOM_EN) = true then Part.cntStep fuel q .tel 5 1 else q) :=
      fun q b => Part.Touches.ite
        (fun hv => (Part.cntStep_touches .tel fuel q 5 1).mono (fun a x => tel_header pg (by simp at hv; exact hv.1.1) x)) (fun _ => .refl _ q)
    exact Part.Touches.ite (fun _ => (h2.trans (h3 _ _)).trans (Part.cntStep_touches pg fuel _ _ _))
      (fun _ => h2.trans (h3 _ _))

/-- Counting an event changes words of the page header only (R454). -/
theorem Part.count_touches (p : Part) (pg : Page) (n k : Nat) (dom : Option Nat) :
    Part.Touches (headerOf pg) p (p.count pg n k dom) := by
  unfold Part.count
  split
  · exact .refl _ p
  · split
    · exact .refl _ p
    · split
      · exact .refl _ p
      · exact Part.cntStep_touches pg 16 p n k

/-- Setting error bits changes words of the page header only (R334, R335). -/
theorem Part.errBits_touches (p : Part) (pg : Page) (m : Nat) (inj : Bool) :
    Part.Touches (headerOf pg) p (p.errBits pg m inj) := by
  unfold Part.errBits
  refine Part.Touches.ite (fun _ => .refl _ p) (fun _ => ?_)
  have h1 : Part.Touches (headerOf pg) p
      (p.wr (pg.base + 0x020) (BitVec.ofNat 32 (p.rd (pg.base + 0x020) ||| BitVec.ofNat 32 m).toNat)) :=
    Part.Touches.wr p _ (.inl ⟨by omega, by omega⟩)
  have h2 : ∀ (q : Part) (v : BitVec 32), Part.Touches (headerOf pg) q
      (if (p.rd (pg.base + 0x020)).toNat = 0 then q.wr (pg.base + 0x030) v else q.setF pg HDR.ERR_FIRST.MULTI 1) :=
    fun q v => Part.Touches.ite (fun _ => Part.Touches.wr q v (.inl ⟨by omega, by omega⟩))
      (fun _ => Part.Touches.setF q pg _ 1 (.inl ⟨by omega, by simp [HDR.ERR_FIRST.MULTI]⟩))
  exact Part.Touches.ite (fun _ => (h1.trans (h2 _ _)).trans (Part.Touches.irq _ pg _ (.inl ⟨by omega, by omega⟩)))
    (fun _ => h1.trans (h2 _ _))

theorem Part.err_touches (p : Part) (pg : Page) (b : Nat) : Part.Touches (headerOf pg) p (p.err pg b) :=
  p.errBits_touches pg _ _

/-- A page whose header counts no view events: its header words are the whole of `headerOf`. -/
theorem Part.Touches.plain {p q : Part} {pg : Page} (h : Part.Touches (headerOf pg) p q) (hv : pg.isView = false) {a : Nat}
    (ha : a < pg.base ∨ pg.base + 0x100 ≤ a) : q.rd a = p.rd a := by
  refine h.2 a (fun x => ?_)
  rcases x with x | x
  · omega
  · simp [hv] at x

/-- The words that recording a refused access can change: the header of GLB, ACC_VIOL and ACC_VIOL_ADDR (R483). -/
def violWords (a : Nat) : Prop := a < 0x100 ∨ a = GLB.ACC_VIOL.REQ.off ∨ a = GLB.ACC_VIOL_ADDR.ADDR.off

theorem Part.viol_touches (p : Part) (req : Requester) (w : Bool) (c a : Nat) :
    Part.Touches violWords p (p.viol req w c a) := by
  have hg : ∀ {q r : Part}, Part.Touches (headerOf .glb) q r → Part.Touches violWords q r := fun h =>
    ⟨h.1, fun b hb => h.2 b (fun x => hb (by
      rcases x with x | x
      · exact .inl (by simpa [Page.base] using x.2)
      · simp [Page.isView] at x))⟩
  have hf : ∀ (q : Part) (f : Fld) (n : Nat), f.off = GLB.ACC_VIOL.REQ.off ∨ f.off = GLB.ACC_VIOL_ADDR.ADDR.off →
      Part.Touches violWords q (q.setF .glb f n) := fun q f n h =>
    Part.Touches.setF q .glb f n (.inr (by simpa [Page.base] using h))
  have hi : ∀ (q : Part) (m : Nat), Part.Touches violWords q (q.irq .glb m) := fun q m =>
    Part.Touches.irq q .glb m (.inl (by decide))
  cases req with
  | cf d => exact .refl _ p
  | chitin =>
    have h1 := ((hf p GLB.ACC_VIOL.REQ Requester.chitin.code (.inl rfl)).trans
      (hf _ GLB.ACC_VIOL.WRITE (b2n w) (.inl rfl))).trans (hf _ GLB.ACC_VIOL.CAUSE c (.inl rfl))
    unfold Part.viol
    refine Part.Touches.trans ?_ (hg (Part.err_touches _ .glb 0))
    refine Part.Touches.trans ?_ (hg (Part.count_touches _ .glb 1 1 none))
    refine Part.Touches.trans ?_ (hf _ GLB.ACC_VIOL_ADDR.ADDR a (.inr rfl))
    refine Part.Touches.trans ?_ (hf _ GLB.ACC_VIOL.CNT _ (.inl rfl))
    exact Part.Touches.ite (fun _ => h1) (fun _ => (h1.trans (hf _ GLB.ACC_VIOL.NEW 1 (.inl rfl))).trans (hi _ 2))
  | colony =>
    have h1 := ((hf p GLB.ACC_VIOL.REQ Requester.colony.code (.inl rfl)).trans
      (hf _ GLB.ACC_VIOL.WRITE (b2n w) (.inl rfl))).trans (hf _ GLB.ACC_VIOL.CAUSE c (.inl rfl))
    unfold Part.viol
    refine Part.Touches.trans ?_ (hg (Part.err_touches _ .glb 0))
    refine Part.Touches.trans ?_ (hg (Part.count_touches _ .glb 1 1 none))
    refine Part.Touches.trans ?_ (hf _ GLB.ACC_VIOL_ADDR.ADDR a (.inr rfl))
    refine Part.Touches.trans ?_ (hf _ GLB.ACC_VIOL.CNT _ (.inl rfl))
    exact Part.Touches.ite (fun _ => h1) (fun _ => (h1.trans (hf _ GLB.ACC_VIOL.NEW 1 (.inl rfl))).trans (hi _ 2))

theorem permitted_aux (b : Bool) (o : Option Nat) (f : Nat → Part) (p q : Part) (x : Bool × Part)
    (e : x = if b then (false, p) else match o with
      | some c => (false, f c)
      | none => (true, q)) (h : x.1 = true) : x.2 = q := by
  subst e
  cases b
  · cases o
    · rfl
    · cases h
  · cases h

/-- The access check of a command that is a register write: where it lets the command act, only GLB's header counts it and the
requester's shadow is dropped. -/
theorem Part.permitted_true (p : Part) (req : Requester) (pg : Page) (o : Nat) (h : (p.permitted req pg o).1 = true) :
    (p.permitted req pg o).2 = (p.dropShadow req).count .glb 0 1 := permitted_aux _ _ _ _ _ _ rfl h

/-- Chitin may write any register outside views that is not read-only to it (R482, R483). -/
theorem Part.permitted_chitin (p : Part) (pg : Page) (o : Nat) (hv : pg.isView = false) (hm : p.md.mode.core = true)
    (hr : p.ffy.chipRst = false) (hd : p.denied .chitin pg o true = none) : (p.permitted .chitin pg o).1 = true := by
  simp [Part.permitted, hv, hm, hr, hd]

end Sys2Proof.Machine
end

