-- ==== Sys2Proof/Laws/Header.lean ====
section
/-! SUPPORT. What counting, error bits and refused accesses leave alone: every field of the part but the register words. -/

namespace Sys2Proof.Machine

variable (p : Part)

theorem Part.OnlyRegs.keeps {α : Sort _} {p q : Part} (f : Part → α) (h : p.OnlyRegs q) (hf : ∀ r, f { p with regs := r } = f p) : f q = f p := by
  obtain ⟨r, rfl⟩ := h
  exact hf r

@[simp] theorem Part.count_now (pg : Page) (n k : Nat) (dm : Option Nat) : (p.count pg n k dm).now = p.now := (p.count_touches pg n k dm).1.keeps Part.now fun _ => rfl
@[simp] theorem Part.count_ftime (pg : Page) (n k : Nat) (dm : Option Nat) : (p.count pg n k dm).ftime = p.ftime := (p.count_touches pg n k dm).1.keeps Part.ftime fun _ => rfl
@[simp] theorem Part.count_slew (pg : Page) (n k : Nat) (dm : Option Nat) : (p.count pg n k dm).slew = p.slew := (p.count_touches pg n k dm).1.keeps Part.slew fun _ => rfl
@[simp] theorem Part.count_out (pg : Page) (n k : Nat) (dm : Option Nat) : (p.count pg n k dm).out = p.out := (p.count_touches pg n k dm).1.keeps Part.out fun _ => rfl
@[simp] theorem Part.count_freeCtr (pg : Page) (n k : Nat) (dm : Option Nat) : (p.count pg n k dm).freeCtr = p.freeCtr := (p.count_touches pg n k dm).1.keeps Part.freeCtr fun _ => rfl
@[simp] theorem Part.count_md (pg : Page) (n k : Nat) (dm : Option Nat) : (p.count pg n k dm).md = p.md := (p.count_touches pg n k dm).1.keeps Part.md fun _ => rfl
@[simp] theorem Part.count_posted (pg : Page) (n k : Nat) (dm : Option Nat) : (p.count pg n k dm).posted = p.posted := (p.count_touches pg n k dm).1.keeps Part.posted fun _ => rfl
@[simp] theorem Part.count_shadow (pg : Page) (n k : Nat) (dm : Option Nat) : (p.count pg n k dm).shadow = p.shadow := (p.count_touches pg n k dm).1.keeps Part.shadow fun _ => rfl
@[simp] theorem Part.count_cell (pg : Page) (n k : Nat) (dm : Option Nat) : (p.count pg n k dm).cell = p.cell := (p.count_touches pg n k dm).1.keeps Part.cell fun _ => rfl
@[simp] theorem Part.count_frames (pg : Page) (n k : Nat) (dm : Option Nat) : (p.count pg n k dm).frames = p.frames := (p.count_touches pg n k dm).1.keeps Part.frames fun _ => rfl
@[simp] theorem Part.count_nextFrame (pg : Page) (n k : Nat) (dm : Option Nat) : (p.count pg n k dm).nextFrame = p.nextFrame := (p.count_touches pg n k dm).1.keeps Part.nextFrame fun _ => rfl
@[simp] theorem Part.count_voqs (pg : Page) (n k : Nat) (dm : Option Nat) : (p.count pg n k dm).voqs = p.voqs := (p.count_touches pg n k dm).1.keeps Part.voqs fun _ => rfl
@[simp] theorem Part.count_flights (pg : Page) (n k : Nat) (dm : Option Nat) : (p.count pg n k dm).flights = p.flights := (p.count_touches pg n k dm).1.keeps Part.flights fun _ => rfl
@[simp] theorem Part.count_residues (pg : Page) (n k : Nat) (dm : Option Nat) : (p.count pg n k dm).residues = p.residues := (p.count_touches pg n k dm).1.keeps Part.residues fun _ => rfl
@[simp] theorem Part.count_arbA (pg : Page) (n k : Nat) (dm : Option Nat) : (p.count pg n k dm).arbA = p.arbA := (p.count_touches pg n k dm).1.keeps Part.arbA fun _ => rfl
@[simp] theorem Part.count_arbG (pg : Page) (n k : Nat) (dm : Option Nat) : (p.count pg n k dm).arbG = p.arbG := (p.count_touches pg n k dm).1.keeps Part.arbG fun _ => rfl
@[simp] theorem Part.count_arbV (pg : Page) (n k : Nat) (dm : Option Nat) : (p.count pg n k dm).arbV = p.arbV := (p.count_touches pg n k dm).1.keeps Part.arbV fun _ => rfl
@[simp] theorem Part.count_cellTime (pg : Page) (n k : Nat) (dm : Option Nat) : (p.count pg n k dm).cellTime = p.cellTime := (p.count_touches pg n k dm).1.keeps Part.cellTime fun _ => rfl
@[simp] theorem Part.count_joining (pg : Page) (n k : Nat) (dm : Option Nat) : (p.count pg n k dm).joining = p.joining := (p.count_touches pg n k dm).1.keeps Part.joining fun _ => rfl
@[simp] theorem Part.count_starved (pg : Page) (n k : Nat) (dm : Option Nat) : (p.count pg n k dm).starved = p.starved := (p.count_touches pg n k dm).1.keeps Part.starved fun _ => rfl
@[simp] theorem Part.count_occ (pg : Page) (n k : Nat) (dm : Option Nat) : (p.count pg n k dm).occ = p.occ := (p.count_touches pg n k dm).1.keeps Part.occ fun _ => rfl
@[simp] theorem Part.count_refused (pg : Page) (n k : Nat) (dm : Option Nat) : (p.count pg n k dm).refused = p.refused := (p.count_touches pg n k dm).1.keeps Part.refused fun _ => rfl
@[simp] theorem Part.count_backing (pg : Page) (n k : Nat) (dm : Option Nat) : (p.count pg n k dm).backing = p.backing := (p.count_touches pg n k dm).1.keeps Part.backing fun _ => rfl
@[simp] theorem Part.count_stuck (pg : Page) (n k : Nat) (dm : Option Nat) : (p.count pg n k dm).stuck = p.stuck := (p.count_touches pg n k dm).1.keeps Part.stuck fun _ => rfl
@[simp] theorem Part.count_audit (pg : Page) (n k : Nat) (dm : Option Nat) : (p.count pg n k dm).audit = p.audit := (p.count_touches pg n k dm).1.keeps Part.audit fun _ => rfl
@[simp] theorem Part.count_tq (pg : Page) (n k : Nat) (dm : Option Nat) : (p.count pg n k dm).tq = p.tq := (p.count_touches pg n k dm).1.keeps Part.tq fun _ => rfl
@[simp] theorem Part.count_deficit (pg : Page) (n k : Nat) (dm : Option Nat) : (p.count pg n k dm).deficit = p.deficit := (p.count_touches pg n k dm).1.keeps Part.deficit fun _ => rfl
@[simp] theorem Part.count_stale (pg : Page) (n k : Nat) (dm : Option Nat) : (p.count pg n k dm).stale = p.stale := (p.count_touches pg n k dm).1.keeps Part.stale fun _ => rfl
@[simp] theorem Part.count_tok (pg : Page) (n k : Nat) (dm : Option Nat) : (p.count pg n k dm).tok = p.tok := (p.count_touches pg n k dm).1.keeps Part.tok fun _ => rfl
@[simp] theorem Part.count_shpAct (pg : Page) (n k : Nat) (dm : Option Nat) : (p.count pg n k dm).shpAct = p.shpAct := (p.count_touches pg n k dm).1.keeps Part.shpAct fun _ => rfl
@[simp] theorem Part.count_polTok (pg : Page) (n k : Nat) (dm : Option Nat) : (p.count pg n k dm).polTok = p.polTok := (p.count_touches pg n k dm).1.keeps Part.polTok fun _ => rfl
@[simp] theorem Part.count_polAct (pg : Page) (n k : Nat) (dm : Option Nat) : (p.count pg n k dm).polAct = p.polAct := (p.count_touches pg n k dm).1.keeps Part.polAct fun _ => rfl
@[simp] theorem Part.count_debt (pg : Page) (n k : Nat) (dm : Option Nat) : (p.count pg n k dm).debt = p.debt := (p.count_touches pg n k dm).1.keeps Part.debt fun _ => rfl
@[simp] theorem Part.count_withheld (pg : Page) (n k : Nat) (dm : Option Nat) : (p.count pg n k dm).withheld = p.withheld := (p.count_touches pg n k dm).1.keeps Part.withheld fun _ => rfl
@[simp] theorem Part.count_tables (pg : Page) (n k : Nat) (dm : Option Nat) : (p.count pg n k dm).tables = p.tables := (p.count_touches pg n k dm).1.keeps Part.tables fun _ => rfl
@[simp] theorem Part.count_ort (pg : Page) (n k : Nat) (dm : Option Nat) : (p.count pg n k dm).ort = p.ort := (p.count_touches pg n k dm).1.keeps Part.ort fun _ => rfl
@[simp] theorem Part.count_ledger (pg : Page) (n k : Nat) (dm : Option Nat) : (p.count pg n k dm).ledger = p.ledger := (p.count_touches pg n k dm).1.keeps Part.ledger fun _ => rfl
@[simp] theorem Part.count_fail (pg : Page) (n k : Nat) (dm : Option Nat) : (p.count pg n k dm).fail = p.fail := (p.count_touches pg n k dm).1.keeps Part.fail fun _ => rfl
@[simp] theorem Part.count_jrnl (pg : Page) (n k : Nat) (dm : Option Nat) : (p.count pg n k dm).jrnl = p.jrnl := (p.count_touches pg n k dm).1.keeps Part.jrnl fun _ => rfl
@[simp] theorem Part.count_gates (pg : Page) (n k : Nat) (dm : Option Nat) : (p.count pg n k dm).gates = p.gates := (p.count_touches pg n k dm).1.keeps Part.gates fun _ => rfl
@[simp] theorem Part.count_nextGate (pg : Page) (n k : Nat) (dm : Option Nat) : (p.count pg n k dm).nextGate = p.nextGate := (p.count_touches pg n k dm).1.keeps Part.nextGate fun _ => rfl
@[simp] theorem Part.count_waiting (pg : Page) (n k : Nat) (dm : Option Nat) : (p.count pg n k dm).waiting = p.waiting := (p.count_touches pg n k dm).1.keeps Part.waiting fun _ => rfl
@[simp] theorem Part.count_fences (pg : Page) (n k : Nat) (dm : Option Nat) : (p.count pg n k dm).fences = p.fences := (p.count_touches pg n k dm).1.keeps Part.fences fun _ => rfl
@[simp] theorem Part.count_link (pg : Page) (n k : Nat) (dm : Option Nat) : (p.count pg n k dm).link = p.link := (p.count_touches pg n k dm).1.keeps Part.link fun _ => rfl
@[simp] theorem Part.count_txFlow (pg : Page) (n k : Nat) (dm : Option Nat) : (p.count pg n k dm).txFlow = p.txFlow := (p.count_touches pg n k dm).1.keeps Part.txFlow fun _ => rfl
@[simp] theorem Part.count_rxFlow (pg : Page) (n k : Nat) (dm : Option Nat) : (p.count pg n k dm).rxFlow = p.rxFlow := (p.count_touches pg n k dm).1.keeps Part.rxFlow fun _ => rfl
@[simp] theorem Part.count_rsqIn (pg : Page) (n k : Nat) (dm : Option Nat) : (p.count pg n k dm).rsqIn = p.rsqIn := (p.count_touches pg n k dm).1.keeps Part.rsqIn fun _ => rfl
@[simp] theorem Part.count_combine (pg : Page) (n k : Nat) (dm : Option Nat) : (p.count pg n k dm).combine = p.combine := (p.count_touches pg n k dm).1.keeps Part.combine fun _ => rfl
@[simp] theorem Part.count_port (pg : Page) (n k : Nat) (dm : Option Nat) : (p.count pg n k dm).port = p.port := (p.count_touches pg n k dm).1.keeps Part.port fun _ => rfl
@[simp] theorem Part.count_cfg (pg : Page) (n k : Nat) (dm : Option Nat) : (p.count pg n k dm).cfg = p.cfg := (p.count_touches pg n k dm).1.keeps Part.cfg fun _ => rfl
@[simp] theorem Part.count_sharers (pg : Page) (n k : Nat) (dm : Option Nat) : (p.count pg n k dm).sharers = p.sharers := (p.count_touches pg n k dm).1.keeps Part.sharers fun _ => rfl
@[simp] theorem Part.count_intx (pg : Page) (n k : Nat) (dm : Option Nat) : (p.count pg n k dm).intx = p.intx := (p.count_touches pg n k dm).1.keeps Part.intx fun _ => rfl
@[simp] theorem Part.count_msix (pg : Page) (n k : Nat) (dm : Option Nat) : (p.count pg n k dm).msix = p.msix := (p.count_touches pg n k dm).1.keeps Part.msix fun _ => rfl
@[simp] theorem Part.count_flr (pg : Page) (n k : Nat) (dm : Option Nat) : (p.count pg n k dm).flr = p.flr := (p.count_touches pg n k dm).1.keeps Part.flr fun _ => rfl
@[simp] theorem Part.count_cfFlr (pg : Page) (n k : Nat) (dm : Option Nat) : (p.count pg n k dm).cfFlr = p.cfFlr := (p.count_touches pg n k dm).1.keeps Part.cfFlr fun _ => rfl
@[simp] theorem Part.count_stnRest (pg : Page) (n k : Nat) (dm : Option Nat) : (p.count pg n k dm).stnRest = p.stnRest := (p.count_touches pg n k dm).1.keeps Part.stnRest fun _ => rfl
@[simp] theorem Part.count_chan (pg : Page) (n k : Nat) (dm : Option Nat) : (p.count pg n k dm).chan = p.chan := (p.count_touches pg n k dm).1.keeps Part.chan fun _ => rfl
@[simp] theorem Part.count_hist (pg : Page) (n k : Nat) (dm : Option Nat) : (p.count pg n k dm).hist = p.hist := (p.count_touches pg n k dm).1.keeps Part.hist fun _ => rfl
@[simp] theorem Part.count_domHist (pg : Page) (n k : Nat) (dm : Option Nat) : (p.count pg n k dm).domHist = p.domHist := (p.count_touches pg n k dm).1.keeps Part.domHist fun _ => rfl
@[simp] theorem Part.count_ant (pg : Page) (n k : Nat) (dm : Option Nat) : (p.count pg n k dm).ant = p.ant := (p.count_touches pg n k dm).1.keeps Part.ant fun _ => rfl
@[simp] theorem Part.count_ffy (pg : Page) (n k : Nat) (dm : Option Nat) : (p.count pg n k dm).ffy = p.ffy := (p.count_touches pg n k dm).1.keeps Part.ffy fun _ => rfl
@[simp] theorem Part.count_boot (pg : Page) (n k : Nat) (dm : Option Nat) : (p.count pg n k dm).boot = p.boot := (p.count_touches pg n k dm).1.keeps Part.boot fun _ => rfl
@[simp] theorem Part.count_time (pg : Page) (n k : Nat) (dm : Option Nat) : (p.count pg n k dm).time = p.time := (p.count_touches pg n k dm).1.keeps Part.time fun _ => rfl
@[simp] theorem Part.count_ibi (pg : Page) (n k : Nat) (dm : Option Nat) : (p.count pg n k dm).ibi = p.ibi := (p.count_touches pg n k dm).1.keeps Part.ibi fun _ => rfl
@[simp] theorem Part.count_spi (pg : Page) (n k : Nat) (dm : Option Nat) : (p.count pg n k dm).spi = p.spi := (p.count_touches pg n k dm).1.keeps Part.spi fun _ => rfl
@[simp] theorem Part.count_flash (pg : Page) (n k : Nat) (dm : Option Nat) : (p.count pg n k dm).flash = p.flash := (p.count_touches pg n k dm).1.keeps Part.flash fun _ => rfl
@[simp] theorem Part.count_spare (pg : Page) (n k : Nat) (dm : Option Nat) : (p.count pg n k dm).spare = p.spare := (p.count_touches pg n k dm).1.keeps Part.spare fun _ => rfl
@[simp] theorem Part.count_ueRows (pg : Page) (n k : Nat) (dm : Option Nat) : (p.count pg n k dm).ueRows = p.ueRows := (p.count_touches pg n k dm).1.keeps Part.ueRows fun _ => rfl
@[simp] theorem Part.count_jext (pg : Page) (n k : Nat) (dm : Option Nat) : (p.count pg n k dm).jext = p.jext := (p.count_touches pg n k dm).1.keeps Part.jext fun _ => rfl
@[simp] theorem Part.count_side (pg : Page) (n k : Nat) (dm : Option Nat) : (p.count pg n k dm).side = p.side := (p.count_touches pg n k dm).1.keeps Part.side fun _ => rfl
@[simp] theorem Part.count_awaited (pg : Page) (n k : Nat) (dm : Option Nat) : (p.count pg n k dm).awaited = p.awaited := (p.count_touches pg n k dm).1.keeps Part.awaited fun _ => rfl
@[simp] theorem Part.count_credAt (pg : Page) (n k : Nat) (dm : Option Nat) : (p.count pg n k dm).credAt = p.credAt := (p.count_touches pg n k dm).1.keeps Part.credAt fun _ => rfl
@[simp] theorem Part.count_cplWait (pg : Page) (n k : Nat) (dm : Option Nat) : (p.count pg n k dm).cplWait = p.cplWait := (p.count_touches pg n k dm).1.keeps Part.cplWait fun _ => rfl
@[simp] theorem Part.count_rstDue (pg : Page) (n k : Nat) (dm : Option Nat) : (p.count pg n k dm).rstDue = p.rstDue := (p.count_touches pg n k dm).1.keeps Part.rstDue fun _ => rfl
@[simp] theorem Part.count_doe (pg : Page) (n k : Nat) (dm : Option Nat) : (p.count pg n k dm).doe = p.doe := (p.count_touches pg n k dm).1.keeps Part.doe fun _ => rfl
@[simp] theorem Part.count_regUe (pg : Page) (n k : Nat) (dm : Option Nat) : (p.count pg n k dm).regUe = p.regUe := (p.count_touches pg n k dm).1.keeps Part.regUe fun _ => rfl
@[simp] theorem Part.count_dfe (pg : Page) (n k : Nat) (dm : Option Nat) : (p.count pg n k dm).dfe = p.dfe := (p.count_touches pg n k dm).1.keeps Part.dfe fun _ => rfl
@[simp] theorem Part.count_farPreset (pg : Page) (n k : Nat) (dm : Option Nat) : (p.count pg n k dm).farPreset = p.farPreset := (p.count_touches pg n k dm).1.keeps Part.farPreset fun _ => rfl
@[simp] theorem Part.count_laneRx (pg : Page) (n k : Nat) (dm : Option Nat) : (p.count pg n k dm).laneRx = p.laneRx := (p.count_touches pg n k dm).1.keeps Part.laneRx fun _ => rfl
@[simp] theorem Part.count_scr (pg : Page) (n k : Nat) (dm : Option Nat) : (p.count pg n k dm).scr = p.scr := (p.count_touches pg n k dm).1.keeps Part.scr fun _ => rfl
@[simp] theorem Part.count_lines (pg : Page) (n k : Nat) (dm : Option Nat) : (p.count pg n k dm).lines = p.lines := (p.count_touches pg n k dm).1.keeps Part.lines fun _ => rfl

@[simp] theorem Part.errBits_now (pg : Page) (m : Nat) (inj : Bool) : (p.errBits pg m inj).now = p.now := (p.errBits_touches pg m inj).1.keeps Part.now fun _ => rfl
@[simp] theorem Part.errBits_ftime (pg : Page) (m : Nat) (inj : Bool) : (p.errBits pg m inj).ftime = p.ftime := (p.errBits_touches pg m inj).1.keeps Part.ftime fun _ => rfl
@[simp] theorem Part.errBits_slew (pg : Page) (m : Nat) (inj : Bool) : (p.errBits pg m inj).slew = p.slew := (p.errBits_touches pg m inj).1.keeps Part.slew fun _ => rfl
@[simp] theorem Part.errBits_out (pg : Page) (m : Nat) (inj : Bool) : (p.errBits pg m inj).out = p.out := (p.errBits_touches pg m inj).1.keeps Part.out fun _ => rfl
@[simp] theorem Part.errBits_freeCtr (pg : Page) (m : Nat) (inj : Bool) : (p.errBits pg m inj).freeCtr = p.freeCtr := (p.errBits_touches pg m inj).1.keeps Part.freeCtr fun _ => rfl
@[simp] theorem Part.errBits_md (pg : Page) (m : Nat) (inj : Bool) : (p.errBits pg m inj).md = p.md := (p.errBits_touches pg m inj).1.keeps Part.md fun _ => rfl
@[simp] theorem Part.errBits_posted (pg : Page) (m : Nat) (inj : Bool) : (p.errBits pg m inj).posted = p.posted := (p.errBits_touches pg m inj).1.keeps Part.posted fun _ => rfl
@[simp] theorem Part.errBits_shadow (pg : Page) (m : Nat) (inj : Bool) : (p.errBits pg m inj).shadow = p.shadow := (p.errBits_touches pg m inj).1.keeps Part.shadow fun _ => rfl
@[simp] theorem Part.errBits_cell (pg : Page) (m : Nat) (inj : Bool) : (p.errBits pg m inj).cell = p.cell := (p.errBits_touches pg m inj).1.keeps Part.cell fun _ => rfl
@[simp] theorem Part.errBits_frames (pg : Page) (m : Nat) (inj : Bool) : (p.errBits pg m inj).frames = p.frames := (p.errBits_touches pg m inj).1.keeps Part.frames fun _ => rfl
@[simp] theorem Part.errBits_nextFrame (pg : Page) (m : Nat) (inj : Bool) : (p.errBits pg m inj).nextFrame = p.nextFrame := (p.errBits_touches pg m inj).1.keeps Part.nextFrame fun _ => rfl
@[simp] theorem Part.errBits_voqs (pg : Page) (m : Nat) (inj : Bool) : (p.errBits pg m inj).voqs = p.voqs := (p.errBits_touches pg m inj).1.keeps Part.voqs fun _ => rfl
@[simp] theorem Part.errBits_flights (pg : Page) (m : Nat) (inj : Bool) : (p.errBits pg m inj).flights = p.flights := (p.errBits_touches pg m inj).1.keeps Part.flights fun _ => rfl
@[simp] theorem Part.errBits_residues (pg : Page) (m : Nat) (inj : Bool) : (p.errBits pg m inj).residues = p.residues := (p.errBits_touches pg m inj).1.keeps Part.residues fun _ => rfl
@[simp] theorem Part.errBits_arbA (pg : Page) (m : Nat) (inj : Bool) : (p.errBits pg m inj).arbA = p.arbA := (p.errBits_touches pg m inj).1.keeps Part.arbA fun _ => rfl
@[simp] theorem Part.errBits_arbG (pg : Page) (m : Nat) (inj : Bool) : (p.errBits pg m inj).arbG = p.arbG := (p.errBits_touches pg m inj).1.keeps Part.arbG fun _ => rfl
@[simp] theorem Part.errBits_arbV (pg : Page) (m : Nat) (inj : Bool) : (p.errBits pg m inj).arbV = p.arbV := (p.errBits_touches pg m inj).1.keeps Part.arbV fun _ => rfl
@[simp] theorem Part.errBits_cellTime (pg : Page) (m : Nat) (inj : Bool) : (p.errBits pg m inj).cellTime = p.cellTime := (p.errBits_touches pg m inj).1.keeps Part.cellTime fun _ => rfl
@[simp] theorem Part.errBits_joining (pg : Page) (m : Nat) (inj : Bool) : (p.errBits pg m inj).joining = p.joining := (p.errBits_touches pg m inj).1.keeps Part.joining fun _ => rfl
@[simp] theorem Part.errBits_starved (pg : Page) (m : Nat) (inj : Bool) : (p.errBits pg m inj).starved = p.starved := (p.errBits_touches pg m inj).1.keeps Part.starved fun _ => rfl
@[simp] theorem Part.errBits_occ (pg : Page) (m : Nat) (inj : Bool) : (p.errBits pg m inj).occ = p.occ := (p.errBits_touches pg m inj).1.keeps Part.occ fun _ => rfl
@[simp] theorem Part.errBits_refused (pg : Page) (m : Nat) (inj : Bool) : (p.errBits pg m inj).refused = p.refused := (p.errBits_touches pg m inj).1.keeps Part.refused fun _ => rfl
@[simp] theorem Part.errBits_backing (pg : Page) (m : Nat) (inj : Bool) : (p.errBits pg m inj).backing = p.backing := (p.errBits_touches pg m inj).1.keeps Part.backing fun _ => rfl
@[simp] theorem Part.errBits_stuck (pg : Page) (m : Nat) (inj : Bool) : (p.errBits pg m inj).stuck = p.stuck := (p.errBits_touches pg m inj).1.keeps Part.stuck fun _ => rfl
@[simp] theorem Part.errBits_audit (pg : Page) (m : Nat) (inj : Bool) : (p.errBits pg m inj).audit = p.audit := (p.errBits_touches pg m inj).1.keeps Part.audit fun _ => rfl
@[simp] theorem Part.errBits_tq (pg : Page) (m : Nat) (inj : Bool) : (p.errBits pg m inj).tq = p.tq := (p.errBits_touches pg m inj).1.keeps Part.tq fun _ => rfl
@[simp] theorem Part.errBits_deficit (pg : Page) (m : Nat) (inj : Bool) : (p.errBits pg m inj).deficit = p.deficit := (p.errBits_touches pg m inj).1.keeps Part.deficit fun _ => rfl
@[simp] theorem Part.errBits_stale (pg : Page) (m : Nat) (inj : Bool) : (p.errBits pg m inj).stale = p.stale := (p.errBits_touches pg m inj).1.keeps Part.stale fun _ => rfl
@[simp] theorem Part.errBits_tok (pg : Page) (m : Nat) (inj : Bool) : (p.errBits pg m inj).tok = p.tok := (p.errBits_touches pg m inj).1.keeps Part.tok fun _ => rfl
@[simp] theorem Part.errBits_shpAct (pg : Page) (m : Nat) (inj : Bool) : (p.errBits pg m inj).shpAct = p.shpAct := (p.errBits_touches pg m inj).1.keeps Part.shpAct fun _ => rfl
@[simp] theorem Part.errBits_polTok (pg : Page) (m : Nat) (inj : Bool) : (p.errBits pg m inj).polTok = p.polTok := (p.errBits_touches pg m inj).1.keeps Part.polTok fun _ => rfl
@[simp] theorem Part.errBits_polAct (pg : Page) (m : Nat) (inj : Bool) : (p.errBits pg m inj).polAct = p.polAct := (p.errBits_touches pg m inj).1.keeps Part.polAct fun _ => rfl
@[simp] theorem Part.errBits_debt (pg : Page) (m : Nat) (inj : Bool) : (p.errBits pg m inj).debt = p.debt := (p.errBits_touches pg m inj).1.keeps Part.debt fun _ => rfl
@[simp] theorem Part.errBits_withheld (pg : Page) (m : Nat) (inj : Bool) : (p.errBits pg m inj).withheld = p.withheld := (p.errBits_touches pg m inj).1.keeps Part.withheld fun _ => rfl
@[simp] theorem Part.errBits_tables (pg : Page) (m : Nat) (inj : Bool) : (p.errBits pg m inj).tables = p.tables := (p.errBits_touches pg m inj).1.keeps Part.tables fun _ => rfl
@[simp] theorem Part.errBits_ort (pg : Page) (m : Nat) (inj : Bool) : (p.errBits pg m inj).ort = p.ort := (p.errBits_touches pg m inj).1.keeps Part.ort fun _ => rfl
@[simp] theorem Part.errBits_ledger (pg : Page) (m : Nat) (inj : Bool) : (p.errBits pg m inj).ledger = p.ledger := (p.errBits_touches pg m inj).1.keeps Part.ledger fun _ => rfl
@[simp] theorem Part.errBits_fail (pg : Page) (m : Nat) (inj : Bool) : (p.errBits pg m inj).fail = p.fail := (p.errBits_touches pg m inj).1.keeps Part.fail fun _ => rfl
@[simp] theorem Part.errBits_jrnl (pg : Page) (m : Nat) (inj : Bool) : (p.errBits pg m inj).jrnl = p.jrnl := (p.errBits_touches pg m inj).1.keeps Part.jrnl fun _ => rfl
@[simp] theorem Part.errBits_gates (pg : Page) (m : Nat) (inj : Bool) : (p.errBits pg m inj).gates = p.gates := (p.errBits_touches pg m inj).1.keeps Part.gates fun _ => rfl
@[simp] theorem Part.errBits_nextGate (pg : Page) (m : Nat) (inj : Bool) : (p.errBits pg m inj).nextGate = p.nextGate := (p.errBits_touches pg m inj).1.keeps Part.nextGate fun _ => rfl
@[simp] theorem Part.errBits_waiting (pg : Page) (m : Nat) (inj : Bool) : (p.errBits pg m inj).waiting = p.waiting := (p.errBits_touches pg m inj).1.keeps Part.waiting fun _ => rfl
@[simp] theorem Part.errBits_fences (pg : Page) (m : Nat) (inj : Bool) : (p.errBits pg m inj).fences = p.fences := (p.errBits_touches pg m inj).1.keeps Part.fences fun _ => rfl
@[simp] theorem Part.errBits_link (pg : Page) (m : Nat) (inj : Bool) : (p.errBits pg m inj).link = p.link := (p.errBits_touches pg m inj).1.keeps Part.link fun _ => rfl
@[simp] theorem Part.errBits_txFlow (pg : Page) (m : Nat) (inj : Bool) : (p.errBits pg m inj).txFlow = p.txFlow := (p.errBits_touches pg m inj).1.keeps Part.txFlow fun _ => rfl
@[simp] theorem Part.errBits_rxFlow (pg : Page) (m : Nat) (inj : Bool) : (p.errBits pg m inj).rxFlow = p.rxFlow := (p.errBits_touches pg m inj).1.keeps Part.rxFlow fun _ => rfl
@[simp] theorem Part.errBits_rsqIn (pg : Page) (m : Nat) (inj : Bool) : (p.errBits pg m inj).rsqIn = p.rsqIn := (p.errBits_touches pg m inj).1.keeps Part.rsqIn fun _ => rfl
@[simp] theorem Part.errBits_combine (pg : Page) (m : Nat) (inj : Bool) : (p.errBits pg m inj).combine = p.combine := (p.errBits_touches pg m inj).1.keeps Part.combine fun _ => rfl
@[simp] theorem Part.errBits_port (pg : Page) (m : Nat) (inj : Bool) : (p.errBits pg m inj).port = p.port := (p.errBits_touches pg m inj).1.keeps Part.port fun _ => rfl
@[simp] theorem Part.errBits_cfg (pg : Page) (m : Nat) (inj : Bool) : (p.errBits pg m inj).cfg = p.cfg := (p.errBits_touches pg m inj).1.keeps Part.cfg fun _ => rfl
@[simp] theorem Part.errBits_sharers (pg : Page) (m : Nat) (inj : Bool) : (p.errBits pg m inj).sharers = p.sharers := (p.errBits_touches pg m inj).1.keeps Part.sharers fun _ => rfl
@[simp] theorem Part.errBits_intx (pg : Page) (m : Nat) (inj : Bool) : (p.errBits pg m inj).intx = p.intx := (p.errBits_touches pg m inj).1.keeps Part.intx fun _ => rfl
@[simp] theorem Part.errBits_msix (pg : Page) (m : Nat) (inj : Bool) : (p.errBits pg m inj).msix = p.msix := (p.errBits_touches pg m inj).1.keeps Part.msix fun _ => rfl
@[simp] theorem Part.errBits_flr (pg : Page) (m : Nat) (inj : Bool) : (p.errBits pg m inj).flr = p.flr := (p.errBits_touches pg m inj).1.keeps Part.flr fun _ => rfl
@[simp] theorem Part.errBits_cfFlr (pg : Page) (m : Nat) (inj : Bool) : (p.errBits pg m inj).cfFlr = p.cfFlr := (p.errBits_touches pg m inj).1.keeps Part.cfFlr fun _ => rfl
@[simp] theorem Part.errBits_stnRest (pg : Page) (m : Nat) (inj : Bool) : (p.errBits pg m inj).stnRest = p.stnRest := (p.errBits_touches pg m inj).1.keeps Part.stnRest fun _ => rfl
@[simp] theorem Part.errBits_chan (pg : Page) (m : Nat) (inj : Bool) : (p.errBits pg m inj).chan = p.chan := (p.errBits_touches pg m inj).1.keeps Part.chan fun _ => rfl
@[simp] theorem Part.errBits_hist (pg : Page) (m : Nat) (inj : Bool) : (p.errBits pg m inj).hist = p.hist := (p.errBits_touches pg m inj).1.keeps Part.hist fun _ => rfl
@[simp] theorem Part.errBits_domHist (pg : Page) (m : Nat) (inj : Bool) : (p.errBits pg m inj).domHist = p.domHist := (p.errBits_touches pg m inj).1.keeps Part.domHist fun _ => rfl
@[simp] theorem Part.errBits_ant (pg : Page) (m : Nat) (inj : Bool) : (p.errBits pg m inj).ant = p.ant := (p.errBits_touches pg m inj).1.keeps Part.ant fun _ => rfl
@[simp] theorem Part.errBits_ffy (pg : Page) (m : Nat) (inj : Bool) : (p.errBits pg m inj).ffy = p.ffy := (p.errBits_touches pg m inj).1.keeps Part.ffy fun _ => rfl
@[simp] theorem Part.errBits_boot (pg : Page) (m : Nat) (inj : Bool) : (p.errBits pg m inj).boot = p.boot := (p.errBits_touches pg m inj).1.keeps Part.boot fun _ => rfl
@[simp] theorem Part.errBits_time (pg : Page) (m : Nat) (inj : Bool) : (p.errBits pg m inj).time = p.time := (p.errBits_touches pg m inj).1.keeps Part.time fun _ => rfl
@[simp] theorem Part.errBits_ibi (pg : Page) (m : Nat) (inj : Bool) : (p.errBits pg m inj).ibi = p.ibi := (p.errBits_touches pg m inj).1.keeps Part.ibi fun _ => rfl
@[simp] theorem Part.errBits_spi (pg : Page) (m : Nat) (inj : Bool) : (p.errBits pg m inj).spi = p.spi := (p.errBits_touches pg m inj).1.keeps Part.spi fun _ => rfl
@[simp] theorem Part.errBits_flash (pg : Page) (m : Nat) (inj : Bool) : (p.errBits pg m inj).flash = p.flash := (p.errBits_touches pg m inj).1.keeps Part.flash fun _ => rfl
@[simp] theorem Part.errBits_spare (pg : Page) (m : Nat) (inj : Bool) : (p.errBits pg m inj).spare = p.spare := (p.errBits_touches pg m inj).1.keeps Part.spare fun _ => rfl
@[simp] theorem Part.errBits_ueRows (pg : Page) (m : Nat) (inj : Bool) : (p.errBits pg m inj).ueRows = p.ueRows := (p.errBits_touches pg m inj).1.keeps Part.ueRows fun _ => rfl
@[simp] theorem Part.errBits_jext (pg : Page) (m : Nat) (inj : Bool) : (p.errBits pg m inj).jext = p.jext := (p.errBits_touches pg m inj).1.keeps Part.jext fun _ => rfl
@[simp] theorem Part.errBits_side (pg : Page) (m : Nat) (inj : Bool) : (p.errBits pg m inj).side = p.side := (p.errBits_touches pg m inj).1.keeps Part.side fun _ => rfl
@[simp] theorem Part.errBits_awaited (pg : Page) (m : Nat) (inj : Bool) : (p.errBits pg m inj).awaited = p.awaited := (p.errBits_touches pg m inj).1.keeps Part.awaited fun _ => rfl
@[simp] theorem Part.errBits_credAt (pg : Page) (m : Nat) (inj : Bool) : (p.errBits pg m inj).credAt = p.credAt := (p.errBits_touches pg m inj).1.keeps Part.credAt fun _ => rfl
@[simp] theorem Part.errBits_cplWait (pg : Page) (m : Nat) (inj : Bool) : (p.errBits pg m inj).cplWait = p.cplWait := (p.errBits_touches pg m inj).1.keeps Part.cplWait fun _ => rfl
@[simp] theorem Part.errBits_rstDue (pg : Page) (m : Nat) (inj : Bool) : (p.errBits pg m inj).rstDue = p.rstDue := (p.errBits_touches pg m inj).1.keeps Part.rstDue fun _ => rfl
@[simp] theorem Part.errBits_doe (pg : Page) (m : Nat) (inj : Bool) : (p.errBits pg m inj).doe = p.doe := (p.errBits_touches pg m inj).1.keeps Part.doe fun _ => rfl
@[simp] theorem Part.errBits_regUe (pg : Page) (m : Nat) (inj : Bool) : (p.errBits pg m inj).regUe = p.regUe := (p.errBits_touches pg m inj).1.keeps Part.regUe fun _ => rfl
@[simp] theorem Part.errBits_dfe (pg : Page) (m : Nat) (inj : Bool) : (p.errBits pg m inj).dfe = p.dfe := (p.errBits_touches pg m inj).1.keeps Part.dfe fun _ => rfl
@[simp] theorem Part.errBits_farPreset (pg : Page) (m : Nat) (inj : Bool) : (p.errBits pg m inj).farPreset = p.farPreset := (p.errBits_touches pg m inj).1.keeps Part.farPreset fun _ => rfl
@[simp] theorem Part.errBits_laneRx (pg : Page) (m : Nat) (inj : Bool) : (p.errBits pg m inj).laneRx = p.laneRx := (p.errBits_touches pg m inj).1.keeps Part.laneRx fun _ => rfl
@[simp] theorem Part.errBits_scr (pg : Page) (m : Nat) (inj : Bool) : (p.errBits pg m inj).scr = p.scr := (p.errBits_touches pg m inj).1.keeps Part.scr fun _ => rfl
@[simp] theorem Part.errBits_lines (pg : Page) (m : Nat) (inj : Bool) : (p.errBits pg m inj).lines = p.lines := (p.errBits_touches pg m inj).1.keeps Part.lines fun _ => rfl

@[simp] theorem Part.err_now (pg : Page) (b : Nat) : (p.err pg b).now = p.now := (p.err_touches pg b).1.keeps Part.now fun _ => rfl
@[simp] theorem Part.err_ftime (pg : Page) (b : Nat) : (p.err pg b).ftime = p.ftime := (p.err_touches pg b).1.keeps Part.ftime fun _ => rfl
@[simp] theorem Part.err_slew (pg : Page) (b : Nat) : (p.err pg b).slew = p.slew := (p.err_touches pg b).1.keeps Part.slew fun _ => rfl
@[simp] theorem Part.err_out (pg : Page) (b : Nat) : (p.err pg b).out = p.out := (p.err_touches pg b).1.keeps Part.out fun _ => rfl
@[simp] theorem Part.err_freeCtr (pg : Page) (b : Nat) : (p.err pg b).freeCtr = p.freeCtr := (p.err_touches pg b).1.keeps Part.freeCtr fun _ => rfl
@[simp] theorem Part.err_md (pg : Page) (b : Nat) : (p.err pg b).md = p.md := (p.err_touches pg b).1.keeps Part.md fun _ => rfl
@[simp] theorem Part.err_posted (pg : Page) (b : Nat) : (p.err pg b).posted = p.posted := (p.err_touches pg b).1.keeps Part.posted fun _ => rfl
@[simp] theorem Part.err_shadow (pg : Page) (b : Nat) : (p.err pg b).shadow = p.shadow := (p.err_touches pg b).1.keeps Part.shadow fun _ => rfl
@[simp] theorem Part.err_cell (pg : Page) (b : Nat) : (p.err pg b).cell = p.cell := (p.err_touches pg b).1.keeps Part.cell fun _ => rfl
@[simp] theorem Part.err_frames (pg : Page) (b : Nat) : (p.err pg b).frames = p.frames := (p.err_touches pg b).1.keeps Part.frames fun _ => rfl
@[simp] theorem Part.err_nextFrame (pg : Page) (b : Nat) : (p.err pg b).nextFrame = p.nextFrame := (p.err_touches pg b).1.keeps Part.nextFrame fun _ => rfl
@[simp] theorem Part.err_voqs (pg : Page) (b : Nat) : (p.err pg b).voqs = p.voqs := (p.err_touches pg b).1.keeps Part.voqs fun _ => rfl
@[simp] theorem Part.err_flights (pg : Page) (b : Nat) : (p.err pg b).flights = p.flights := (p.err_touches pg b).1.keeps Part.flights fun _ => rfl
@[simp] theorem Part.err_residues (pg : Page) (b : Nat) : (p.err pg b).residues = p.residues := (p.err_touches pg b).1.keeps Part.residues fun _ => rfl
@[simp] theorem Part.err_arbA (pg : Page) (b : Nat) : (p.err pg b).arbA = p.arbA := (p.err_touches pg b).1.keeps Part.arbA fun _ => rfl
@[simp] theorem Part.err_arbG (pg : Page) (b : Nat) : (p.err pg b).arbG = p.arbG := (p.err_touches pg b).1.keeps Part.arbG fun _ => rfl
@[simp] theorem Part.err_arbV (pg : Page) (b : Nat) : (p.err pg b).arbV = p.arbV := (p.err_touches pg b).1.keeps Part.arbV fun _ => rfl
@[simp] theorem Part.err_cellTime (pg : Page) (b : Nat) : (p.err pg b).cellTime = p.cellTime := (p.err_touches pg b).1.keeps Part.cellTime fun _ => rfl
@[simp] theorem Part.err_joining (pg : Page) (b : Nat) : (p.err pg b).joining = p.joining := (p.err_touches pg b).1.keeps Part.joining fun _ => rfl
@[simp] theorem Part.err_starved (pg : Page) (b : Nat) : (p.err pg b).starved = p.starved := (p.err_touches pg b).1.keeps Part.starved fun _ => rfl
@[simp] theorem Part.err_occ (pg : Page) (b : Nat) : (p.err pg b).occ = p.occ := (p.err_touches pg b).1.keeps Part.occ fun _ => rfl
@[simp] theorem Part.err_refused (pg : Page) (b : Nat) : (p.err pg b).refused = p.refused := (p.err_touches pg b).1.keeps Part.refused fun _ => rfl
@[simp] theorem Part.err_backing (pg : Page) (b : Nat) : (p.err pg b).backing = p.backing := (p.err_touches pg b).1.keeps Part.backing fun _ => rfl
@[simp] theorem Part.err_stuck (pg : Page) (b : Nat) : (p.err pg b).stuck = p.stuck := (p.err_touches pg b).1.keeps Part.stuck fun _ => rfl
@[simp] theorem Part.err_audit (pg : Page) (b : Nat) : (p.err pg b).audit = p.audit := (p.err_touches pg b).1.keeps Part.audit fun _ => rfl
@[simp] theorem Part.err_tq (pg : Page) (b : Nat) : (p.err pg b).tq = p.tq := (p.err_touches pg b).1.keeps Part.tq fun _ => rfl
@[simp] theorem Part.err_deficit (pg : Page) (b : Nat) : (p.err pg b).deficit = p.deficit := (p.err_touches pg b).1.keeps Part.deficit fun _ => rfl
@[simp] theorem Part.err_stale (pg : Page) (b : Nat) : (p.err pg b).stale = p.stale := (p.err_touches pg b).1.keeps Part.stale fun _ => rfl
@[simp] theorem Part.err_tok (pg : Page) (b : Nat) : (p.err pg b).tok = p.tok := (p.err_touches pg b).1.keeps Part.tok fun _ => rfl
@[simp] theorem Part.err_shpAct (pg : Page) (b : Nat) : (p.err pg b).shpAct = p.shpAct := (p.err_touches pg b).1.keeps Part.shpAct fun _ => rfl
@[simp] theorem Part.err_polTok (pg : Page) (b : Nat) : (p.err pg b).polTok = p.polTok := (p.err_touches pg b).1.keeps Part.polTok fun _ => rfl
@[simp] theorem Part.err_polAct (pg : Page) (b : Nat) : (p.err pg b).polAct = p.polAct := (p.err_touches pg b).1.keeps Part.polAct fun _ => rfl
@[simp] theorem Part.err_debt (pg : Page) (b : Nat) : (p.err pg b).debt = p.debt := (p.err_touches pg b).1.keeps Part.debt fun _ => rfl
@[simp] theorem Part.err_withheld (pg : Page) (b : Nat) : (p.err pg b).withheld = p.withheld := (p.err_touches pg b).1.keeps Part.withheld fun _ => rfl
@[simp] theorem Part.err_tables (pg : Page) (b : Nat) : (p.err pg b).tables = p.tables := (p.err_touches pg b).1.keeps Part.tables fun _ => rfl
@[simp] theorem Part.err_ort (pg : Page) (b : Nat) : (p.err pg b).ort = p.ort := (p.err_touches pg b).1.keeps Part.ort fun _ => rfl
@[simp] theorem Part.err_ledger (pg : Page) (b : Nat) : (p.err pg b).ledger = p.ledger := (p.err_touches pg b).1.keeps Part.ledger fun _ => rfl
@[simp] theorem Part.err_fail (pg : Page) (b : Nat) : (p.err pg b).fail = p.fail := (p.err_touches pg b).1.keeps Part.fail fun _ => rfl
@[simp] theorem Part.err_jrnl (pg : Page) (b : Nat) : (p.err pg b).jrnl = p.jrnl := (p.err_touches pg b).1.keeps Part.jrnl fun _ => rfl
@[simp] theorem Part.err_gates (pg : Page) (b : Nat) : (p.err pg b).gates = p.gates := (p.err_touches pg b).1.keeps Part.gates fun _ => rfl
@[simp] theorem Part.err_nextGate (pg : Page) (b : Nat) : (p.err pg b).nextGate = p.nextGate := (p.err_touches pg b).1.keeps Part.nextGate fun _ => rfl
@[simp] theorem Part.err_waiting (pg : Page) (b : Nat) : (p.err pg b).waiting = p.waiting := (p.err_touches pg b).1.keeps Part.waiting fun _ => rfl
@[simp] theorem Part.err_fences (pg : Page) (b : Nat) : (p.err pg b).fences = p.fences := (p.err_touches pg b).1.keeps Part.fences fun _ => rfl
@[simp] theorem Part.err_link (pg : Page) (b : Nat) : (p.err pg b).link = p.link := (p.err_touches pg b).1.keeps Part.link fun _ => rfl
@[simp] theorem Part.err_txFlow (pg : Page) (b : Nat) : (p.err pg b).txFlow = p.txFlow := (p.err_touches pg b).1.keeps Part.txFlow fun _ => rfl
@[simp] theorem Part.err_rxFlow (pg : Page) (b : Nat) : (p.err pg b).rxFlow = p.rxFlow := (p.err_touches pg b).1.keeps Part.rxFlow fun _ => rfl
@[simp] theorem Part.err_rsqIn (pg : Page) (b : Nat) : (p.err pg b).rsqIn = p.rsqIn := (p.err_touches pg b).1.keeps Part.rsqIn fun _ => rfl
@[simp] theorem Part.err_combine (pg : Page) (b : Nat) : (p.err pg b).combine = p.combine := (p.err_touches pg b).1.keeps Part.combine fun _ => rfl
@[simp] theorem Part.err_port (pg : Page) (b : Nat) : (p.err pg b).port = p.port := (p.err_touches pg b).1.keeps Part.port fun _ => rfl
@[simp] theorem Part.err_cfg (pg : Page) (b : Nat) : (p.err pg b).cfg = p.cfg := (p.err_touches pg b).1.keeps Part.cfg fun _ => rfl
@[simp] theorem Part.err_sharers (pg : Page) (b : Nat) : (p.err pg b).sharers = p.sharers := (p.err_touches pg b).1.keeps Part.sharers fun _ => rfl
@[simp] theorem Part.err_intx (pg : Page) (b : Nat) : (p.err pg b).intx = p.intx := (p.err_touches pg b).1.keeps Part.intx fun _ => rfl
@[simp] theorem Part.err_msix (pg : Page) (b : Nat) : (p.err pg b).msix = p.msix := (p.err_touches pg b).1.keeps Part.msix fun _ => rfl
@[simp] theorem Part.err_flr (pg : Page) (b : Nat) : (p.err pg b).flr = p.flr := (p.err_touches pg b).1.keeps Part.flr fun _ => rfl
@[simp] theorem Part.err_cfFlr (pg : Page) (b : Nat) : (p.err pg b).cfFlr = p.cfFlr := (p.err_touches pg b).1.keeps Part.cfFlr fun _ => rfl
@[simp] theorem Part.err_stnRest (pg : Page) (b : Nat) : (p.err pg b).stnRest = p.stnRest := (p.err_touches pg b).1.keeps Part.stnRest fun _ => rfl
@[simp] theorem Part.err_chan (pg : Page) (b : Nat) : (p.err pg b).chan = p.chan := (p.err_touches pg b).1.keeps Part.chan fun _ => rfl
@[simp] theorem Part.err_hist (pg : Page) (b : Nat) : (p.err pg b).hist = p.hist := (p.err_touches pg b).1.keeps Part.hist fun _ => rfl
@[simp] theorem Part.err_domHist (pg : Page) (b : Nat) : (p.err pg b).domHist = p.domHist := (p.err_touches pg b).1.keeps Part.domHist fun _ => rfl
@[simp] theorem Part.err_ant (pg : Page) (b : Nat) : (p.err pg b).ant = p.ant := (p.err_touches pg b).1.keeps Part.ant fun _ => rfl
@[simp] theorem Part.err_ffy (pg : Page) (b : Nat) : (p.err pg b).ffy = p.ffy := (p.err_touches pg b).1.keeps Part.ffy fun _ => rfl
@[simp] theorem Part.err_boot (pg : Page) (b : Nat) : (p.err pg b).boot = p.boot := (p.err_touches pg b).1.keeps Part.boot fun _ => rfl
@[simp] theorem Part.err_time (pg : Page) (b : Nat) : (p.err pg b).time = p.time := (p.err_touches pg b).1.keeps Part.time fun _ => rfl
@[simp] theorem Part.err_ibi (pg : Page) (b : Nat) : (p.err pg b).ibi = p.ibi := (p.err_touches pg b).1.keeps Part.ibi fun _ => rfl
@[simp] theorem Part.err_spi (pg : Page) (b : Nat) : (p.err pg b).spi = p.spi := (p.err_touches pg b).1.keeps Part.spi fun _ => rfl
@[simp] theorem Part.err_flash (pg : Page) (b : Nat) : (p.err pg b).flash = p.flash := (p.err_touches pg b).1.keeps Part.flash fun _ => rfl
@[simp] theorem Part.err_spare (pg : Page) (b : Nat) : (p.err pg b).spare = p.spare := (p.err_touches pg b).1.keeps Part.spare fun _ => rfl
@[simp] theorem Part.err_ueRows (pg : Page) (b : Nat) : (p.err pg b).ueRows = p.ueRows := (p.err_touches pg b).1.keeps Part.ueRows fun _ => rfl
@[simp] theorem Part.err_jext (pg : Page) (b : Nat) : (p.err pg b).jext = p.jext := (p.err_touches pg b).1.keeps Part.jext fun _ => rfl
@[simp] theorem Part.err_side (pg : Page) (b : Nat) : (p.err pg b).side = p.side := (p.err_touches pg b).1.keeps Part.side fun _ => rfl
@[simp] theorem Part.err_awaited (pg : Page) (b : Nat) : (p.err pg b).awaited = p.awaited := (p.err_touches pg b).1.keeps Part.awaited fun _ => rfl
@[simp] theorem Part.err_credAt (pg : Page) (b : Nat) : (p.err pg b).credAt = p.credAt := (p.err_touches pg b).1.keeps Part.credAt fun _ => rfl
@[simp] theorem Part.err_cplWait (pg : Page) (b : Nat) : (p.err pg b).cplWait = p.cplWait := (p.err_touches pg b).1.keeps Part.cplWait fun _ => rfl
@[simp] theorem Part.err_rstDue (pg : Page) (b : Nat) : (p.err pg b).rstDue = p.rstDue := (p.err_touches pg b).1.keeps Part.rstDue fun _ => rfl
@[simp] theorem Part.err_doe (pg : Page) (b : Nat) : (p.err pg b).doe = p.doe := (p.err_touches pg b).1.keeps Part.doe fun _ => rfl
@[simp] theorem Part.err_regUe (pg : Page) (b : Nat) : (p.err pg b).regUe = p.regUe := (p.err_touches pg b).1.keeps Part.regUe fun _ => rfl
@[simp] theorem Part.err_dfe (pg : Page) (b : Nat) : (p.err pg b).dfe = p.dfe := (p.err_touches pg b).1.keeps Part.dfe fun _ => rfl
@[simp] theorem Part.err_farPreset (pg : Page) (b : Nat) : (p.err pg b).farPreset = p.farPreset := (p.err_touches pg b).1.keeps Part.farPreset fun _ => rfl
@[simp] theorem Part.err_laneRx (pg : Page) (b : Nat) : (p.err pg b).laneRx = p.laneRx := (p.err_touches pg b).1.keeps Part.laneRx fun _ => rfl
@[simp] theorem Part.err_scr (pg : Page) (b : Nat) : (p.err pg b).scr = p.scr := (p.err_touches pg b).1.keeps Part.scr fun _ => rfl
@[simp] theorem Part.err_lines (pg : Page) (b : Nat) : (p.err pg b).lines = p.lines := (p.err_touches pg b).1.keeps Part.lines fun _ => rfl

@[simp] theorem Part.viol_now (req : Requester) (w : Bool) (c a : Nat) : (p.viol req w c a).now = p.now := (p.viol_touches req w c a).1.keeps Part.now fun _ => rfl
@[simp] theorem Part.viol_ftime (req : Requester) (w : Bool) (c a : Nat) : (p.viol req w c a).ftime = p.ftime := (p.viol_touches req w c a).1.keeps Part.ftime fun _ => rfl
@[simp] theorem Part.viol_slew (req : Requester) (w : Bool) (c a : Nat) : (p.viol req w c a).slew = p.slew := (p.viol_touches req w c a).1.keeps Part.slew fun _ => rfl
@[simp] theorem Part.viol_out (req : Requester) (w : Bool) (c a : Nat) : (p.viol req w c a).out = p.out := (p.viol_touches req w c a).1.keeps Part.out fun _ => rfl
@[simp] theorem Part.viol_freeCtr (req : Requester) (w : Bool) (c a : Nat) : (p.viol req w c a).freeCtr = p.freeCtr := (p.viol_touches req w c a).1.keeps Part.freeCtr fun _ => rfl
@[simp] theorem Part.viol_md (req : Requester) (w : Bool) (c a : Nat) : (p.viol req w c a).md = p.md := (p.viol_touches req w c a).1.keeps Part.md fun _ => rfl
@[simp] theorem Part.viol_posted (req : Requester) (w : Bool) (c a : Nat) : (p.viol req w c a).posted = p.posted := (p.viol_touches req w c a).1.keeps Part.posted fun _ => rfl
@[simp] theorem Part.viol_shadow (req : Requester) (w : Bool) (c a : Nat) : (p.viol req w c a).shadow = p.shadow := (p.viol_touches req w c a).1.keeps Part.shadow fun _ => rfl
@[simp] theorem Part.viol_cell (req : Requester) (w : Bool) (c a : Nat) : (p.viol req w c a).cell = p.cell := (p.viol_touches req w c a).1.keeps Part.cell fun _ => rfl
@[simp] theorem Part.viol_frames (req : Requester) (w : Bool) (c a : Nat) : (p.viol req w c a).frames = p.frames := (p.viol_touches req w c a).1.keeps Part.frames fun _ => rfl
@[simp] theorem Part.viol_nextFrame (req : Requester) (w : Bool) (c a : Nat) : (p.viol req w c a).nextFrame = p.nextFrame := (p.viol_touches req w c a).1.keeps Part.nextFrame fun _ => rfl
@[simp] theorem Part.viol_voqs (req : Requester) (w : Bool) (c a : Nat) : (p.viol req w c a).voqs = p.voqs := (p.viol_touches req w c a).1.keeps Part.voqs fun _ => rfl
@[simp] theorem Part.viol_flights (req : Requester) (w : Bool) (c a : Nat) : (p.viol req w c a).flights = p.flights := (p.viol_touches req w c a).1.keeps Part.flights fun _ => rfl
@[simp] theorem Part.viol_residues (req : Requester) (w : Bool) (c a : Nat) : (p.viol req w c a).residues = p.residues := (p.viol_touches req w c a).1.keeps Part.residues fun _ => rfl
@[simp] theorem Part.viol_arbA (req : Requester) (w : Bool) (c a : Nat) : (p.viol req w c a).arbA = p.arbA := (p.viol_touches req w c a).1.keeps Part.arbA fun _ => rfl
@[simp] theorem Part.viol_arbG (req : Requester) (w : Bool) (c a : Nat) : (p.viol req w c a).arbG = p.arbG := (p.viol_touches req w c a).1.keeps Part.arbG fun _ => rfl
@[simp] theorem Part.viol_arbV (req : Requester) (w : Bool) (c a : Nat) : (p.viol req w c a).arbV = p.arbV := (p.viol_touches req w c a).1.keeps Part.arbV fun _ => rfl
@[simp] theorem Part.viol_cellTime (req : Requester) (w : Bool) (c a : Nat) : (p.viol req w c a).cellTime = p.cellTime := (p.viol_touches req w c a).1.keeps Part.cellTime fun _ => rfl
@[simp] theorem Part.viol_joining (req : Requester) (w : Bool) (c a : Nat) : (p.viol req w c a).joining = p.joining := (p.viol_touches req w c a).1.keeps Part.joining fun _ => rfl
@[simp] theorem Part.viol_starved (req : Requester) (w : Bool) (c a : Nat) : (p.viol req w c a).starved = p.starved := (p.viol_touches req w c a).1.keeps Part.starved fun _ => rfl
@[simp] theorem Part.viol_occ (req : Requester) (w : Bool) (c a : Nat) : (p.viol req w c a).occ = p.occ := (p.viol_touches req w c a).1.keeps Part.occ fun _ => rfl
@[simp] theorem Part.viol_refused (req : Requester) (w : Bool) (c a : Nat) : (p.viol req w c a).refused = p.refused := (p.viol_touches req w c a).1.keeps Part.refused fun _ => rfl
@[simp] theorem Part.viol_backing (req : Requester) (w : Bool) (c a : Nat) : (p.viol req w c a).backing = p.backing := (p.viol_touches req w c a).1.keeps Part.backing fun _ => rfl
@[simp] theorem Part.viol_stuck (req : Requester) (w : Bool) (c a : Nat) : (p.viol req w c a).stuck = p.stuck := (p.viol_touches req w c a).1.keeps Part.stuck fun _ => rfl
@[simp] theorem Part.viol_audit (req : Requester) (w : Bool) (c a : Nat) : (p.viol req w c a).audit = p.audit := (p.viol_touches req w c a).1.keeps Part.audit fun _ => rfl
@[simp] theorem Part.viol_tq (req : Requester) (w : Bool) (c a : Nat) : (p.viol req w c a).tq = p.tq := (p.viol_touches req w c a).1.keeps Part.tq fun _ => rfl
@[simp] theorem Part.viol_deficit (req : Requester) (w : Bool) (c a : Nat) : (p.viol req w c a).deficit = p.deficit := (p.viol_touches req w c a).1.keeps Part.deficit fun _ => rfl
@[simp] theorem Part.viol_stale (req : Requester) (w : Bool) (c a : Nat) : (p.viol req w c a).stale = p.stale := (p.viol_touches req w c a).1.keeps Part.stale fun _ => rfl
@[simp] theorem Part.viol_tok (req : Requester) (w : Bool) (c a : Nat) : (p.viol req w c a).tok = p.tok := (p.viol_touches req w c a).1.keeps Part.tok fun _ => rfl
@[simp] theorem Part.viol_shpAct (req : Requester) (w : Bool) (c a : Nat) : (p.viol req w c a).shpAct = p.shpAct := (p.viol_touches req w c a).1.keeps Part.shpAct fun _ => rfl
@[simp] theorem Part.viol_polTok (req : Requester) (w : Bool) (c a : Nat) : (p.viol req w c a).polTok = p.polTok := (p.viol_touches req w c a).1.keeps Part.polTok fun _ => rfl
@[simp] theorem Part.viol_polAct (req : Requester) (w : Bool) (c a : Nat) : (p.viol req w c a).polAct = p.polAct := (p.viol_touches req w c a).1.keeps Part.polAct fun _ => rfl
@[simp] theorem Part.viol_debt (req : Requester) (w : Bool) (c a : Nat) : (p.viol req w c a).debt = p.debt := (p.viol_touches req w c a).1.keeps Part.debt fun _ => rfl
@[simp] theorem Part.viol_withheld (req : Requester) (w : Bool) (c a : Nat) : (p.viol req w c a).withheld = p.withheld := (p.viol_touches req w c a).1.keeps Part.withheld fun _ => rfl
@[simp] theorem Part.viol_tables (req : Requester) (w : Bool) (c a : Nat) : (p.viol req w c a).tables = p.tables := (p.viol_touches req w c a).1.keeps Part.tables fun _ => rfl
@[simp] theorem Part.viol_ort (req : Requester) (w : Bool) (c a : Nat) : (p.viol req w c a).ort = p.ort := (p.viol_touches req w c a).1.keeps Part.ort fun _ => rfl
@[simp] theorem Part.viol_ledger (req : Requester) (w : Bool) (c a : Nat) : (p.viol req w c a).ledger = p.ledger := (p.viol_touches req w c a).1.keeps Part.ledger fun _ => rfl
@[simp] theorem Part.viol_fail (req : Requester) (w : Bool) (c a : Nat) : (p.viol req w c a).fail = p.fail := (p.viol_touches req w c a).1.keeps Part.fail fun _ => rfl
@[simp] theorem Part.viol_jrnl (req : Requester) (w : Bool) (c a : Nat) : (p.viol req w c a).jrnl = p.jrnl := (p.viol_touches req w c a).1.keeps Part.jrnl fun _ => rfl
@[simp] theorem Part.viol_gates (req : Requester) (w : Bool) (c a : Nat) : (p.viol req w c a).gates = p.gates := (p.viol_touches req w c a).1.keeps Part.gates fun _ => rfl
@[simp] theorem Part.viol_nextGate (req : Requester) (w : Bool) (c a : Nat) : (p.viol req w c a).nextGate = p.nextGate := (p.viol_touches req w c a).1.keeps Part.nextGate fun _ => rfl
@[simp] theorem Part.viol_waiting (req : Requester) (w : Bool) (c a : Nat) : (p.viol req w c a).waiting = p.waiting := (p.viol_touches req w c a).1.keeps Part.waiting fun _ => rfl
@[simp] theorem Part.viol_fences (req : Requester) (w : Bool) (c a : Nat) : (p.viol req w c a).fences = p.fences := (p.viol_touches req w c a).1.keeps Part.fences fun _ => rfl
@[simp] theorem Part.viol_link (req : Requester) (w : Bool) (c a : Nat) : (p.viol req w c a).link = p.link := (p.viol_touches req w c a).1.keeps Part.link fun _ => rfl
@[simp] theorem Part.viol_txFlow (req : Requester) (w : Bool) (c a : Nat) : (p.viol req w c a).txFlow = p.txFlow := (p.viol_touches req w c a).1.keeps Part.txFlow fun _ => rfl
@[simp] theorem Part.viol_rxFlow (req : Requester) (w : Bool) (c a : Nat) : (p.viol req w c a).rxFlow = p.rxFlow := (p.viol_touches req w c a).1.keeps Part.rxFlow fun _ => rfl
@[simp] theorem Part.viol_rsqIn (req : Requester) (w : Bool) (c a : Nat) : (p.viol req w c a).rsqIn = p.rsqIn := (p.viol_touches req w c a).1.keeps Part.rsqIn fun _ => rfl
@[simp] theorem Part.viol_combine (req : Requester) (w : Bool) (c a : Nat) : (p.viol req w c a).combine = p.combine := (p.viol_touches req w c a).1.keeps Part.combine fun _ => rfl
@[simp] theorem Part.viol_port (req : Requester) (w : Bool) (c a : Nat) : (p.viol req w c a).port = p.port := (p.viol_touches req w c a).1.keeps Part.port fun _ => rfl
@[simp] theorem Part.viol_cfg (req : Requester) (w : Bool) (c a : Nat) : (p.viol req w c a).cfg = p.cfg := (p.viol_touches req w c a).1.keeps Part.cfg fun _ => rfl
@[simp] theorem Part.viol_sharers (req : Requester) (w : Bool) (c a : Nat) : (p.viol req w c a).sharers = p.sharers := (p.viol_touches req w c a).1.keeps Part.sharers fun _ => rfl
@[simp] theorem Part.viol_intx (req : Requester) (w : Bool) (c a : Nat) : (p.viol req w c a).intx = p.intx := (p.viol_touches req w c a).1.keeps Part.intx fun _ => rfl
@[simp] theorem Part.viol_msix (req : Requester) (w : Bool) (c a : Nat) : (p.viol req w c a).msix = p.msix := (p.viol_touches req w c a).1.keeps Part.msix fun _ => rfl
@[simp] theorem Part.viol_flr (req : Requester) (w : Bool) (c a : Nat) : (p.viol req w c a).flr = p.flr := (p.viol_touches req w c a).1.keeps Part.flr fun _ => rfl
@[simp] theorem Part.viol_cfFlr (req : Requester) (w : Bool) (c a : Nat) : (p.viol req w c a).cfFlr = p.cfFlr := (p.viol_touches req w c a).1.keeps Part.cfFlr fun _ => rfl
@[simp] theorem Part.viol_stnRest (req : Requester) (w : Bool) (c a : Nat) : (p.viol req w c a).stnRest = p.stnRest := (p.viol_touches req w c a).1.keeps Part.stnRest fun _ => rfl
@[simp] theorem Part.viol_chan (req : Requester) (w : Bool) (c a : Nat) : (p.viol req w c a).chan = p.chan := (p.viol_touches req w c a).1.keeps Part.chan fun _ => rfl
@[simp] theorem Part.viol_hist (req : Requester) (w : Bool) (c a : Nat) : (p.viol req w c a).hist = p.hist := (p.viol_touches req w c a).1.keeps Part.hist fun _ => rfl
@[simp] theorem Part.viol_domHist (req : Requester) (w : Bool) (c a : Nat) : (p.viol req w c a).domHist = p.domHist := (p.viol_touches req w c a).1.keeps Part.domHist fun _ => rfl
@[simp] theorem Part.viol_ant (req : Requester) (w : Bool) (c a : Nat) : (p.viol req w c a).ant = p.ant := (p.viol_touches req w c a).1.keeps Part.ant fun _ => rfl
@[simp] theorem Part.viol_ffy (req : Requester) (w : Bool) (c a : Nat) : (p.viol req w c a).ffy = p.ffy := (p.viol_touches req w c a).1.keeps Part.ffy fun _ => rfl
@[simp] theorem Part.viol_boot (req : Requester) (w : Bool) (c a : Nat) : (p.viol req w c a).boot = p.boot := (p.viol_touches req w c a).1.keeps Part.boot fun _ => rfl
@[simp] theorem Part.viol_time (req : Requester) (w : Bool) (c a : Nat) : (p.viol req w c a).time = p.time := (p.viol_touches req w c a).1.keeps Part.time fun _ => rfl
@[simp] theorem Part.viol_ibi (req : Requester) (w : Bool) (c a : Nat) : (p.viol req w c a).ibi = p.ibi := (p.viol_touches req w c a).1.keeps Part.ibi fun _ => rfl
@[simp] theorem Part.viol_spi (req : Requester) (w : Bool) (c a : Nat) : (p.viol req w c a).spi = p.spi := (p.viol_touches req w c a).1.keeps Part.spi fun _ => rfl
@[simp] theorem Part.viol_flash (req : Requester) (w : Bool) (c a : Nat) : (p.viol req w c a).flash = p.flash := (p.viol_touches req w c a).1.keeps Part.flash fun _ => rfl
@[simp] theorem Part.viol_spare (req : Requester) (w : Bool) (c a : Nat) : (p.viol req w c a).spare = p.spare := (p.viol_touches req w c a).1.keeps Part.spare fun _ => rfl
@[simp] theorem Part.viol_ueRows (req : Requester) (w : Bool) (c a : Nat) : (p.viol req w c a).ueRows = p.ueRows := (p.viol_touches req w c a).1.keeps Part.ueRows fun _ => rfl
@[simp] theorem Part.viol_jext (req : Requester) (w : Bool) (c a : Nat) : (p.viol req w c a).jext = p.jext := (p.viol_touches req w c a).1.keeps Part.jext fun _ => rfl
@[simp] theorem Part.viol_side (req : Requester) (w : Bool) (c a : Nat) : (p.viol req w c a).side = p.side := (p.viol_touches req w c a).1.keeps Part.side fun _ => rfl
@[simp] theorem Part.viol_awaited (req : Requester) (w : Bool) (c a : Nat) : (p.viol req w c a).awaited = p.awaited := (p.viol_touches req w c a).1.keeps Part.awaited fun _ => rfl
@[simp] theorem Part.viol_credAt (req : Requester) (w : Bool) (c a : Nat) : (p.viol req w c a).credAt = p.credAt := (p.viol_touches req w c a).1.keeps Part.credAt fun _ => rfl
@[simp] theorem Part.viol_cplWait (req : Requester) (w : Bool) (c a : Nat) : (p.viol req w c a).cplWait = p.cplWait := (p.viol_touches req w c a).1.keeps Part.cplWait fun _ => rfl
@[simp] theorem Part.viol_rstDue (req : Requester) (w : Bool) (c a : Nat) : (p.viol req w c a).rstDue = p.rstDue := (p.viol_touches req w c a).1.keeps Part.rstDue fun _ => rfl
@[simp] theorem Part.viol_doe (req : Requester) (w : Bool) (c a : Nat) : (p.viol req w c a).doe = p.doe := (p.viol_touches req w c a).1.keeps Part.doe fun _ => rfl
@[simp] theorem Part.viol_regUe (req : Requester) (w : Bool) (c a : Nat) : (p.viol req w c a).regUe = p.regUe := (p.viol_touches req w c a).1.keeps Part.regUe fun _ => rfl
@[simp] theorem Part.viol_dfe (req : Requester) (w : Bool) (c a : Nat) : (p.viol req w c a).dfe = p.dfe := (p.viol_touches req w c a).1.keeps Part.dfe fun _ => rfl
@[simp] theorem Part.viol_farPreset (req : Requester) (w : Bool) (c a : Nat) : (p.viol req w c a).farPreset = p.farPreset := (p.viol_touches req w c a).1.keeps Part.farPreset fun _ => rfl
@[simp] theorem Part.viol_laneRx (req : Requester) (w : Bool) (c a : Nat) : (p.viol req w c a).laneRx = p.laneRx := (p.viol_touches req w c a).1.keeps Part.laneRx fun _ => rfl
@[simp] theorem Part.viol_scr (req : Requester) (w : Bool) (c a : Nat) : (p.viol req w c a).scr = p.scr := (p.viol_touches req w c a).1.keeps Part.scr fun _ => rfl
@[simp] theorem Part.viol_lines (req : Requester) (w : Bool) (c a : Nat) : (p.viol req w c a).lines = p.lines := (p.viol_touches req w c a).1.keeps Part.lines fun _ => rfl

end Sys2Proof.Machine
end

