-- ==== Sys2Proof/Laws/Modes.lean ====
section
/-! SUPPORT. What the operations of the mode machine do to the mode record and to Firefly's own state. -/

namespace Sys2Proof.Machine

/-! ### The access check -/

@[simp] theorem Part.dropShadow_md (p : Part) (r : Requester) : (p.dropShadow r).md = p.md := rfl

@[simp] theorem Part.dropShadow_ffy (p : Part) (r : Requester) : (p.dropShadow r).ffy = p.ffy := rfl

@[simp] theorem Part.dropShadow_rd (p : Part) (r : Requester) (a : Nat) : (p.dropShadow r).rd a = p.rd a := rfl

/-- Whatever the access check does, it changes register words and the requester's shadow only. -/
theorem Part.permitted_md (p : Part) (req : Requester) (pg : Page) (o : Nat) (h : (p.permitted req pg o).1 = true) :
    (p.permitted req pg o).2.md = p.md := by
  rw [Part.permitted_true _ _ _ _ h]
  simp

theorem Part.permitted_ffy (p : Part) (req : Requester) (pg : Page) (o : Nat) (h : (p.permitted req pg o).1 = true) :
    (p.permitted req pg o).2.ffy = p.ffy := by
  rw [Part.permitted_true _ _ _ _ h]
  simp

/-- The words outside GLB's header are as they were. -/
theorem Part.permitted_rd (p : Part) (req : Requester) (pg : Page) (o : Nat) (h : (p.permitted req pg o).1 = true) {a : Nat}
    (ha : 0x100 ≤ a) : (p.permitted req pg o).2.rd a = p.rd a := by
  rw [Part.permitted_true _ _ _ _ h]
  exact (Part.count_touches (p.dropShadow req) .glb 0 1 none).plain rfl (.inr (by simpa [Page.base] using ha))

/-- Where the requester has posted nothing to a page, nothing settles there. -/
theorem Part.settleAll_nil (p : Part) (req : Requester) (page : Nat) (h : p.nonePosted req page = true) : p.settleAll req page = p := by
  have e : p.posted.filter (fun w => decide (w.req = req ∧ w.page = page)) = [] := by
    rw [List.filter_eq_nil_iff]
    intro w hw
    have x := List.all_eq_true.mp h w hw
    simp only [Bool.not_eq_true', decide_eq_false_iff_not] at x
    simp only [decide_eq_true_eq]
    exact x
  unfold Part.settleAll
  rw [e]
  rfl

/-- The access check leaves the clocks of the pages alone. -/
theorem Part.permitted_clk (p : Part) (req : Requester) (pg g : Page) (o : Nat) (h : (p.permitted req pg o).1 = true) :
    (p.permitted req pg o).2.clkStopped g = p.clkStopped g := by
  have e : (p.permitted req pg o).2.rd (Page.pwr.base + PWR.UNIT_STAT.STN.off) = p.rd (Page.pwr.base + PWR.UNIT_STAT.STN.off) :=
    p.permitted_rd req pg o h (by decide)
  cases g <;> simp only [Part.clkStopped, Part.getF, e]

/-- A register command that may act does so on the state the access check leaves, with no earlier write of the requester to the page on its way. -/
theorem Part.ifPermitted_true (p : Part) (req : Requester) (pg : Page) (o : Nat) (f : Part → Part)
    (h : (p.permitted req pg o).1 = true) (hk : 0x100 ≤ o → pg.owner ≠ 0 → p.clkStopped pg = false ∧ p.nonePosted req pg.base = true) :
    p.ifPermitted req pg o f = f (p.permitted req pg o).2 := by
  unfold Part.ifPermitted
  simp only [h, Bool.not_true, Bool.false_eq_true, if_false]
  by_cases ho : o < 0x100 ∨ pg.owner = 0
  · rw [if_pos ho]
  · obtain ⟨hc, hp⟩ := hk (by omega) (by omega)
    have hq : (p.permitted req pg o).2.nonePosted req pg.base = true := by
      rw [p.permitted_true req pg o h]
      unfold Part.nonePosted
      rw [Part.count_posted]
      exact hp
    rw [if_neg ho, p.permitted_clk req pg pg o h, hc, Part.settleAll_nil _ req _ hq]
    rfl

theorem Part.ifPermitted_false (p : Part) (req : Requester) (pg : Page) (o : Nat) (f : Part → Part)
    (h : (p.permitted req pg o).1 = false) : p.ifPermitted req pg o f = (p.permitted req pg o).2 := by
  unfold Part.ifPermitted
  simp [h]

/-! ### Entering a mode -/

/-- The mode record after entering a mode (R20, GLB.MODE_STAT). -/
@[simp] theorem Part.enter_md (p : Part) (m : Mode) (c : Nat) : (p.enter m c).md =
    { p.md with
      mode := m, prev := p.md.mode, lastCause := c,
      role := if m.isRole then some m else if m = .degraded ∨ m = .fenced ∨ m = .standby then p.md.role else none,
      standbyRoot := p.md.standbyRoot && (m == .fabricMember || m == .degraded || m == .fenced),
      colonyUp := if m.core then p.md.colonyUp && m != .boot else (p.md.colonyUp && m == .standby),
      lost := if m = .degraded ∨ m = .fenced then p.md.lost else [],
      sentIntent := p.md.sentIntent && (m == .standby || m == .transparent || m == .partitioned) } := by
  unfold Part.enter
  cases m <;> simp

@[simp] theorem Part.enter_ffy (p : Part) (m : Mode) (c : Nat) :
    (p.enter m c).ffy = { (if m = .standby ∨ m = .degraded ∨ m = .fenced then p.watched else p.ffy) with
      idleSince := if m = .standby then some p.now else none } := by
  unfold Part.enter
  cases m <;> simp

/-- Entering a mode changes register words of GLB's header only. -/
theorem Part.enter_rd (p : Part) (m : Mode) (c : Nat) {a : Nat} (ha : 0x100 ≤ a) : (p.enter m c).rd a = p.rd a := by
  have hc : ∀ (q : Part) (n : Nat), (q.count .glb n 1).rd a = q.rd a := fun q n =>
    (Part.count_touches q .glb n 1 none).plain rfl (.inr (by simpa [Page.base] using ha))
  have he : ∀ (q : Part) (n : Nat), (q.err .glb n).rd a = q.rd a := fun q n =>
    (Part.err_touches q .glb n).plain rfl (.inr (by simpa [Page.base] using ha))
  have hi : ∀ (q : Part) (n : Nat), (q.irq .glb n).rd a = q.rd a := fun q n =>
    q.rd_irq_ne .glb n (by simp [Page.base]; omega)
  unfold Part.enter
  cases m <;> simp [hc, he, hi] <;> rfl

/-! ### Resets -/

@[simp] theorem Part.unlock_md (p : Part) (g : Page) : (p.unlock g).md = p.md := rfl

@[simp] theorem Part.unlock_ffy (p : Part) (g : Page) : (p.unlock g).ffy = p.ffy := rfl

@[simp] theorem Part.coreReset_md (p : Part) : p.coreReset.md = p.md := rfl

@[simp] theorem Part.coreReset_ffy (p : Part) : p.coreReset.ffy = p.watched := rfl

/-- A fold whose steps keep a field keeps it. -/
theorem foldl_keeps {α β γ : Type} (g : α → γ) (f : α → β → α) (h : ∀ q b, g (f q b) = g q) (l : List β) (a : α) :
    g (l.foldl f a) = g a := by
  induction l generalizing a with
  | nil => rfl
  | cons b l ih => rw [List.foldl_cons, ih, h]

@[simp] theorem Part.railsOff_md (p : Part) : p.railsOff.md = p.md := by
  unfold Part.railsOff
  simp only [Part.setF_md]
  rw [foldl_keeps Part.md (fun (r : Part) (k : Nat) => r.setF .ffy (FFY.TEMP.VALID.ix k) 0) (fun _ _ => rfl)]
  rfl

@[simp] theorem Part.railsOff_ffy (p : Part) : p.railsOff.ffy =
    { p.watched with ready := [], avs := none, avsq := [], hold := none, stretch := 0 } := rfl

theorem aon_get (r : Sparse (BitVec 32)) (d : BitVec 32) (a : Nat)
    (h : (0x1000 ≤ a ∧ a < 0x4000) ∨ (0x5000 ≤ a ∧ a < 0x6000)) : Sparse.get (aonWords r) d a = Sparse.get r d a := by
  unfold aonWords
  induction r with
  | nil => rfl
  | cons e r ih =>
    obtain ⟨b, v⟩ := e
    by_cases hb : b = a
    · subst hb
      simp [h, Sparse.get]
    · simp only [List.filter_cons]
      split
      · simpa only [Sparse.get, if_neg hb] using ih
      · simpa only [Sparse.get, if_neg hb] using ih

/-! ### Triggers -/

@[simp] theorem Part.settleGoing_md (p : Part) : p.settleGoing.md = { p.md with going := none } := rfl

@[simp] theorem Part.settleGoing_ffy (p : Part) : p.settleGoing.ffy = p.ffy := rfl

@[simp] theorem Part.settleGoing_rd (p : Part) (a : Nat) : p.settleGoing.rd a = p.rd a := rfl

/-- A refused mode request (R27, R28). -/
@[simp] theorem Part.rejectMode_md (p : Part) (n : Nat) : (p.rejectMode n).md = { p.md with reqRej := true, rejCode := n } := by
  simp [Part.rejectMode]

@[simp] theorem Part.rejectMode_ffy (p : Part) (n : Nat) : (p.rejectMode n).ffy = p.ffy := by
  simp [Part.rejectMode]

/-- With no trigger waiting there is nothing to evaluate at the end of a transition. -/
theorem Part.wakeWaiting_nil (p : Part) (h : p.md.waiting = []) : p.wakeWaiting = p := by
  have e : ({ p with md := { p.md with waiting := [] } } : Part) = p := by
    rw [← h]
  unfold Part.wakeWaiting
  split
  · rfl
  · rw [h, e]
    rfl

/-- A trigger that comes while no transition is in progress and none waits is acted on at once (R27). -/
theorem Part.trigger_idle (p : Part) (t : Trigger) (h : p.md.going = none) (k : (p.act t false).md.waiting = []) :
    p.trigger t = p.act t false := by
  unfold Part.trigger Part.take
  rw [h]
  exact Part.wakeWaiting_nil _ k

/-- Ending a transition with no trigger waiting. -/
theorem Part.endTransition_nil (p : Part) (h : p.md.waiting = []) : p.endTransition = p.settleGoing :=
  Part.wakeWaiting_nil _ h

end Sys2Proof.Machine
end

