-- ==== Sys2Proof/Tests/Slice0.lean ====
section
/-! SUPPORT. Tests: for each statement a state and operands that meet its hypotheses, with the outcome of one step there, and the
checks of WellFormed on an ill-formed command each. Expected values are worked out from the rules named. -/

set_option Elab.async false

namespace Sys2Proof.Tests

open Sys2Proof Sys2Proof.Machine

/-- The state after reset with the part changed. -/
def from_ (f : Part → Part) : State := { State.reset with part := f Part.fresh }

/-- The mode record of a mode that has just been entered. -/
def mdIn (m : Mode) : ModeBlk := { Part.fresh.md with mode := m, role := if m.isRole then some m else none }

/-- A part in a mode with nothing else done. -/
def inMode (m : Mode) : State := from_ (fun p => { p with md := mdIn m })

/-- Whether a command answers a next state of which `q` holds. -/
def after (c : Instr) (s : State) (q : State → Bool) : Bool :=
  match exec c s with
  | .next t => q t
  | _ => false


/-- A part in mode PARTITIONED. -/
def up (f : Part → Part) : State := from_ (fun p => f { p with md := mdIn .partitioned })

/-- Station 15 is powered with the given configuration word in effect. -/
def stn15 (w : Nat) (p : Part) : Part :=
  ((p.setF .pwr PWR.UNIT_STAT.STN 0x8000).setF .glb (GLB.STN_STAT.MODE_ACT.ix 15) (w % 4)).setF .glb (GLB.STN_STAT.PORT_W_ACT.ix 15) (w / 16)

/-- Domain 63 is attached at port 0, which it owns. -/
def dom63 (p : Part) : Part :=
  (((p.setF (.port 0) PORT.PORT_CTL.ROLE 1).setF (.port 0) PORT.PORT_CTL.DOMAIN 63).setTw 5 63 0 1).setF (.port 0) PORT.PORT_STAT.DL_UP 1

/-- Domain 63 with channel 511 at its slot 255, in a STATE. -/
def channel (st : Nat) (p : Part) : Part :=
  ((dom63 p).wr ((Page.drn 1).base + 0x400 + 4 * 255) (BitVec.ofNat 32 (1 + 2 * 63 + 128 * 255))).setF (.drc 63 255) DRC.CH_STAT.STATE st

/-- A maintenance session entered with MAINT_STRAP, Chitin at SVN 255. -/
def session : State := from_ (fun p =>
  let b := { p.boot with chitin := true, byStrap := true }
  ({ p with md := mdIn .maintenance, ffy := { p.ffy with strap := true }, boot := b }).setF .otpv OTPV.SVN.CHITIN_RUN 255)

/-- Whether a step answers a next state of which `q` holds. -/
def stepTo (s : State) (q : State → Bool) : Bool :=
  match step s with
  | .next t => q t
  | _ => false

/-! ### Well-formedness: for each check a command that it refuses -/

/-- A packet that fits every field. -/
def okTlp : Tlp := { Tlp.blank with len := 4, data := [1, 2, 3, 4], tag := 16383, tc := 7 }

/-- A unit header that fits every field. -/
def okHdr : CocoonHdr := { CocoonHdr.blank with dst := 65535, cls := 7, fseq := 0xFFFFFF, ortx := 131071 }

/-- A parcel header that fits every field. -/
def okParcel : ParcelHdr := ParcelHdr.mk 0 7 true true 255 15 0xFFFFF 0xFFFFF 65535 7 65535 7 65535 false false 2047

/-- A parcel that brings a body, with an empty payload block. -/
def parcelOf (b : Body) : Instr := .rxParcel 31 0 (List.replicate 256 0) 0 (.cell (some b)) true

theorem test_wellformed_accepts :
    (Instr.tlpReceive 127 okTlp).wf ∧ (Instr.commitAckReceive okHdr true 15).wf ∧ (parcelOf (.unit okHdr (.tlp okTlp))).wf ∧
    (Instr.ownerRead (.range 127 (2 ^ 40) 40)).wf ∧ (Instr.thermalSample [0, 1, 2, 3, 4, 5, 6, 2047] 0 0).wf ∧ (Instr.l0pWidthReduce 0 8).wf ∧
    okParcel.wf ∧ ParcelHdr.unpack okParcel.pack = okParcel := by
  decide +kernel

theorem test_wellformed_refuses_packets :
    [{ okTlp with len := 4097 }, { okTlp with data := List.replicate 4097 0 }, { okTlp with tag := 16384 }, { okTlp with tc := 8 },
      { okTlp with atType := 4 }, { okTlp with byteCount := 4097 }].all (fun t =>
        !(Instr.tlpReceive 0 t).wf && !(Instr.configRequest 0 t none false).wf && !(Instr.colonyRequest 0 t).wf && !(Instr.droppableAdmit 0 0 0 0 t).wf &&
        !(Instr.completionReceive 0 t).wf && !(Instr.fenceRead 0 t).wf && !(parcelOf (.local t)).wf && !(parcelOf (.unit okHdr (.tlp t))).wf) = true := by
  decide +kernel

theorem test_wellformed_refuses_unit_headers :
    [{ okHdr with dst := 65536 }, { okHdr with src := 65536 }, { okHdr with domain := 4096 }, { okHdr with cls := 8 }, { okHdr with kind := 16 },
      { okHdr with fseq := 2 ^ 24 }, { okHdr with ilen := 8192 }, { okHdr with hops := 32 }, { okHdr with mcg := 4096 }, { okHdr with ortx := 2 ^ 17 },
      { okHdr with ts := 2 ^ 32 }, { okHdr with psel := 8 }].all (fun h =>
        !(Instr.commitAckReceive h false 0).wf && !(Instr.probeOpen h).wf && !(Instr.probeVoid h 1).wf && !(Instr.probeResume 0 0 h 0).wf &&
        !(Instr.synthCplReceive h 0 0 0).wf && !(parcelOf (.unit h (.hive 0 []))).wf) = true := by
  decide +kernel

/-- A lane's measurements that fit every field. -/
def okMeas : LaneMeas := LaneMeas.mk [[(65536, 65536)]] [[(65536, 65536)]] [15] false 0 7

theorem test_wellformed_refuses_measurements :
    okMeas.wf ∧
    [{ okMeas with presets := [[(65537, 0)]] }, { okMeas with sweep := [[(0, 65537)]] }, { okMeas with asked := [16] }, { okMeas with peer := 8 }].all
      (fun m => !(Instr.pcieLinkUp 0 0 1 true false [m]).wf && !(Instr.pcieRateChange 0 0 [m]).wf &&
        !(Instr.lockDone 0 (m :: List.replicate 7 okMeas)).wf) = true := by
  decide +kernel

theorem test_wellformed_refuses_resources :
    [Res.port 128, .fn 128 0, .range 128 0 21, .range 0 0 20, .range 0 0 41, .range 0 1 21, .range 0 (2 ^ 64) 21].all (fun r =>
      !(Instr.ownerRead r).wf && !(Instr.forceRelease r).wf && !(Instr.resourceRelease 0 r).wf) = true ∧
    [FreeItem.mk 128 0 0 0 false 0, .mk 0 0 65536 0 false 0, .mk 0 0 0 65536 false 0, .mk 0 0 0 0 false 64].all (fun x =>
      !(Instr.listFree 0 [x]).wf) = true ∧
    [RootKey.mk 65536 0 0 0, .mk 0 256 0 0, .mk 0 0 (2 ^ 64) 0, .mk 0 0 0 128].all (fun k => !(Instr.fabricDiscovery [k] false).wf) = true := by
  decide +kernel

theorem test_wellformed_refuses_operands :
    [Instr.backgroundAdapt 0 0 [(65537, 0)] [], .backgroundAdapt 0 0 [] [(0, 65537)], .pcieLinkUp 0 0 3 true false [], .lockDone 0 [], .rxParcel 0 0 [] 0 (.null 0 0) true,
      .l0pWidthReduce 0 3, .l0pWidthIncrease 0 5, .writeGen [] true true, .setRoot 1 [] true true,
      .bind 0 0 [], .thermalSample [1] 0 0, .thermalSample [0, 0, 0, 0, 0, 0, 0, 2048] 0 0, .registerWrite .chitin (2 ^ 64) 0 none,
      .postedWriteEffect .chitin (2 ^ 64), .clearingRead .chitin (2 ^ 64) false, .poolSizeWrite .chitin (2 ^ 64) 0, .patrolScrub 0 (2 ^ 64) 0 0 0,
      .rowRepair 0 0 (2 ^ 64), .errInj .chitin (2 ^ 64) 0, .softReset .chitin (2 ^ 64), .lock .chitin (2 ^ 64), .irqSet .chitin (2 ^ 64) 0,
      .counterClear .chitin (2 ^ 64), .histogramLatch .chitin (2 ^ 64) 0, .flashWrite (2 ^ 64) [], .flashWrite 0 (List.replicate 4097 0),
      .i3cCommandDone 0 (List.replicate 4097 0), .mctpReceive 0 0 (List.replicate 4097 0) none].all (fun c => !c.wf) = true := by
  decide +kernel

/-- What step answers with a command in front. -/
theorem test_front_command_runs :
    stepTo { inMode .partitioned with pending := [.timeHoldover, .timePpsPulse] } (fun t => t.pending == [.timePpsPulse]) := by
  decide +kernel

/-- The table gives no row any bits, so no word spells a command. -/
theorem test_no_word_spells_a_command : decodeTableWord 8 0 = none ∧ (State.reset.withFetchWord 8 0).pending = [] := by
  decide

/-! ### Modes -/

theorem witness_ModeRequestsAct :
    let s := inMode .partitioned
    Idle s ∧ MayWrite s .colony .glb 0x104 ∧ s.part.standbyOk = true ∧
    after (.modeReqStandby .colony 0x5A) s (fun t => t.part.md.going == some (.modeReq .standby)) ∧
    after (.modeReqSentinel .colony 0x5A) s (fun t => t.part.md.sentIntent) ∧
    after (.modeReqBoot .colony 0x5A) s (fun t => t.part.md.mode == .boot && t.part.md.prev == .partitioned && t.part.md.lastCause == 4) ∧
    after (.modeReqFabricMember .colony 0x5A) s (fun t => t.part.md.mode == .fabricMember && t.part.md.lastCause == 8) ∧
    after (.modeReqFabricRoot .colony 0x5A) s (fun t => t.part.md.mode == .fabricRoot && t.part.md.prev == .partitioned) ∧
    Requester.locate .colony (Page.glb.base + 0x104) = some (.glb, 0x104) ∧
    after (.registerWrite .colony (Page.glb.base + 0x104) 0x15A03 none) s (fun t => t.part.md.mode == .boot && t.part.md.lastCause == 4) ∧
    after (.registerWrite .colony (Page.glb.base + 0x104) 0x15A01 none) s (fun t => t.part.md.sentIntent) := by
  decide +kernel

theorem witness_ModeRequestsRefused :
    let s := inMode .fenced
    let no := fun (n : Nat) (t : State) => t.part.md.reqRej && t.part.md.rejCode == n && t.part.md.mode == .fenced
    let b := from_ (fun p => ({ p with md := { mdIn .partitioned with sentIntent := true } }).setSl 0 { Slot.empty with used := true })
    Idle s ∧ MayWrite s .colony .glb 0x104 ∧ MayWrite s .chitin .glb 0x104 ∧
    Idle b ∧ MayWrite b .chitin .glb 0x104 ∧ b.part.standbyOk = false ∧
    after (.modeReqStandby .chitin 0x5A) b (fun t => t.part.md.reqRej && t.part.md.rejCode == 5) ∧
    after (.modeReqFabricRoot .chitin 0x5A) b (fun t => t.part.md.rejCode == 3 && !t.part.md.sentIntent) ∧
    after (.modeReqBoot .chitin 0) s (no 2) ∧ after (.modeReqFabricRoot .chitin 0x5A) s (no 3) ∧
    after (.modeReqStandby .colony 0x5A) s (no 1) ∧ after (.modeReqSentinel .colony 0x5A) s (no 1) ∧
    after (.modeReqFabricMember .colony 0x5A) s (no 1) ∧ after (.modeReqFabricRoot .colony 0x5A) s (no 1) := by
  decide +kernel

/-- A part in a mode with a transition in progress. -/
def goingIn (m : Mode) (g : Trigger) : State := from_ (fun p => { p with md := { mdIn m with going := some g, from_ := .transparent } })

theorem witness_FireflySequencesEnd :
    let w := goingIn .sentinel (.wake 1 0)
    let v := from_ (fun _ => { w.part with ffy := { w.part.ffy with tries := 1 } })
    let b := goingIn .partitioned (.modeReq .standby)
    let c := from_ (fun _ => { b.part with md := { b.part.md with sentIntent := true } })
    let y := goingIn .standby (.wake 4 0)
    w.part.md.waiting = [] ∧ after .wakeSequence w (fun t => t.part.md.mode == .boot && t.part.md.lastCause == 1) ∧
    w.part.ffy.tries = 0 ∧ after .wakeStepTimeout w (fun t => t.part.md.mode == .sentinel && t.part.ffy.tries == 1) ∧
    after .wakeStepTimeout v (fun t => t.part.md.mode == .sentinel && t.part.md.going == none && t.part.getF .ffy FFY.TRIP_STAT.CAUSE == 6) ∧
    b.part.md.mode.core = true ∧ b.part.md.sentIntent = false ∧ b.part.ffy.avs.toList ++ b.part.ffy.avsq = [] ∧
    after .standbyEntryComplete c (fun t => t.part.md.mode == .sentinel && t.part.md.prev == .standby) ∧
    after .standbyEntryComplete b (fun t => t.part.md.mode == .standby && t.part.md.lastCause == 8) ∧
    after .standbyEntryAckMissing b (fun t => t.part.md.mode == .partitioned && t.part.md.rejCode == 5 && t.part.md.going == none) ∧
    after (.standbyWake true) y (fun t => t.part.md.mode == .transparent && t.part.md.lastCause == 3) ∧
    after (.standbyWake false) y (fun t => t.part.md.mode == .boot && t.part.md.lastCause == 0xE) ∧
    after .powerCycleHoldEnd (goingIn .sentinel .powerCycle) (fun t => t.part.md.mode == .boot && t.part.md.lastCause == 0xF) := by
  decide +kernel

theorem witness_PowerTriggersAct :
    let a := from_ (fun p => ({ p with md := mdIn .transparent, now := 10 ^ 6, ffy := { p.ffy with idleSince := some 0 } }).setF .ffy
      FFY.IDLE_CTL.STBY_MS 1)
    let b := from_ (fun p => ({ p with md := mdIn .standby, now := 10 ^ 9, ffy := { p.ffy with idleSince := some 0 } }).setF .ffy
      FFY.IDLE_CTL.SENT_S 1)
    let q := from_ (fun p => { p with md := mdIn .transparent, ffy := { p.ffy with tripQ := some (1, 3, 0) } })
    Idle a ∧ a.part.standbyOk = true ∧ a.part.getF .ffy FFY.IDLE_CTL.STBY_MS = 1 ∧ a.part.idleFor 1000000 = true ∧
    after .idleStandbyTimer a (fun t => t.part.md.going == some (.idlePolicy .standby)) ∧
    b.part.getF .ffy FFY.IDLE_CTL.SENT_S = 1 ∧ b.part.idleFor 1000000000 = true ∧ after .idleSentinelTimer b (fun t => t.part.md.mode == .sentinel) ∧
    MayWrite a .chitin .glb 0x210 ∧ after (.recoverWarmReset .chitin 0xC3) a (fun t => t.part.md.mode == .boot && t.part.md.lastCause == 4) ∧
    after (.recoverPowerCycle .chitin 0xC3) a (fun t => t.part.md.mode == .sentinel && t.part.md.going == some .powerCycle) ∧
    after (.powerCycle 0x3C) a (fun t => t.part.md.mode == .sentinel && t.part.md.going == some .powerCycle) ∧
    after (.refclkLoss true) a (fun t => t.part.md.mode == .sentinel && t.part.getF .ffy FFY.TRIP_STAT.CAUSE == 5) ∧
    q.part.md.mode.rails = true ∧
    after .trip q (fun t => t.part.md.mode == .sentinel && t.part.getF .ffy FFY.TRIP_STAT.CAUSE == 1 && t.part.ffy.tripQ == none) := by
  decide +kernel

theorem witness_SamplesAndTrips :
    let s := inMode .transparent
    let h := from_ (fun p => { p with md := mdIn .sentinel, ffy := { p.ffy with held := [(1, 0)] } })
    after (.thermalSample [100, 101] 0 0) s (fun t => t.part.getF .ffy (FFY.TEMP.VALUE.ix 1) == 101 && t.part.getF .ffy (FFY.TEMP.VALID.ix 7) == 1) ∧
    s.part.wakesHeld = false ∧ Idle h ∧ h.part.wakesHeld = false ∧
    after (.tripWakeHoldEnd true) h (fun t => t.part.md.going == some (.wake 1 0) && t.part.ffy.held == []) ∧
    MayWrite s .colony .ffy 0x140 ∧ s.part.causeGone = true ∧
    after (.tripClear .colony) s (fun t => t.part.getF .ffy FFY.TRIP_STAT.FAULT == 0) ∧
    after (.clearFault 0xA5) s (fun t => t.part.getF .ffy FFY.TRIP_STAT.FAULT == 0) := by
  decide +kernel

theorem witness_RegulatorPort :
    let r := fun (k att : Nat) => AvsReq.mk k (some 900) att false []
    let s := from_ (fun p => { p with md := mdIn .transparent, ffy := { p.ffy with avsq := [r 1 0] } })
    let a := fun (att : Nat) => from_ (fun p => { p with md := mdIn .transparent, ffy := { p.ffy with avs := some (r 3 att) } })
    let d := from_ (fun p => ({ p with md := mdIn .transparent }).setF .pwr (PWR.AVS_STAT.ACK_MV.ix 1) 1)
    let z := fun (n : Nat) => from_ (fun p => (({ p with md := mdIn .transparent, ffy := { p.ffy with reads := [(2, n)] } }).setF .pwr
      (PWR.AVS_STAT.STATE.ix 2) 2))
    let h := from_ (fun p => { p with md := mdIn .transparent, ffy := { p.ffy with hold := some 0 } })
    s.part.md.mode.rails = true ∧ s.part.ffy.avs = none ∧
    after (.avsRequest 1) s (fun t => t.part.ffy.avs == some (r 1 0) && t.part.out == [.avs 1 900]) ∧
    d.part.ffy.avsq = [] ∧ d.part.avsDue 1 = true ∧ after (.avsRequest 1) d (fun t => t.part.out == [.avs 1 (d.part.wantMv 1)]) ∧
    after (.avsAck 3 900) (a 2) (fun t => t.part.ffy.avs == none && t.part.getF .pwr (PWR.AVS_STAT.ACK_MV.ix 3) == 900) ∧
    (a 2).part.silent 3 = false ∧ after (.avsAttemptFail 3 1) (a 2) (fun t => t.part.ffy.avs == some (r 3 3)) ∧ Idle (a 3) ∧
    after (.avsAttemptFail 3 4) (a 3) (fun t => t.part.silent 3 && t.part.md.mode == .degraded && t.part.out.contains (.pmbus 3 (safeMv 3))) ∧
    (z 1).part.silent 2 = true ∧ after (.avsSilentProbe 2 true) (z 1) (fun t => Sparse.get t.part.ffy.reads 0 2 == 2) ∧
    after (.avsSilentProbe 2 false) (z 1) (fun t => Sparse.get t.part.ffy.reads 0 2 == 0) ∧
    (z 2).part.ffy.avs = none ∧ after (.avsSilentProbe 2 true) (z 2) (fun t => t.part.out == [.avs 2 (safeMv 2)]) ∧
    after .loadStepHoldEnd h (fun t => t.part.ffy.hold == none) := by
  decide +kernel

theorem witness_LoadAndSmbus :
    let s := inMode .transparent
    let d := from_ (fun p => { p with md := mdIn .transparent, ffy := { p.ffy with stretch := 2 } })
    after (.rampLimiterUpdate 1) s (fun t => t.part.getF .pwr PWR.LOAD_STAT.EST_A == 1 && t.part.ffy.cap == 80) ∧
    after (.rampLimiterUpdate 300) s (fun t => t.part.getF .pwr PWR.LOAD_STAT.LIMITING == 1) ∧
    s.part.shallowMv < s.part.deepMv ∧ after (.droopDetect s.part.deepMv) s (fun t => t.part.ffy.stretch == 2) ∧
    after (.droopDetect s.part.shallowMv) s (fun t => t.part.ffy.stretch == 1) ∧
    after (.droopRecover 5) d (fun t => t.part.ffy.stretch == 0) ∧
    after .fireflyRestart s (fun t => (t.part.rd (Page.ffy.base + 0x020)).getLsbD 4) ∧
    after .smbusStatus s (fun t => t.part.out.length == 1) ∧ after .temps s (fun t => t.part.out.length == 1) := by
  decide +kernel

theorem witness_FireflyPins :
    let s := inMode .sentinel
    let b := inMode .transparent
    let q := from_ (fun p => ({ p with md := mdIn .transparent, ffy := { p.ffy with seen := 1 } }).setF .ffy FFY.PERST_ARM.ARM 1)
    let c := from_ (fun p => { p with ffy := { p.ffy with chipRst := true } })
    let w := from_ (fun p => (({ p with md := mdIn .standby, ffy := { p.ffy with watch := [127] } }).setF .ffy FFY.WAKE_EN.IDLE_EXIT 1).setF .ffy
      FFY.WAKE_EN.GPIO 1)
    let g := from_ (fun _ => (w.part).setF .gpio GPIO.OWNER.OWNER_LO 0x10)
    after (.perstNAssert 15) s (fun t => nbit t.part.ffy.perst 15) ∧
    Idle q ∧ q.part.perstServed 0 = true ∧ after (.perstNDeassert 0) q (fun t => t.part.md.mode == .boot && t.part.md.lastCause == 1) ∧
    after .chipRstNAssert b (fun t => t.part.ffy.chipRst && t.part.md.mode == .boot && t.part.md.lastCause == 3) ∧
    after (.chipRstNDeassert true) c (fun t => !t.part.ffy.chipRst && t.part.ffy.strap) ∧
    after .porNAssert b (fun t => t.part.md.mode == .off) ∧
    after (.porNDeassert true 0 false) (inMode .off) (fun t => t.part.md.mode == .sentinel && t.part.ffy.strap) ∧
    Idle w ∧ after (.electricalIdleExit 127) w (fun t => t.part.md.going == some (.wake 2 254)) ∧
    g.part.pinOwner 1 = 1 ∧ after (.gpioWake 1) g (fun t => t.part.md.going == some (.wake 5 1)) ∧
    after .timePpsPulse (from_ (fun p => ({ p with md := mdIn .transparent }).setF .gpio GPIO.OWNER.OWNER_HI 0x50000000))
      (fun t => t.part.out == [.gpioPulse 15]) := by
  decide +kernel

/-- A part that Chitin has booted, with START and what else matters set by hand. -/
def booted (start : Nat) : Part :=
  let p := { Part.fresh with boot := { Boot.reset with chitin := true, colony := 1, run := true }, md := { Part.fresh.md with colonyUp := true } }
  (((p.setF .otpv (OTPV.GEN.WORD.ix 0) (start * 2 ^ 24)).setF .pwr PWR.UNIT_STAT.STN 1).setF .pwr PWR.UNIT_STAT.QTR 1).setF (.xbp 0) XBP.PLANE_STAT.STATE 3

/-- A member of a fabric with links up and every chip routed. -/
def inFabric (m : Mode) : Part :=
  let p := ({ Part.fresh with md := mdIn m }).setF (.smw 31) SMW.LINK_STAT.STATE 5
  ((p.setF .fab FAB.ROOT_STAT.STANDBY_VALID 1).setF .fab FAB.ROOT_STAT.STANDBY_CHIP 127).setF .fab FAB.TIME_CTL.PARENT 31
    |>.setF .fab FAB.TIME_CTL.PARENT_EN 1

theorem witness_RolesChange :
    let a := from_ (fun _ => booted 0)
    let b := from_ (fun _ => booted 1)
    let d := from_ (fun _ => inFabric .partitioned)
    let r := from_ (fun _ => inFabric .fabricRoot)
    let m := from_ (fun _ => { inFabric .fabricMember with md := { mdIn .fabricMember with standbyRoot := true } })
    let x := from_ (fun p => { p with md := { mdIn .degraded with role := some .partitioned, lost := [2] } })
    Idle a ∧ a.part.trUnits = true ∧ a.part.exhausted = false ∧ a.part.startPart = false ∧
    after .transparentEntry a (fun t => t.part.md.mode == .transparent && t.part.md.role == some .transparent) ∧
    b.part.startPart = true ∧ after .partitionedEntry b (fun t => t.part.md.mode == .partitioned) ∧
    d.part.linkState 31 = 5 ∧
    after (.hiveWithdrawal) r (fun t => t.part.md.mode == .partitioned && t.part.md.lastCause == 0xB) ∧
    MayWrite r .colony .fab 0x124 ∧ r.part.bit .fab FAB.ROOT_STAT.STANDBY_VALID = true ∧
    after (.handover .colony) r (fun t => t.part.md.mode == .fabricMember && t.part.getF .fab FAB.ROOT_STAT.ROOT_CHIP == 127 &&
      t.part.getF .fab FAB.ROOT_STAT.STANDBY_VALID == 0) ∧
    after .heartbeatMiss m (fun t => t.part.md.mode == .degraded && t.part.md.role == some .fabricRoot &&
      t.part.getF .fab FAB.ROOT_STAT.ROOT_EPOCH == 1) ∧
    nbit x.part.sfgStat.toNat 2 = true ∧ after .degradedExit x (fun t => t.part.md.mode == .partitioned && t.part.md.lastCause == 7) := by
  decide +kernel

theorem witness_FirmwareStarts :
    let s := State.reset
    let c := from_ (fun p => { p with boot := { Boot.reset with chitin := true } })
    let r := from_ (fun _ => booted 1)
    let n := from_ (fun p => { p with boot := { Boot.reset with run := true } })
    let w := from_ (fun _ => { booted 1 with now := 500000000 })
    let f := from_ (fun p => { p with md := mdIn .transparent, boot := { Boot.reset with restart := some 0 } })
    let y := from_ (fun p => { p with boot := { Boot.reset with failed := some 0 } })
    s.part.md.mode = .boot ∧ s.part.boot.chitin = false ∧ s.part.boot.rom = false ∧ s.part.ffy.chipRst = false ∧ s.part.md.going = none ∧
    s.part.imgPick false true true 0 = none ∧ after (.chitinBoot true true 0) s (fun t => t.part.boot.rom) ∧
    c.part.imgPick true true true 0 = none ∧ after (.colonyLoad true true) c (fun t => t.part.boot.colony == 2) ∧
    after .colonyUp n (fun t => t.part.md.colonyUp) ∧ after .kick w (fun t => t.part.boot.kick == 500000000) ∧
    after .panic r (fun t => !t.part.boot.run && !t.part.md.colonyUp) ∧ after .colonyCrash r (fun t => t.part.boot.restarts == 1) ∧
    after .watchdogExpire w (fun t => !t.part.boot.run && t.part.boot.restart == some 500000000) ∧
    Idle f ∧ after .colonyRestartFail f (fun t => t.part.md.mode == .degraded && t.part.md.lastCause == 0xC) ∧
    after .colonyRestartRetry y (fun t => t.part.boot.restart == some 0) := by
  decide +kernel

/-- A flash with an image copy at an offset: SVN 0, VERSION 7, a body of one erased byte, and the digest `d`. -/
def imageFlash (colony : Bool) (a : Nat) (d : BitVec 384) : Sparse (BitVec 8) :=
  ((leList 4 (imgMagic colony).toNat ++ [1, 0, 0, 0, 7, 0, 0, 0, 1, 0, 0, 0]) ++ leList 48 d.toNat).zipIdx.map (fun (x : Nat × Nat) => (a + x.2, BitVec.ofNat 8 x.1))

theorem leNum_leList (n v : Nat) : leNum (leList n v) = v % 256 ^ n := by
  unfold leNum leList
  induction n generalizing v with
  | zero => simp [Nat.mod_one]
  | succ n ih =>
    have h : ∀ i, v / 256 ^ (i + 1) % 256 = v / 256 / 256 ^ i % 256 := fun i => by rw [Nat.div_div_eq_div_mul, Nat.pow_succ, Nat.mul_comm]
    rw [List.range_succ_eq_map, List.map_cons, List.map_map, List.foldr_cons, Function.comp_def]
    simp only [Nat.succ_eq_add_one, h, ih, Nat.pow_zero, Nat.div_one]
    rw [Nat.pow_succ, Nat.mul_comm (256 ^ n), Nat.mod_mul]

/-- The state in which copy A of each image is valid. -/
def flashed (colony : Bool) : Part :=
  { Part.fresh with flash := imageFlash colony (imgCopies colony).1 (Config.sha384 [255]), boot := { Boot.reset with chitin := colony } }

set_option maxRecDepth 100000 in
theorem imgDigest_flashed (colony : Bool) : (flashed colony).imgDigest (imgCopies colony).1 = (Config.sha384 [255]).toNat := by
  have h : (flashed colony).flashBytes ((imgCopies colony).1 + 16) 48 = leList 48 (Config.sha384 [255]).toNat := by
    have hb : (List.range 48).map (fun i => Sparse.get (flashed colony).flash 0xFF ((imgCopies colony).1 + 16 + i)) =
        (List.range 48).map (fun i => BitVec.ofNat 8 ((Config.sha384 [255]).toNat / 256 ^ i % 256)) := by cases colony <;> rfl
    have hm := congrArg (List.map BitVec.toNat) hb
    simp only [List.map_map, Function.comp_def, BitVec.toNat_ofNat, Nat.reducePow, Nat.mod_mod] at hm
    exact hm
  rw [Part.imgDigest, h, leNum_leList]
  exact Nat.mod_eq_of_lt (Nat.lt_of_lt_of_le (BitVec.isLt _) (by decide +kernel))

set_option maxRecDepth 100000 in
/-- The states of FirmwareStarts in which a copy is valid: Chitin's copy A before BOOT, and Colony's after it. -/
theorem witness_FirmwareImages (colony : Bool) : (flashed colony).imgPick colony true false 0 = some ((imgCopies colony).1, true) ∧
    (flashed colony).boot.chitin = colony ∧ (flashed colony).boot.run = false ∧ (flashed colony).boot.colony = 0 := by
  have hd : (flashed colony).bodyDigest (imgCopies colony).1 = Config.sha384 [255] := by cases colony <;> rfl
  have hv : (flashed colony).imgValid colony (imgCopies colony).1 true 0 = true := by
    rw [Part.imgValid, imgDigest_flashed, hd]
    cases colony <;> simp <;> decide +kernel
  have hw : (flashed colony).imgValid colony (imgCopies colony).2 false 0 = false := by simp [Part.imgValid]
  refine ⟨?_, by cases colony <;> decide⟩
  simp only [Part.imgPick, hv, hw]

theorem witness_FabricTime :
    let s := from_ (fun _ => inFabric .fabricMember)
    let r := from_ (fun _ => (inFabric .fabricRoot).setTw 2 (127 * 128 + 64) 0 1)
    s.part.parentLink = some 31 ∧ after .timeReq s (fun t => t.part.time.exch == 1 && (t.part.lk 31).ctlq == [.lctlTimeReq 1 0]) ∧
    after (.timeReqReceive 31 65535 9) s (fun t => (t.part.lk 31).ctlq == [.lctlTimeResp 65535 9 0 0]) ∧
    after (.timeRespReceive 31 0 0 512000 0) s (fun t => t.part.slew == 256000 && t.part.ftime == 0) ∧
    after (.timeRespReceive 31 0 0 512002 0) s (fun t => t.part.slew == 0 && t.part.ftime == 256001) ∧
    after .timeHoldover s (fun t => t.part.getF .fab FAB.TIME_STAT.HOLDOVER == 1) ∧
    r.part.carriable (127 * 512 + 260) 0 = true ∧ after .timeUnitSend r (fun t => (t.part.fr 0).any (fun f => f.dest == .chip 127)) ∧
    after (.timeUnitReceive 5 9 127) s (fun t => t.part.getF .fab FAB.ROOT_STAT.ROOT_CHIP == 127 && t.part.getF .fab FAB.ROOT_STAT.ROOT_EPOCH == 9) ∧
    r.part.carriable (127 * 512 + 258) 0 = true ∧
    after .rootHeartbeat r (fun t => (t.part.fr 1).any (fun f => f.dest == .chip 127)) := by
  decide +kernel

/-- The words of a legal generation for slot 1 under root 0, without its CRC. -/
def genBody (slot root : Nat) : List (BitVec 32) :=
  BitVec.ofNat 32 (0x4E47 + 65536 * slot) :: BitVec.ofNat 32 root :: (List.range 61).map (fun _ => 0)

/-- The same with its CRC. -/
def genOf (slot root : Nat) : List (BitVec 32) := genBody slot root ++ [crc32 (wordBytes (genBody slot root))]

set_option maxRecDepth 100000 in
theorem witness_MaintenanceProgramsOtp :
    StrapSession session ∧ genNext session.otp = some 1 ∧ (genOf 1 0).length = 64 ∧ genLegal (genOf 1 0) 1 = true ∧
    genByte (genOf 1 0) 4 = otpRoot session.otp ∧
    after (.writeGen (genOf 1 0) true true) session (fun t => genWords t.otp 1 == genOf 1 0 && t.part.out == [.reply 3 [0]]) ∧
    after (.revokeGen 7 true) session (fun t => otpRevoked t.otp 7) ∧
    (rootWords session.otp 3).all (· == 0) = true ∧ genLegal (genOf 1 3) 1 = true ∧ genByte (genOf 1 3) 4 = 3 ∧
    after (.setRoot 3 (genOf 1 3) true true) session (fun t => t.part.out == [.reply 5 [0]]) ∧
    after (.blowSeal true) session (fun t => otpSealed t.otp && t.part.out == [.reply 6 [0]]) := by
  decide +kernel

theorem witness_AdvanceSvnReachesItsValue :
    StrapSession session ∧ session.part.getF .otpv OTPV.SVN.CHITIN_RUN = 255 ∧
    after (.advanceSvn 0 255 true) session (fun t => otpSvn t.otp 0 == 255) ∧
    after (.advanceSvn 0 3 true) session (fun t => otpSvn t.otp 0 == 3) := by
  decide +kernel

/-- Chitin and Colony run in PARTITIONED with one record. -/
def served : State :=
  let p : Part := { Part.fresh with md := mdIn .partitioned, boot := { Boot.reset with chitin := true, run := true } }
  { State.reset with part := p, trust := { Trust.reset with own := [(.port 127, .owned 5), (.range 9 (2 ^ 21) 21, .owned 5)], pools := [8] } }

theorem witness_StagingAndPresence :
    let f := from_ (fun p => { p with boot := { p.boot with rom := true } })
    let st := fun (m : Maint) => { served with part := { served.part with boot := { served.part.boot with staged := some (m, 0) } } }
    after .enterMaintenance served (fun t => t.part.boot.staged == some (plain 0x01 0 0, 0) && t.part.out == [.reply 1 [1]]) ∧
    after (.forceRelease (.port 3)) served (fun t => t.part.boot.staged.isSome) ∧
    f.part.bootFailed = true ∧ after .recover f (fun t => t.part.boot.staged == some (plain 0x02 0 0, 0)) ∧
    after .presencePress served (fun t => t.part.ffy.presses == 1) ∧
    Idle (st (plain 0x01 0 0)) ∧ after .presencePress (st (plain 0x01 0 0)) (fun t => t.part.md.mode == .boot && t.part.md.lastCause == 0xA) ∧
    after .presencePress (from_ (fun _ => { f.part with boot := { f.part.boot with staged := some (plain 0x02 0 0, 0) } }))
      (fun t => t.part.md.mode == .maintenance && t.part.md.lastCause == 0xA && t.part.boot.staged == none) ∧
    served.part.maintMode 0x03 = false ∧ after .presencePress (st (plain 0x03 0 0)) (fun t => t.part.boot.staged == none &&
      t.part.getF .otpv OTPV.STAGE.LAST_RESULT == 3) ∧
    served.trust.ownOf (.port 127) = some (.owned 5) ∧
    after .presencePress (st (Maint.mk 0x08 0 0 [] (some (.port 127)) true true)) (fun t => t.trust.ownOf (.port 127) == none) ∧
    after .stageExpire (st (plain 0x01 0 0)) (fun t => t.part.boot.staged == none && t.part.getF .otpv OTPV.STAGE.LAST_RESULT == 8) := by
  decide +kernel

theorem witness_MaintenanceModeCommands :
    let d := from_ (fun _ => session.part.setF .otpv OTPV.ACTIVE.DEBUG 1)
    let t1 := from_ (fun p => { p with md := mdIn .test, boot := { p.boot with chitin := true, tests := 2 ^ 20 } })
    after (.flashWrite 0xFFFFFF [0xAB]) session (fun t => Sparse.get t.part.flash 0xFF 0xFFFFFF == 0xAB) ∧
    d.part.bit .otpv OTPV.ACTIVE.DEBUG = true ∧ testUnits 0 4 ≠ 0 ∧
    after (.testEnter 0 4) d (fun t => t.part.md.mode == .test && t.part.boot.tests == 15 * 2 ^ 17) ∧
    after (.testExit none) t1 (fun t => t.part.md.mode == .maintenance && t.part.boot.tests == 0) ∧
    after (.testExit (some 20)) t1 (fun t => t.part.md.mode == .maintenance && t.part.boot.tests == 0) ∧
    Idle session ∧ after .exit session (fun t => t.part.md.mode == .boot && t.part.md.lastCause == 4) ∧
    session.part.maintOn = true ∧ after .status session (fun t => t.part.out.length == 1) := by
  decide +kernel

/-- A domain attached at port 0 with a session, owning port 8 and a grant to itself. -/
def host5 : State :=
  let p : Part := { Part.fresh with md := mdIn .partitioned, boot := { Boot.reset with chitin := true, run := true } }
  let q := (p.setF (.port 0) PORT.PORT_CTL.ROLE 1).setTw 5 5 0 (BitVec.ofNat 32 (1 + 2 * 0x123))
  { State.reset with
    part := q,
    trust := { Trust.reset with own := [(.port 8, .owned 5)], sessions := [some 5],
                                grants := [(1, some (Grant.mk 1 7 false 0 0x123 0x123 8 0 0 0 77 0))], serial := 78 } }

theorem witness_SpdmServices :
    let tells := fun (code : Nat) (l : List Nat) (t : State) => match t.part.out.getLast? with
      | some (.spdm c m) => c == code && m.take l.length == l
      | _ => false
    let g := Grant.mk 1 7 false 0 0x123 0x123 8 0 0 0 78 0
    let full : State := { host5 with trust := { host5.trust with sessions := List.replicate 128 none } }
    host5.part.spdmOpen (some 5) = true ∧ host5.inSession 5 = true ∧ host5.part.fabricId 5 = 0x123 ∧
    after (.getMeasurements (some 5) 6) host5 (tells 0x60 [0, 0, 0]) ∧ after (.getMeasurements (some 5) 0) host5 (tells 0x60 [8]) ∧
    after (.getMeasurements none 255) host5 (tells 0x60 []) ∧
    after (.keyExchange (some 5)) host5 (fun t => t.trust.sessions == [some 5, some 5]) ∧
    full.part.spdmOpen none = true ∧ after (.keyExchange none) full (tells 0x7F [3]) ∧
    host5.part.granteeHere 0x123 = true ∧ host5.trust.freeGrant = some 2 ∧ host5.ownsTarget 5 g = true ∧ g.legal = true ∧
    after (.grantCreate 5 1 7 0 false 0x123 8 0 0 none 0 0) host5 (fun t => (t.trust.grant 2).isSome && t.trust.serial == 79 &&
      tells 0x7E (vendorBytes 1 0 (grantResults 2 0 78)) t) ∧
    after (.grantRevoke 5 0 77 0) host5 (fun t => t.trust.grant 1 == none && tells 0x7E (vendorBytes 2 0 []) t) ∧
    after (.resourceRelease 5 (.port 8)) host5 (fun t => t.trust.ownOf (.port 8) == none && tells 0x7E (vendorBytes 3 0 []) t) ∧
    after (.grantList 5 0) host5 (tells 0x7E [4, 0]) := by
  decide +kernel

theorem witness_ColonyServices :
    host5.part.chitinOn = true ∧ served.part.chitinOn = true ∧ (host5.trust.grant 1).isSome = true ∧
    after (.grantRead 1) host5 (fun t => t.part.getF .mbx MBX.CC_STAT.RESULT == 0 && t.part.getF .mbx (MBX.CC_DATA.DATA.ix 6) == 77) ∧
    (Res.range 8 0 40).legal = true ∧ served.trust.rangesAt 8 = [] ∧ served.trust.rangeCount < 4096 ∧
    after (.rangeAssign 63 8 0 40) served (fun t => t.trust.ownOf (.range 8 0 40) == some (.owned 63)) ∧
    after (.rangeRelease 9 (BitVec.ofNat 64 (2 ^ 21)) 21) served (fun t => t.trust.ownOf (.range 9 (2 ^ 21) 21) == some (.quarantined 5)) ∧
    after (.ideStream 255 127 true) served (fun t => t.trust.streams == [(255, 127)]) ∧
    after (.ideStream 0 0 false) served (fun t => t.part.getF .mbx MBX.CC_STAT.RESULT == 1) ∧
    after (.ownerRead (.port 127)) served (fun t => t.part.getF .mbx (MBX.CC_DATA.DATA.ix 0) == 1 + 256 * 5) ∧
    after (.poolDeclare 0) served (fun t => t.trust.pools.contains 0) := by
  decide +kernel

/-- A mailbox command of domain `d` that is PENDING, with its request bytes. -/
def askedOf (d op len : Nat) (bytes : List Nat) (p : Part) : State :=
  let q := { p with md := { mdIn .partitioned with colonyUp := true } }
  { State.reset with
    part := (((q.setF (.cfmb d) CFMB.MB_STAT.STATE 1).setF (.cfmb d) CFMB.MB_CMD.OPCODE op).setF (.cfmb d) CFMB.MB_CMD.LEN len).setMb d bytes }


/-- Domain 63 has bridge 127 of a KIND, hot-pluggable through expander 5. -/
def bridge (kind port : Nat) (p : Part) : Part :=
  (p.setTw 6 (128 * 63 + 127) 0 (BitVec.ofNat 32 (1 + 2 * kind + 8 * port))).setTw 6 (128 * 63 + 127) 1 (BitVec.ofNat 32 (5 + 2 ^ 15))

set_option maxRecDepth 100000 in
theorem witness_HiveReadsAndSlots :
    let p := bridge 2 0 Part.fresh
    let a := askedOf 63 0x0100 2 [127, 1] p
    let b := askedOf 63 0x0101 2 [127, 2 + 4 * 2] p
    let f := askedOf 63 0x0501 16 [3, 127, 0, 0, 0, 0, 9, 15, 31] p
    Asked (askedOf 63 1 0 [] p) 63 1 0 ∧
    Asked (askedOf 63 2 0 [] p) 63 2 0 ∧ p.bridges 63 = [127] ∧
    Asked (askedOf 63 3 4 [2, 0, 0, 0] p) 63 3 4 ∧ (askedOf 63 3 4 [2, 0, 0, 0] p).part.mbByte 63 0 = 2 ∧
    Asked a 63 0x0100 2 ∧ a.part.mbByte 63 0 = 127 ∧ a.part.mbByte 63 1 = 1 ∧ a.part.vbPresent 63 127 = true ∧ a.part.tf 6 8191 1 15 1 = 1 ∧
    after (.slotPower 63) a (fun t => t.part.out == [.i3c 5 false 1]) ∧
    b.part.mbByte 63 1 = 10 ∧ Asked b 63 0x0101 2 ∧ after (.slotIndicator 63) b (fun t => t.part.out == [.i3c 5 false 1]) ∧
    Asked (askedOf 63 0x0500 16 [2, 0, 7, 7] p) 63 0x0500 16 ∧ (askedOf 63 0x0500 16 [2, 0, 7, 7] p).part.mbByte 63 3 = 7 ∧
    f.part.mbByte 63 1 = 127 ∧ f.part.mbByte 63 7 = 15 ∧ Asked f 63 0x0501 16 := by
  decide +kernel

/-- Domain 63 is attached at port 0, which it owns, with every port present and the first bridge of a segment. -/
def attached63 (p : Part) : Part :=
  ((((p.setTw 6 (128 * 63 + 120) 0 1).setF (.port 0) PORT.PORT_CTL.ROLE 1).setF (.port 0) PORT.PORT_CTL.DOMAIN 63).setTw 5 63 0 (BitVec.ofNat 32 1)).setF .pwr PWR.UNIT_STAT.STN 0xFFFF
    |>.setF .glb (GLB.STN_STAT.PORT_W_ACT.ix 1) 3

set_option maxRecDepth 100000 in
theorem witness_HiveBinds :
    let p := (bridge 1 0 (attached63 Part.fresh)).setF (.port 9) PORT.PORT_CTL.ROLE 3
    let a := askedOf 63 0x0200 8 [0x34, 0x12, 9, 0, 127, 8, 0, 0] p
    let n := 0
    let q := p.setTw 0 5 0 (BitVec.ofNat 32 (1 + 8 * 9 + 2 ^ 10 * 63 + 2 ^ 16 * 127 + 2 ^ 23 * 8))
    let u := askedOf 63 0x0201 2 [127, 8] q
    let at_ := askedOf 63 0x0202 8 [8, 0, 0, 0, 127, 0, 0, 0] (bridge 2 0 (attached63 Part.fresh))
    let de := askedOf 63 0x0203 1 [127] ((bridge 0 8 (attached63 Part.fresh)).setF (.port 8) PORT.PORT_CTL.ROLE 2)
    Asked a 63 0x0200 8 ∧ a.part.mbField 63 0 4 = 0x91234 ∧ a.part.vbKind 63 127 = 1 ∧
    (List.range 16384).find? (fun k => !(a.part.validIn 0).contains k) = some n ∧
    after (.bind 63 0 []) a (fun t => t.part.tf 0 0 0 0 1 == 1 && t.part.tf 0 0 0 3 7 == 9) ∧
    (u.part.fnsOf 63 127).find? (fun f => u.part.tf 0 f 0 23 8 == 8) = some 5 ∧
    after (.unbind 63) u (fun t => t.part.tf 0 5 0 0 1 == 0) ∧
    at_.part.present 8 = true ∧ at_.part.guardPort at_.trust 8 2 63 = true ∧
    after (.attachPort 63) at_ (fun t => t.part.vbKind 63 127 == 0) ∧
    de.part.role 8 = 2 ∧ after (.detachPort 63) de (fun t => t.part.vbKind 63 127 == 2) := by
  decide +kernel

set_option maxRecDepth 100000 in
theorem witness_HivePoolsAndChannels :
    let p := (attached63 Part.fresh).setF (.port 9) PORT.PORT_STAT.DL_UP 1
    let a0 := askedOf 63 0x0300 16 [21, 0, 0xFF, 0xFF, 0, 0, 0, 0, 0, 0, 0x20] p
    let a := { a0 with trust := { Trust.reset with pools := [9] } }
    let q := p.setTw 1 65535 0 (BitVec.ofNat 32 (1 + 2 ^ 14 * 63 + 2 ^ 20 * 21))
    let r := askedOf 63 0x0301 4 [0xFF, 0xFF, 0, 0] q
    let c := askedOf 63 0x0400 2 [255, 7] p
    let e := askedOf 63 0x0401 1 [255] (p.wr ((Page.drn 1).base + 0x400 + 4 * 254) (BitVec.ofNat 32 (1 + 2 * 63 + 128 * 255)))
    Asked a 63 0x0300 16 ∧ (a.rangeAssign 63 9 0 21).2 = 0 ∧
    after (.poolAlloc 63 9 0 0 0) a (fun t => t.trust.ownOf (.range 9 0 21) == some (.owned 63) && t.part.tf 1 0 0 0 1 == 1) ∧
    (r.part.validIn 1).contains 65535 = true ∧ after (.poolRelease 63) r (fun t => t.part.tf 1 65535 0 0 1 == 0) ∧
    c.part.bindCheck .colony 510 (BitVec.ofNat 32 (1 + 2 * 63 + 128 * 255 + 2 ^ 15 * 7)) none = 0 ∧
    Asked c 63 0x0400 2 ∧ Submits c .colony (.drn 1) ∧
    e.part.chanAt 63 255 = some 510 ∧
    Asked e 63 0x0401 1 ∧ Submits e .colony (.drn 1) := by
  decide +kernel

theorem witness_RegisterAccess :
    let s := up id
    let q := up (fun p => { p with posted := [⟨.chitin, Page.clk.base, [(0x108, 0x00AB0000)]⟩] })
    let x := up (fun p => p.setF .glb GLB.XING_STAT.WR_DROP 3)
    let st := Page.serdes 15
    st.owner ≠ 0 ∧ st.defines 0x100 = true ∧ s.part.clkStopped st = true ∧ Permits s .chitin st 0x100 ∧
    after (.registerWrite .chitin (st.base + 0x100) 5 none) s (fun t => t.part.posted == [] &&
      t.part.getF .glb GLB.XING_STAT.LAST_PAGE == st.base / 4096 % 16384) ∧
    Requester.locate .chitin (Page.ffy.base + 0x14) = some (.ffy, 0x14) ∧ MayWrite s .chitin .ffy 0x14 ∧
    after (.registerWrite .chitin (Page.ffy.base + 0x14) 0xFFFFFFFF none) s (fun t =>
      t.part.rd (Page.ffy.base + 0x14) == BitVec.ofNat 32 Page.ffy.irqMask) ∧ Page.ffy.hasHdr = true ∧ s.part.unboundSlot .ffy = false ∧
    Requester.locate (.cf 63) 0x14 = some (.cfn 63, 0x14) ∧ MayWrite s (.cf 63) (.cfn 63) 0x14 ∧
    after (.registerWrite .colony (Page.buf.base + 0x114) 77 none) s (fun t => t.part.getF .buf BUF.AGE_CTL.DROP_US == 77) ∧
    after (.registerWrite .chitin (Page.clk.base + 0x108) 5 none) s (fun t => t.part.posted == [⟨.chitin, Page.clk.base, [(0x108, 5)]⟩]) ∧
    after (.postedWriteEffect .chitin (Page.clk.base + 0x108)) q (fun t => t.part.posted == [] &&
      t.part.getF .clk CLK.DROOP_CFG.HOLD_CYC == 0xAB) ∧
    after (.clearingRead .colony (Page.glb.base + 0x108) false) x (fun t => t.part.getF .glb GLB.XING_STAT.WR_DROP == 0 &&
      t.part.out == [.readData .colony 0x108 3]) ∧
    after (.softReset .chitin Page.glb.base) (up (fun p => p.err .glb 4)) (fun t => t.part.rd 0x20 == 0 && t.part.bit .glb HDR.ERR_FIRST.VALID == false) ∧
    after (.lock .chitin Page.tel.base) s (fun t => t.part.bit .tel HDR.PAGE_CTL.LOCK) ∧
    after (.irqSet .chitin Page.tel.base 0x80000001) s (fun t => t.part.rd (Page.tel.base + 0x10) == (0x80000001 &&& BitVec.ofNat 32 Page.tel.irqMask)) ∧
    after (.errInj .chitin Page.tel.base 0x80000002) s (fun t => t.part.rd (Page.tel.base + 0x20) == (0x80000002 &&& BitVec.ofNat 32 Page.tel.errMask)) ∧
    after (.counterClear .chitin Page.tel.base) (up (fun p => p.wr (Page.tel.base + 0xBC) 9)) (fun t => t.part.rd (Page.tel.base + 0xBC) == 0) := by
  decide +kernel

set_option maxRecDepth 100000 in
theorem witness_LatchesAndChecks :
    let s := up id
    let h := up (fun p => { p with hist := [(histKey 1 127 7 31, 5)] })
    Requester.locate .colony Page.tel.base = some (.tel, Page.tel.base % 4096) ∧ MayWrite h .colony .tel 0x104 ∧
    h.part.bit .tel TEL.HIST_CTL.CLR_ON_LATCH = false ∧
    after (.histogramLatch .colony Page.tel.base 0x7FF) h (fun t => t.part.rd (Page.tel.base + 0x200 + 8 * 31) == 5) ∧
    MayWrite s .chitin .ant 0x190 ∧ after (.recordLatch .chitin 0xFFFFFFFF) s (fun t => t.part.getF .ant ANT.REC_SEL.SLOT == 16383) ∧
    MayWrite s (.cf 63) (.ordv 63) 0x148 ∧ after (.journalLatch 63 0x1FFFF) s (fun t => t.part.getF (.ordv 63) ORDV.JRNL_SEL.SEQ == 65535) ∧
    MayWrite s .colony .buf 0x120 ∧ after (.snap .colony) s (fun t => t.part.getF .buf BUF.AUD_STAT.SNAP_VALID == 1) := by
  decide +kernel

theorem witness_ChecksOfWrites :
    let s := up id
    let m := up (fun p => (p.setF .glb (GLB.PERST_MAP.EN.ix 3) 1).setF .glb (GLB.PERST_MAP.DOMAIN.ix 3) 9)
    MayWrite m .chitin .glb 0x1FC ∧ GLB.PERST_MAP.CONFLICT.of (m.part.rd (Page.glb.base + 0x1CC)) = 0 ∧
    after (.perstMapWrite .chitin 15 (m.part.rd (Page.glb.base + 0x1CC))) m (fun t => t.part.bit .glb (GLB.PERST_MAP.CONFLICT.ix 15)) ∧
    after (.perstMapWrite .chitin 3 (m.part.rd (Page.glb.base + 0x1CC))) m (fun t => t.part.bit .glb (GLB.PERST_MAP.EN.ix 3) &&
      nbit (t.part.getF .ffy FFY.PERST_ARM.ARM) 3) ∧
    MayWrite s .chitin .buf 0x100 ∧ after (.poolSizeWrite .chitin (Page.buf.base + 0x100) 4096) (up (fun p => p.setF .pwr PWR.UNIT_STAT.QTR 15))
      (fun t => t.part.getF .buf BUF.CPL_RSV.CELLS == 4096) ∧
    after (.poolSizeWrite .chitin (Page.buf.base + 0x100) 0x3FFFF) s (fun t => t.part.bit .buf BUF.CFG_STAT.CFG_REJ) ∧
    MayWrite s .chitin .pwr 0x130 ∧ after (.unitRequest .chitin 0x8F) s (fun t => t.part.bit .pwr PWR.UNIT_REQ.COLONY) := by
  decide +kernel

theorem witness_StationLife :
    let s := up id
    let e := up (fun p => p.setF .glb (GLB.STN_CFG.EN.ix 15) 1)
    let g := up (fun p => (stn15 0 p).setF .glb (GLB.STN_CFG.EN.ix 15) 1)
    let r := up (fun p => { (p.setF .glb (GLB.STN_CFG.EN.ix 15) 1) with ffy := { p.ffy with ready := [.station 15] } })
    let b := up (stn15 (16 * 2 ^ 21))
    MayWrite s .chitin .glb 0x17C ∧ stnLegal 0x40 = true ∧ stnLegal 0x50 = false ∧
    after (.stationConfigWrite .chitin 15 0x40) s (fun t => t.part.rd (Page.glb.base + 0x17C) == 0x40) ∧
    after (.stationConfigWrite .chitin 15 0x44) s (fun t => (t.part.ffy.steps ++ t.part.ffy.ready).contains (.station 15)) ∧
    g.part.stnEn 15 = true ∧ after (.stationConfigWrite .chitin 15 0x40) g (fun t => !t.part.stnOn 15) ∧
    after (.stationConfigWrite .chitin 15 0x50) s (fun t => t.part.bit .glb (GLB.STN_STAT.CFG_REJ.ix 15)) ∧
    e.part.stnEn 15 = true ∧ e.part.stnOn 15 = false ∧
    after (.stationEnable 15) e (fun t => (t.part.ffy.steps ++ t.part.ffy.ready).contains (.station 15)) ∧
    after (.stationPowerUp 15 true) r (fun t => t.part.stnOn 15 && t.part.bit .glb (GLB.STN_STAT.POWERED.ix 15)) ∧
    b.part.stnOn 15 = true ∧ after (.stationDisable 15) b (fun t => !t.part.stnOn 15) ∧ after (.stationPllUnlock 15) b (fun t => !t.part.stnOn 15) ∧
    after (.stationContainment 15) b (fun t => Sparse.get t.part.stnRest 0 15 == 1) := by
  decide +kernel

theorem witness_PortLinkLayer :
    let s := up (stn15 (16 * 2 ^ 21))
    let l := fun (st : Ltssm) (w : Nat) => up (fun p =>
      (((stn15 (16 * 2 ^ 21) p).setF (.port 127) PORT.PORT_STAT.WIDTH w).setF .clk (CLK.L1SS_ADV.PORT.ix 3) (2 ^ 31)).setPt 127 { p.pt 127 with ltssm := st })
    let m := LaneMeas.mk [] [] [] false 0 0
    let r := { (l .l0p 1) with part := { (l .l0p 1).part with ffy := { (l .l0p 1).part.ffy with ready := [.width 127 2] } } }
    s.part.stnOn 15 = true ∧ s.part.present 127 = true ∧ (s.part.pt 127).ltssm ≠ .disabled ∧ s.part.lanesOf 127 = [14, 15] ∧
    s.part.bit (.port 127) PORT.PORT_STAT.DL_UP = false ∧ (s.part.pt 127).keepDown = false ∧
    after (.pcieLinkUp 127 6 2 false true [m, m]) s (fun t => t.part.bit (.port 127) PORT.PORT_STAT.DL_UP && t.part.getF (.port 127) PORT.PORT_STAT.RATE == 6 &&
      t.part.bit (.port 127) PORT.PORT_STAT.FLIT) ∧
    after (.pcieRateChange 127 5 [m, m]) s (fun t => t.part.getF (.serdes 15) (SERDES.LANE_STAT.GROUP.ix 15) == 4) ∧
    (l .l0 2).part.getF (.port 127) PORT.PORT_STAT.WIDTH = 2 ∧
    after (.l0pWidthReduce 127 1) (l .l0 2) (fun t => t.part.getF (.port 127) PORT.PORT_STAT.WIDTH == 1) ∧
    after (.l0pWidthIncrease 127 2) r (fun t => t.part.getF (.port 127) PORT.PORT_STAT.WIDTH == 2) ∧
    after (.pcieL1SubstateChange 127 .l12) (l .l0 2) (fun t => (t.part.pt 127).ltssm == .l12) := by
  decide +kernel

/-- Lane 15 of station 15 adapts, locked at code 20 of a window from 14 to 26. -/
def adapting (p : Part) : Part :=
  ((((((stn15 (16 * 2 ^ 21) p).setPt 127 { p.pt 127 with ltssm := .l0 }).setF (.serdes 15) SERDES.ADAPT_CTL.BG_EN 1).setF (.serdes 15) (SERDES.LANE_STAT.LOCKED.ix 15) 1).setF (.serdes 15)
    (SERDES.LANE_STAT.CTLE_CUR.ix 15) 20).wr ((Page.serdes 15).base + 0x400 + 32 * 15) (BitVec.ofNat 32 (16 * 20)))

/-- Station 15 is powered for Smiwaven, and its link 31 is in a state. -/
def link31 (st : Nat) (p : Part) : Part := (stn15 1 p).setF (.smw 31) SMW.LINK_STAT.STATE st

theorem witness_LanesAndBlocks :
    let a := up adapting
    let s := up (stn15 0)
    let b := up (fun p => (stn15 0 p).setF (.serdes 15) SERDES.MARGIN_STAT.BUSY 1)
    let l := up (link31 1)
    let k := up (fun p => (link31 5 p).setF (.serdes 15) (SERDES.LANE_STAT.LOCKED.ix 15) 1)
    let rx := fun (n : Nat) (r : LaneRx) => up (fun p => { link31 n p with laneRx := [(248, r)] })
    let eyes := fun (n : Nat) => [(257 * n, 257 * n)]
    let e := a.part.laneStart 15 15 (a.part.getF (.serdes 15) (SERDES.LANE_STAT.GROUP.ix 15))
    let errs := fun (t : State) => t.part.rd ((Page.serdes 15).base + 0x20)
    let reserved := Block.mk 2 (0x54 * 2 ^ 56)
    ctleLo e < 20 ∧ 20 < ctleHi e ∧ a.part.stnOn 15 = true ∧ a.part.bit (.serdes 15) (SERDES.LANE_STAT.LOCKED.ix 15) = true ∧ a.part.laneUp 15 15 = true ∧
    after (.backgroundAdapt 15 15 (eyes 10) (eyes 100)) a (fun t => t.part.getF (.serdes 15) (SERDES.LANE_STAT.CTLE_CUR.ix 15) == 19) ∧
    after (.backgroundAdapt 15 15 (eyes 100) (eyes 10)) a (fun t => t.part.getF (.serdes 15) (SERDES.LANE_STAT.CTLE_CUR.ix 15) == 20) ∧
    s.part.clkStopped (.serdes 15) = false ∧ MayWrite s .chitin (.serdes 15) 0x110 ∧ MayWrite b .chitin (.serdes 15) 0x110 ∧
    after (.marginGo .chitin 15 15) s (fun t => t.part.bit (.serdes 15) SERDES.MARGIN_STAT.BUSY) ∧
    after (.marginGo .chitin 15 16) s (fun t => t.part.getF (.serdes 15) SERDES.MARGIN_STAT.ERR_CNT == 0xFF) ∧
    after (.marginGo .chitin 15 0x1F1F) b (fun t => t.part.getF (.serdes 15) SERDES.MARGIN_CTL.STEP == 0) ∧
    after (.marginRunEnd 15 0) b (fun t => t.part.bit (.serdes 15) SERDES.MARGIN_STAT.DONE && !t.part.bit (.serdes 15) SERDES.MARGIN_STAT.BUSY) ∧
    l.part.linkState 31 ≠ 5 ∧ l.part.linkPresent 31 = true ∧
    after (.forwardedClockLoss 31) l (fun t => t.part.bit (.serdes 15) SERDES.CLK_STAT.CLKB_LOSS) ∧
    after (.blockLockLoss 31 7) l (fun t => !t.part.bit (.serdes 15) (SERDES.LANE_STAT.LOCKED.ix 15)) ∧
    after (.rxControlBlock 31 7 (Block.mk 1 0)) k (fun t => t.part.regs == k.part.regs && (t.part.lk 31).rxLane == 0) ∧
    after (.rxControlBlock 31 0 reserved) k (fun t => nbit (errs t).toNat 7) ∧ l.part.streamLane 31 0 = 248 ∧
    after (.rxControlBlock 31 0 (Block.mk 1 0)) (rx 2 (LaneRx.mk 0 63)) (fun t => t.part.bit (.serdes 15) (SERDES.LANE_STAT.LOCKED.ix 8)) ∧
    after (.rxControlBlock 31 0 (Block.mk 3 0)) (rx 3 (LaneRx.mk 0x7FFF 0)) (fun t => nbit (errs t).toNat 3 &&
      !t.part.bit (.serdes 15) (SERDES.LANE_STAT.LOCKED.ix 8)) ∧
    k.part.linkState 31 = 5 ∧ after (.alignGroup 31) k (fun t => t.part.out == [.align 31] && (t.part.lk 31).strm == 8) := by
  decide +kernel

theorem witness_LinkTraining :
    let l := fun n => up (link31 n)
    let a := up (fun p => (link31 4 p).setLk 31 { LinkBlk.reset with allot := [1, 1, 1, 1, 1, 1, 1, 1] })
    let e := up (fun p => (link31 6 p).setF (.smw 31) SMW.LINK_CTL.EN 1)
    let lanes := fun (rev : Bool) (late : Nat) => (List.range 8).map (fun k => LaneMeas.mk [] [] [] false (if k = 7 then late else 0) (if rev then 7 - k else k))
    MayWrite (l 0) .chitin (.smw 31) 0x100 ∧ (l 0).part.linkPresent 31 = true ∧ (l 6).part.chip = 0 ∧
    after (.linkEnable .chitin 31 true) (l 0) (fun t => t.part.linkState 31 == 1 && t.part.out == [.train 31 1]) ∧
    after (.linkEnable .chitin 31 false) (l 4) (fun t => t.part.linkState 31 == 0) ∧
    after (.forwardedClockStable 31) (l 1) (fun t => t.part.linkState 31 == 2) ∧
    laneSkew (lanes true 4000) = 4000 ∧ laneOrder (lanes true 4000) = some true ∧ laneOrder (lanes false 0) = some false ∧ laneSkew (lanes false 4001) = 4001 ∧
    after (.lockDone 31 (lanes true 4000)) (l 2) (fun t => t.part.linkState 31 == 3 && (t.part.lk 31).rev &&
      t.part.bit (.serdes 15) (SERDES.LANE_STAT.LOCKED.ix 15) && t.part.getF (.serdes 15) (SERDES.LANE_STAT.GROUP.ix 15) == 6) ∧
    after (.lockDone 31 (lanes false 4001)) (l 2) (fun t => t.part.linkState 31 == 2 && nbit (t.part.rd ((Page.serdes 15).base + 0x20)).toNat 6) ∧
    after (.ts1Identified 31 127 15 1 15) (l 3) (fun t => t.part.linkState 31 == 4 && t.part.getF (.smw 31) SMW.LINK_STAT.PEER_CHIP == 127) ∧
    after (.ts1Identified 31 0 15 1 15) (l 3) (fun t => t.part.linkState 31 == 3) ∧
    after (.ts2Confirmed 31) a (fun t => t.part.linkState 31 == 5) ∧ after (.trainTmo 31) (l 4) (fun t => t.part.linkState 31 == 1) ∧
    after (.brokenExit 31) (l 6) (fun t => t.part.linkState 31 == 0) ∧ after (.brokenExit 31) e (fun t => t.part.linkState 31 == 1) := by
  decide +kernel

theorem witness_LinkSleep :
    let l := fun n => up (link31 n)
    let q := up (fun p => (link31 5 p).setF (.smw 31) SMW.LINK_CTL.SLEEP_REQ 1)
    let a := up (fun p => (link31 5 p).setLk 31 { LinkBlk.reset with sleeping := true, charged := [1] })
    let n := up (fun p => (link31 5 p).setLk 31 { LinkBlk.reset with sleeping := true })
    let w := fun n => up (fun p => (link31 2 p).setLk 31 { LinkBlk.reset with wakeTries := n })
    let y := from_ (fun p => { ((link31 0 p).setF .ffy FFY.WAKE_EN.SMW 1) with md := mdIn .standby, ffy := { p.ffy with watchL := [31] } })
    q.part.maySleep 31 = true ∧ after (.sleepReq 31) q (fun t => (t.part.lk 31).sleeping) ∧
    after (.sleepReqReceive 31) q (fun t => t.part.linkState 31 == 7) ∧
    a.part.maySleep 31 = false ∧ after (.sleepReqReceive 31) a (fun t => t.part.out == [.train 31 5]) ∧
    n.part.maySleep 31 = true ∧ after (.sleepAck 31) n (fun t => t.part.linkState 31 == 7) ∧
    after (.sleepAck 31) a (fun t => t.part.linkState 31 == 5 && !(t.part.lk 31).sleeping) ∧ after (.sleepNak 31) a (fun t => !(t.part.lk 31).sleeping) ∧
    after (.wake 31) (l 7) (fun t => t.part.linkState 31 == 1 && t.part.out.contains (.wakePattern 31)) ∧
    after (.wakeRetry 31) (w 3) (fun t => (t.part.lk 31).wakeTries == 4) ∧ after (.wakeRetry 31) (w 4) (fun t => (t.part.lk 31).wakeTries == 0) ∧
    after (.smiwavenWakePattern 31) (l 7) (fun t => t.part.linkState 31 == 1) ∧
    Idle y ∧ y.part.bit .ffy FFY.WAKE_EN.SMW = true ∧ after (.smiwavenWakePattern 31) y (fun t => t.part.md.going == some (.wake 3 287)) := by
  decide +kernel

/-- Link 31 is ACTIVE, and the chip has recorded no role. -/
def lone (p : Part) : Part := { (link31 5 p) with md := mdIn .boot, boot := { p.boot with chitin := true } }

theorem witness_LinkBreaks :
    let s := from_ lone
    let broken := fun (cause : Nat) (t : State) => t.part.linkState 31 == 6 && t.part.getF (.smw 31) SMW.LINK_STAT.BREAK_CAUSE == cause
    let w := from_ (fun p => (lone p).setFr 0 (some { Frame.blank with dest := .chip 1, srcXp := 15, link := some 31 }))
    LoneLink w 31 ∧ w.part.creditStuck 31 Frame.blank.vc = true ∧ after (.creditTimeout 31) w (broken 4) ∧
    LoneLink s 31 ∧ MayWrite s .chitin (.smw 31) 0x100 ∧ after (.linkBreak 31 7) s (broken 7) ∧ after (.forceBreak .chitin 31) s (broken 6) ∧
    after (.unkeyedTimeout 31) s (broken 6) ∧ after (.forwardedClockLoss 31) s (broken 1) ∧ after (.blockLockLoss 31 7) s (broken 2) ∧
    after (.linkKeying 31 false) s (fun t => broken 6 t && (t.part.lk 31).barred) := by
  decide +kernel

/-- Links 30 and 31 name each other as twins; both are ACTIVE and keyed. -/
def twins (p : Part) : Part :=
  let k := { LinkBlk.reset with txKeyed := true, rxKeyed := true }
  let one := fun (q : Part) (l m : Nat) => (((q.setF (.smw l) SMW.LINK_STAT.STATE 5).setF (.smw l) SMW.LINK_CTL.TWIN_EN 1).setF (.smw l)
    SMW.LINK_CTL.TWIN_STN (m / 2)).setF (.smw l) SMW.LINK_CTL.TWIN_LINK (m % 2)
  ((one (one (lone p) 30 31) 31 30).setLk 30 k).setLk 31 k

set_option maxRecDepth 100000 in
theorem witness_LinkWork :
    let s := from_ lone
    let u : TxSlot := ⟨0xFFFFF, 0, hdrOf 1 0, .null 0 0, none, none, false, 0, 0, 0, 0, 0⟩
    let k := from_ (fun p => (lone p).setLk 31 { LinkBlk.reset with switchAsk := some 64, txKeyed := true, rxKeyed := true, unacked := [u] })
    let n := from_ (fun p => (lone p).setLk 31 { LinkBlk.reset with changed := true })
    let w := from_ twins
    let h := { hdrOf 1 7 with seq := 0x37F }
    let bits := BitVec.ofNat 128 h.pack
    let body : List Byte := List.replicate 256 0
    let crc := crc64 (bytesOf 16 h.pack ++ body)
    s.part.linkState 31 = 5 ∧ (s.part.lk 31).received.length = 8 ∧ (h.seq + 2 ^ 20 - (s.part.lk 31).rxAck) % 2 ^ 20 = 896 ∧
    groupOf [⟨h, .null 0 0, false⟩] 2 0 = none ∧ ParcelHdr.unpack bits.toNat = h ∧
    after (.rxParcel 31 bits body crc (.null 0 0) false) s (fun t => (t.part.lk 31).received == [0, 0, 0, 0, 0, 0, 0, 1]) ∧
    after (.rxParcel 31 bits body (crc + 1) (.null 0 0) false) s (fun t => (t.part.lk 31).rxHeld == [] && nbit (t.part.rd ((Page.smw 31).base + 0x20)).toNat 0) ∧
    n.part.txReady 31 = false ∧ (n.part.lk 31).strm = 0 ∧ after (.nullParcel 31) n (fun t => t.part.out.length == 1) ∧ k.part.getF (.smw 31) SMW.REPLAY_CTL.LIMIT = 4 ∧
    after (.replayTimeout 31) k (fun t => (t.part.lk 31).retry == 1 && (t.part.lk 31).resend == [0xFFFFF]) ∧
    w.part.twinNamed 31 = some 30 ∧ w.part.twinNamed 30 = some 31 ∧
    after (.twinPairForm 31) w (fun t => t.part.bit (.smw 30) SMW.LINK_STAT.TWIN_ACTIVE) ∧
    after (.twinRestored 31) (from_ (fun p => (lone p).setF (.smw 31) SMW.LINK_STAT.TWIN_ACTIVE 1)) (fun t => (t.part.lk 31).twinOk) ∧
    after (.linkKeying 31 true) s (fun t => (t.part.lk 31).rxKeyed) ∧ after (.keySwitch 31) k (fun t => (t.part.lk 31).switchSeq == some 64) ∧
    after (.rekey 31 0) k (fun t => (t.part.lk 31).switchAsk == some 64) ∧
    after (.linkIdeEstablish 127) (from_ (fun p => p.setF (.port 127) PORT.PORT_STAT.DL_UP 1)) (fun t => (t.part.pt 127).ide) := by
  decide +kernel

theorem witness_DomainInterrupts :
    let m := up (fun p => ((dom63 p).setCf 63 1 0x50 31 1 1).irq (.cfn 63) 2)
    let on := up (fun p => ((((dom63 p).setCf 63 1 0x50 31 1 1).setCf 63 1 0x04 2 1 1).wr ((Page.cfn 63).base + 0x14) 2).irq (.cfn 63) 2)
    let v := (m.part.getF (.cfn 63) (CFN.VEC_MAP.VEC.ix 0))
    let un := fun (b : Bool) => { on with part := (on.part.wr ((Page.msixTbl 63 (v / 256)).base + v % 256 * 16 + 12) (if b then 0 else 1)).setPba 63 v true }
    let r := up (fun p => p.setF (.port 127) PORT.PORT_CTL.ROLE 2)
    let f := up (fun p => (p.setF (.port 127) PORT.PORT_CTL.ROLE 3).setTw 0 7 0 (BitVec.ofNat 32 (1 + 8 * 127)))
    after (.msixEnable 63) (up dom63) (fun t => t.part.cf 63 1 0x50 31 1 == 1) ∧
    after (.intxDisable 63) (up dom63) (fun t => t.part.cf 63 1 0x04 10 1 == 1) ∧ v = 0 ∧
    on.part.vecLevel 63 0 = true ∧ on.part.msixOn 63 = true ∧ on.part.vecMasked 63 0 = true ∧
    after (.msixVectorRise 63 0) on (fun t => t.part.pbaBit 63 0 && t.part.out == []) ∧
    (un true).part.vecMasked 63 0 = false ∧ after (.msixVectorRise 63 0) (un true) (fun t => t.part.out == [.msix 63 0]) ∧
    after (.msixUnmask 63 0) (un true) (fun t => t.part.out == [.msix 63 0] && !t.part.pbaBit 63 0) ∧
    after (.assertIntx 127 0xFFFF 3) r (fun t => t.part.intx == [(127 * 65536 + 0xFFFF, 8)]) ∧
    after (.deassertIntx 127 0xFFFF 3) (up (fun _ => { r.part with intx := [(127 * 65536 + 0xFFFF, 15)] }))
      (fun t => t.part.intx == [(127 * 65536 + 0xFFFF, 7)]) ∧
    f.part.fbtOf 127 0 = some 7 ∧ after (.assertIntx 127 0 0) f (fun t => t.part.tf 0 7 2 0 4 == 1) ∧
    after (.deassertIntx 127 0 0) f (fun t => t.part.tf 0 7 2 0 4 == 0) ∧
    f.part.fbtOf 127 1 = none ∧ after (.assertIntx 127 1 0) f (fun t => nbit (t.part.rd ((Page.port 127).base + 0x20)).toNat 8) := by
  decide +kernel

theorem witness_MailboxActs :
    let s := up (fun p => { (dom63 p) with md := { mdIn .partitioned with colonyUp := true } })
    let g := { s with part := { s.part with md := { s.part.md with colonyUp := true } } }
    let a := { g with part := (g.part.setF (.cfmb 63) CFMB.MB_STAT.STATE 1).setF .mbx MBX.SEL.DOMAIN 63 }
    MayWrite g (.cf 63) (.cfmb 63) 0x104 ∧ g.part.mbPending 63 = false ∧ g.part.md.colonyUp = true ∧
    after (.mbGo 63) g (fun t => t.part.mbPending 63) ∧ a.part.mbPending 63 = true ∧ MayWrite a (.cf 63) (.cfmb 63) 0x104 ∧
    MayWrite a .colony .mbx 0x110 ∧ MBX.RSP.SEQ.of 0 = a.part.getF (.cfmb 63) CFMB.MB_STAT.SEQ := by
  decide +kernel

/-- Domain 63 with its bridge 127, a PORT bridge of port 8. -/
def portBridge (p : Part) : Part := (dom63 p).setTw 6 (128 * 63 + 127) 0 (BitVec.ofNat 32 (1 + 8 * 8))

set_option maxRecDepth 100000 in
theorem witness_DomainResets :
    let c := up (fun p => (channel 1 p).setCf 63 1 0x04 2 1 1)
    let b := up (fun p => (portBridge p).setCf 63 129 0x14C 16 2 1)
    Quiet c ∧ c.part.attached 63 = true ∧ (511, 255) ∈ c.part.chansOf 63 ∧ c.part.inFlr 63 = false ∧
    after (.flrInitiate 63) c (fun t => t.part.inFlr 63 && t.part.getF (.drc 63 255) DRC.CH_STAT.STATE == 4) ∧
    after (.flrComplete 63) (up (fun _ => { c.part with cfFlr := [(63, true)] })) (fun t => !t.part.inFlr 63 && t.part.cf 63 1 0x04 2 1 == 0) ∧
    after (.busMasterDisable 63) c (fun t => t.part.getF (.drc 63 255) DRC.CH_STAT.STATE == 3 && t.part.cf 63 1 0x04 2 1 == 0) ∧
    after (.domainReset 63) c (fun t => t.part.cf 63 1 0x04 2 1 == 0 && Sparse.get t.part.rstDue 0 63 == 5000000 && t.part.bit (.port 0) PORT.PORT_STAT.IN_RESET) ∧
    MayWrite c .chitin .glb 0x210 ∧ c.part.deeper 3 = false ∧
    after (.recoverDomainReset .chitin 0xC3 63) c (fun t => t.part.cf 63 1 0x04 2 1 == 0) ∧
    after (.domainResetRelease 63) (up (fun _ => c.part.setF (.port 0) PORT.PORT_STAT.IN_RESET 1))
      (fun t => !t.part.bit (.port 0) PORT.PORT_STAT.IN_RESET) ∧
    Quiet b ∧ b.part.vbPresent 63 127 = true ∧ b.part.vbKind 63 127 = 0 ∧ b.part.tf 6 (128 * 63 + 127) 0 3 7 = 8 ∧
    after (.secondaryBusResetSet 63 129) b (fun t => t.part.cf 63 129 0x3C 22 1 == 1) ∧
    after (.secondaryBusResetClear 63 129) (up (fun _ => b.part.setCf 63 129 0x3C 22 1 1)) (fun t => t.part.cf 63 129 0x3C 22 1 == 0) ∧
    after (.powerControllerOff 63 127) b (fun t => t.part.bit (.port 8) PORT.CONT_CTL.EXPECT_DOWN) ∧
    after (.dpcTrigger 63 127 true) b (fun t => (t.part.pt 8).dpc && t.part.dpcOn 63 127) ∧
    after (.dpcClear 63 127) (up (fun _ => b.part.setCf 63 129 0x150 0 1 1)) (fun t => !t.part.dpcOn 63 127) := by
  decide +kernel

theorem witness_ConfigRead :
    let s := up dom63
    let m := { Tlp.blank with kind := .cfgRead, id := 0x0001, tag := 5 }
    s.part.role 0 = 1 ∧ s.part.getF (.port 0) PORT.PORT_CTL.DOMAIN = 63 ∧ s.part.attached 63 = true ∧ s.part.domReset 63 = false ∧
    s.part.bit .ant ANT.CTL.EN = false ∧ s.part.bit (.port 0) PORT.CONT_STAT.ACTIVE = false ∧ s.part.cf 63 0 0x18 8 8 = 0 ∧ s.part.inFlr 63 = false ∧
    after (.configRequest 0 m none false) s (fun t => t.part.out.length == 1) := by
  decide +kernel

/-- Channel 511 of domain 63 at slot 255, bus master, enabled, with an index. -/
def chan255 (st prod : Nat) (x : Chan) (p : Part) : Part :=
  ((((channel st p).setF (.drc 63 255) DRC.CH_CTL.EN 1).setF (.drc 63 255) DRC.PROD.INDEX prod).setCf 63 1 0x04 2 1 1).setCh 511 x

theorem witness_DroneChannels :
    let s := fun (st prod : Nat) (x : Chan) => up (chan255 st prod x)
    let w : BitVec 32 := BitVec.ofNat 32 (1 + 2 * 63 + 128 * 255 + 2 ^ 15 * 7)
    let nop : List Byte := [0x23] ++ List.replicate 63 0
    Submits (up id) .chitin (.drn 1) ∧ (up id).part.bindCheck .chitin 510 w none = 0 ∧ (up id).part.bindCheck .chitin 510 (w - 1) none = 0 ∧
    after (.droneBindWrite .chitin 1 254 (w - 1)) (up id) (fun t => t.part.rd ((Page.drn 1).base + 0x400 + 4 * 254) == 0) ∧
    (s 0 0 Chan.reset).part.inFlr 63 = false ∧ (s 0 0 Chan.reset).part.inD3 63 = false ∧
    after (.droneBindWrite .chitin 1 254 w) (up id) (fun t => t.part.rd ((Page.drn 1).base + 0x400 + 4 * 254) == w) ∧
    (s 0 0 Chan.reset).part.chanAt 63 255 = some 511 ∧ (s 0 0 Chan.reset).part.ringSize (.drc 63 255) = 16 ∧
    after (.doorbellWrite 63 255 16) (s 0 0 Chan.reset) (fun t => t.part.getF (.drc 63 255) DRC.CH_STAT.STATE == 1) ∧
    MayWrite (s 1 0 Chan.reset) (.cf 63) (.drc 63 255) 0x100 ∧ Quiet (s 1 0 Chan.reset) ∧
    after (.channelReset 63 255) (s 1 9 Chan.reset) (fun t => t.part.getF (.drc 63 255) DRC.CH_STAT.STATE == 0) ∧
    after (.channelEnWrite 63 255 false) (s 1 9 Chan.reset) (fun t => t.part.getF (.drc 63 255) DRC.CH_STAT.STATE == 0) ∧
    after (.channelEnWrite 63 255 true) (s 0 1 Chan.reset) (fun t => t.part.getF (.drc 63 255) DRC.CH_STAT.STATE == 1) ∧
    dscBad nop = false ∧ dscOp nop = 3 ∧ leAt nop 0 1 / 32 % 2 = 1 ∧
    after (.descriptorRun 63 255) (s 1 1 { Chan.reset with descs := [nop] }) (fun t => (t.part.ch 511).cur == some nop) ∧
    after (.descriptorComplete 63 255) (s 1 1 { Chan.reset with cur := some nop }) (fun t =>
      t.part.getF (.drc 63 255) DRC.CONS.INDEX == 1 && t.part.getF (.drc 63 255) DRC.CH_STAT.STATE == 0) := by
  decide +kernel

set_option maxRecDepth 100000 in
theorem witness_DescriptorFetchReads :
    let s := up (fun p => (chan255 1 1 Chan.reset p).setF .pwr PWR.UNIT_STAT.QTR 15)
    Quiet s ∧ s.part.cplRoom (rdCells 64) = true ∧ (s.part.chAdmit 511 63 1).2 = true ∧ s.part.ortBlocked 63 = false ∧
    s.part.attached 63 = true ∧ s.part.uport 63 = 0 ∧ s.part.blocked (.port 0) = none ∧
    s.part.claim 63 { Tlp.blank with kind := .memRead, addr := 0, len := 64 } false none = .host ∧
    s.part.checkClaim 63 .host (s.part.claimed 63 0 .host) { Tlp.blank with kind := .memRead, addr := 0, len := 64 } 0 = none ∧
    after (.descriptorFetch 63 255) s (fun t => (t.part.ch 511).ringOut && (t.part.ch 511).ringLen == 64 && t.part.ort.length == 1) := by
  decide +kernel

/-- A tracker entry for a request of domain 63's host towards port 16. -/
def entry16 (st : OrtState) : OrtEnt :=
  { OrtEnt.empty with state := st, op := 0, domain := 63, origRid := 0x1234, origTag := 9, target := 16, tgtTag := 3, tagBound := true, source := 0,
                      remain := 64, tgtRid := 0x55 }

/-- Domain 63's device port 16 below bridge 127, its data link up, and the whole buffer on. -/
def dev16 (p : Part) : Part :=
  ((((dom63 p).setF (.port 16) PORT.PORT_CTL.ROLE 2).setF (.port 16) PORT.PORT_CTL.DOMAIN 63).setF (.port 16) PORT.PORT_CTL.VB 127).setF (.port 16)
    PORT.PORT_STAT.DL_UP 1 |>.setF .pwr PWR.UNIT_STAT.QTR 15

theorem witness_TrackerEntriesEnd :
    let at_ := fun (st : OrtState) => up (fun p => (dev16 p).setOe 0x1FFFE (entry16 st))
    let cpl : Tlp := { Tlp.blank with kind := .cpl, rid := 0x55, tag := 3, len := 64, data := List.replicate 64 0, byteCount := 64, hdrLen := 12 }
    let h := { CocoonHdr.blank with ortx := 0x1FFFE, src := 16 }
    let n := up (fun p => ((dev16 p).setOe 7 (entry16 .localE)).setFr 5 (some { Frame.blank with ort := some 7, srcXp := 2, srcSub := 0, open_ := true, cells := [1] }))
    after (.ortDeadline 0x1FFFE) (at_ .localE) (fun t => (t.part.oe 0x1FFFE).state == .quarantine && (t.part.oe 0x1FFFE).wasLocal) ∧
    after (.ortDeadline 0x1FFFE) (at_ .origin) (fun t => (t.part.oe 0x1FFFE).state == .quarantine && !(t.part.oe 0x1FFFE).wasLocal) ∧
    after (.ortDeadline 0x1FFFE) (at_ .far) (fun t => t.part.oe 0x1FFFE == OrtEnt.empty) ∧
    after (.quarantineExpire 0x1FFFE) (at_ .quarantine) (fun t => t.part.oe 0x1FFFE == OrtEnt.empty) ∧
    after (.synthCplReceive h 0x1234 9 1) (at_ .origin) (fun t => t.part.oe 0x1FFFE == OrtEnt.empty) ∧
    n.part.openFrame 16 = some 5 ∧ after (.tlpNullified 16) n (fun t => t.part.oe 7 == OrtEnt.empty) ∧
    (at_ .localE).part.portSends 16 = true ∧ (at_ .localE).part.role 16 = 2 ∧ (at_ .localE).part.domReset 63 = false ∧
    cpl.malformed = false ∧ (at_ .localE).part.waiting = [] ∧ (at_ .localE).part.cplWait = [] ∧ (at_ .localE).part.bit .ant ANT.CTL.EN = false ∧
    (at_ .localE).part.matchPort 16 cpl = some 0x1FFFE ∧ badCount (entry16 .localE) cpl = false ∧ finalCpl (entry16 .localE) cpl = true ∧
    (at_ .localE).part.blocked (.port 0) = none ∧
    after (.completionReceive 16 cpl) (at_ .localE) (fun t => t.part.oe 0x1FFFE == OrtEnt.empty &&
      ((t.part.fr 0).map (fun f => f.body)) == some (.local { cpl with rid := 0x1234, tag := 9 })) := by
  decide +kernel

/-- A used slot of domain 63 in generation 30. -/
def slot30 : Slot := { Slot.empty with used := true, gen := 30, domain := 63, addr := 0x1000, len := 64, target := 16 }

theorem witness_LedgerSlotsEnd :
    let s := up (fun p => (p.setSl 4095 slot30).setFr 3 (some { Frame.blank with sent := 1, slot := some (4095, 30), dest := .port 16 }))
    let h := { CocoonHdr.blank with ortx := 4095 + 4096 * 30, dst := 5 }
    let c := up (fun p => (p.setSl 4095 slot30).setCb 1023 { Combine.empty with used := true, gen := 30, origin := some (4095, 30) })
    after (.writeCommit 3) s (fun t => t.part.sl 4095 == Slot.empty) ∧
    after (.commitAckReceive h true 4) s (fun t => t.part.sl 4095 == Slot.empty && (t.part.je 63 0).w0 == 0x00040000) ∧
    after (.ledgerDeadline 4095) s (fun t => t.part.sl 4095 == Slot.empty && (t.part.je 63 0).w0 == 0x00090000) ∧
    after (.combineResolve 1023) c (fun t => t.part.sl 4095 == Slot.empty && t.part.cb 1023 == Combine.empty) ∧
    after (.combineTmo 1023) c (fun t => t.part.cb 1023 == Combine.empty) := by
  decide +kernel

/-- A posted write of Colony that waits for reason `why` towards port 16. -/
def waiting16 (why : Nat) : Waiting :=
  Waiting.mk { ing := .agent 2, domain := 0, fid := 0, who := .agent 2, acct := 0, cls := 7, esc := false, tlp := Tlp.blank, target := 16,
               device := false, fclass := 0, tracked := false, win := none, fbt := none, orig := 0, mc := none, ide := false } none none why 0

theorem witness_WaitingRequestsGoOn :
    let s := fun (why : Nat) => up (fun p => { dev16 p with waiting := [waiting16 why] })
    Part.trackBlock { (s 1).part with waiting := [] } (waiting16 1).req none = 0 ∧ (s 1).part.cplWait = [] ∧ behindWaiting (waiting16 1).req [] = false ∧ (s 1).part.blocked (.port 16) = none ∧
    after (.trackResume 0) (s 1) (fun t => t.part.waiting == [] && (t.part.fr 0).isSome) ∧
    after (.ledgerSlotResume 0) (s 2) (fun t => t.part.waiting == [] && (t.part.fr 0).isSome) ∧
    after (.gateClear 0) (s 3) (fun t => t.part.waiting == [] && (t.part.fr 0).isSome) := by
  decide +kernel

theorem witness_FencesHoldAndComplete :
    let s := up (fun p => (((dev16 p).setCw 63 1 0x10 0x80000004).setCf 63 1 0x04 1 1 1).setF .buf BUF.CPL_RSV.CELLS 100)
    let m : Tlp := { Tlp.blank with kind := .memRead, addr := 0x80002128, len := 8, rid := 0x1234, tag := 5 }
    let f := Fence.mk 63 0x1234 5 0 0 (some (.host 2)) .dom [] true none
    let w := up (fun p => { (dev16 p).setF .buf BUF.CPL_RSV.CELLS 100 with fences := [f] }.setFc (failDomKey 63) (FailCnt.mk 3 7 true))
    Quiet s ∧ s.part.portSends 0 = true ∧ s.part.domHere 63 = true ∧ s.part.domReset 63 = false ∧ s.part.claim 63 m true none = .bar 0 0x2128 ∧
    fenceCode 0x2128 = some 5 ∧ s.part.ideHeld 0 .memRead = false ∧ s.part.md.mode = .partitioned ∧ s.part.cf 63 1 0x44 0 2 = 0 ∧ s.part.inFlr 63 = false ∧
    after (.fenceRead 0 m) s (fun t => t.part.fences.map (fun f => (f.domain, f.tag, f.wait, f.wide)) == [(63, 5, [], true)]) ∧
    w.part.cplRoom 1 = true ∧ w.part.blocked (.port 0) = none ∧
    after (.fenceComplete 0) w (fun t => t.part.fences == [] && t.part.fc (failDomKey 63) == FailCnt.zero &&
      ((t.part.fr 0).bind (fun g => g.body.tlp)).map (fun m => m.data) == some [3, 0, 7, 0, 3, 0, 0, 0]) := by
  decide +kernel

theorem witness_RequestsEnterAndAreConsumed :
    let s := up (fun p => (((dev16 p).setCf 63 129 0x04 2 1 1).setCf 63 0 0x04 2 1 1).setF .buf BUF.MGMT_RSV.CELLS 10)
    let m : Tlp := { Tlp.blank with kind := .memWrite, addr := 0x9000, len := 16, data := List.replicate 16 7, rid := 0x0100, hdrLen := 16 }
    let c := up (fun p => let q := (dev16 p).setF .buf BUF.MGMT_RSV.CELLS 10; { q with boot := { q.boot with run := true } })
    let g := up (fun p => (p.setQueue (tqKey 18 0 0) [QItem.mk 4 0]).setFr 4 (some { Frame.blank with dest := .agent 2 }))
    Quiet s ∧ s.part.portSends 16 = true ∧ s.part.attached 63 = true ∧ s.part.claim 63 m false (some 127) = .host ∧
    m.malformed = false ∧ s.part.ideHeld 16 .memWrite = false ∧ s.part.sourceBad 63 (some 127) 0x0100 = false ∧ s.part.domReset 63 = false ∧
    s.part.checkClaim 63 .host (s.part.claimed 63 0x9000 .host) m (s.part.classOf 16 0) = none ∧ s.part.blocked (.port 0) = none ∧
    after (.tlpReceive 16 m) s (fun t => (t.part.fr 0).map (fun f => (f.dest, f.body)) == some (.port 0, .local m)) ∧
    c.part.colonyMay c.trust 16 m = true ∧ c.part.notCarriable 16 7 = false ∧ c.part.md.mode.core = true ∧
    after (.colonyRequest 16 m) c (fun t => (t.part.fr 0).map (fun f => (f.dest, f.pool)) == some (.port 16, .mgmt)) ∧
    g.part.queue (tqKey 18 0 0) = [QItem.mk 4 0] ∧ after (.agentConsume 2) g (fun t => t.part.queue (tqKey 18 0 0) == []) := by
  decide +kernel

/-- Plane 3 in a STATE with its unit on. -/
def plane3 (st : Nat) (p : Part) : Part := (p.setF (.xbp 3) XBP.PLANE_STAT.STATE st).setF .pwr PWR.UNIT_STAT.PLANE 15

theorem witness_PlanesComeAndGo :
    let s := fun (st : Nat) => up (plane3 st)
    let f := { Frame.blank with cells := [1, 2], matched := 1, dest := .port 127, voq := 9 }
    let x := Flight.mk 5 0 3 0 15 [7] 0 0
    let two := up (fun p => ((plane3 3 p).setF (.xbp 1) XBP.PLANE_STAT.STATE 4).setF (.xbp 1) XBP.PLANE_STAT.LOST_CAUSE 3)
    let l := up (fun p => { ((plane3 3 p).setFr 5 (some f)).setVoq 9 [5] with flights := [x] })
    let w := up (fun p => { plane3 3 p with starved := [(3, 4000)] })
    let pass := up (fun p => (plane3 0 p).setF (.xbp 3) XBP.PLANE_STAT.BIST_PASS 1)
    let j := up (fun p => { plane3 2 p with joining := [(3, 5)], cellTime := 7 })
    after (.landingAck 3 0) l (fun t => t.part.flights == [] && (t.part.fr 5).map (fun f => f.landed) == some 1) ∧
    after (.landingAck 3 3) l (fun t => t.part.flights == [] && (t.part.fr 5).map (fun f => f.landed) == some 1) ∧
    max 16 (w.part.getF (.xbp 3) XBP.WD_CTL.CELLTIMES) ≤ 4000 ∧ Idle w ∧
    after (.planeLost 3 6 19) (s 3) (fun t => t.part.getF (.xbp 3) XBP.PLANE_STAT.LOST_CAUSE == 6 && t.part.md.mode == .degraded) ∧
    (∀ k : Fin 3, (s 3).part.planeOut k = false) ∧ (s 3).part.minimalSet = false ∧ Idle two ∧ two.part.planeOut 1 = true ∧
    after (.planeLost 3 6 19) two (fun t => t.part.planeState 3 == 4 && t.part.md.mode == .fenced) ∧
    MayWrite (s 3) .chitin (.xbp 3) 0x100 ∧
    after (.retire .chitin 3) (s 3) (fun t => t.part.getF (.xbp 3) XBP.PLANE_STAT.LOST_CAUSE == 4 && t.part.planeState 3 == 4) ∧
    after (.bistGo .chitin 3) (s 4) (fun t => t.part.planeState 3 == 1) ∧
    after (.bistEnd 3 false) (s 1) (fun t => t.part.planeState 3 == 0 && t.part.getF (.xbp 3) XBP.PLANE_STAT.LOST_CAUSE == 5 &&
      t.part.rd ((Page.xbp 3).base + 0x20) == 0x90) ∧
    after (.bistEnd 3 true) (s 1) (fun t => t.part.planeState 3 == 0 && t.part.bit (.xbp 3) XBP.PLANE_STAT.BIST_PASS) ∧
    after (.rejoin .chitin 3) pass (fun t => t.part.planeState 3 == 2 && t.part.joining == [(3, 16)]) ∧
    after .planeJoinApply j (fun t => t.part.planeState 3 == 3 && t.part.joining == [(3, 0)]) := by
  decide +kernel

theorem witness_matchPlane : after .matchPlane (up (plane3 3)) (fun t => t.part.cellTime == 1 && t.part.flights == []) := by decide +kernel

/-- A frame that heads VOQ 9, one second old. -/
def old (kind : Nat) (p : Part) : Part :=
  { (p.setFr 5 (some { Frame.blank with kind := kind, cells := [1], dest := .port 127, voq := 9 })).setVoq 9 [5] with ftime := 256 * 1000000000 }

theorem witness_BufferUpkeep :
    let s := up (fun p => ((dom63 p).setF (.port 0) PORT.PORT_STAT.WIDTH 16).setF .buf (BUF.ACCT_CFG.MIN.ix 63) 100 |>.setF .buf BUF.CPL_RSV.CELLS 100)
    let b := up (fun p => { (dom63 p) with backing := [(1, [Backing.mk (.acct 63) 10 0]), (2, [Backing.mk .cpl 10 3])] })
    let d := up (fun p => ((dom63 p).setF .buf BUF.DROP_MAX.CELLS 1).setF .pwr PWR.UNIT_STAT.QTR 15)
    let a := up (fun p => { p with audit := [(32, 18)] })
    let e := up (fun p => (old 3 p).setFr 5 (some { Frame.blank with kind := 3, cells := [1, 2], matched := 1, sent := 1, dest := .port 127, voq := 9 }))
    let m : Tlp := { Tlp.blank with kind := .memWrite, len := 16, data := List.replicate 16 7, hdrLen := 16 }
    100 ≤ s.part.backingRoom 0 1 ∧ (s.part.portAccts 0).contains 63 = true ∧ s.part.occOf 63 + 100 ≤ s.part.minOf 63 ∧
    s.part.poolUsed .cpl + 100 ≤ s.part.getF .buf BUF.CPL_RSV.CELLS ∧
    after (.backingRequest 0 1 63 100) s (fun t => t.part.occOf 63 == 100 && Sparse.get t.part.backing [] 1 == [Backing.mk (.acct 63) 100 0]) ∧
    after (.backingRequest 0 2 63 100) s (fun t => Sparse.get t.part.backing [] 2 == [Backing.mk .cpl 100 0]) ∧
    b.part.readFirst 0 1 = false ∧ b.part.readFirst 0 2 = false ∧ b.part.planeHeld 0 = false ∧ (b.part.polOf (polKey 0 63 0)).1 = 0 ∧
    b.part.freeBacking 0 1 = 10 ∧ b.part.freeBacking 0 2 = 7 ∧ b.part.heldAtTrack 0 1 = false ∧ b.part.role 0 ≠ 3 ∧
    after (.creditAdvertise 0 1 4 32) b (fun t => t.part.out == [.credit 0 1 4 32]) ∧
    after (.creditAdvertise 0 2 3 16) b (fun t => t.part.out == [.credit 0 2 3 16] && Sparse.get t.part.backing [] 2 == [Backing.mk .cpl 10 10]) ∧
    d.part.poolCells .shared < 1 ∧ d.part.blocked (.port 0) = none ∧ 1 ≤ d.part.sharedFree ∧
    after (.droppableAdmit 0 7 63 15 m) d (fun t => (t.part.fr 0).map (fun f => (f.kind, f.dest)) == some (3, .port 0)) ∧
    (up (old 3)).part.age 0 = 1000000000 ∧ (((up (old 3)).part.fr 5).map (fun f => f.finishes)) = some false ∧
    after (.ageDrop 5) (up (old 3)) (fun t => t.part.fr 5 == none && t.part.voq 9 == []) ∧
    (e.part.fr 5).map (fun f => f.finishes && e.part.headsVoq 5 f) = some true ∧
    after (.ageDrop 5) e (fun t => (t.part.fr 5).map (fun g => g.nulled && g.matched == 1) == some true) ∧
    (up (old 2)).part.llNs < 1000000000 ∧
    after (.stuckDeclaration 5) (up (old 2)) (fun t => t.part.bit (.port 127) PORT.CONT_STAT.ACTIVE && t.part.getF (.port 127) PORT.CONT_STAT.CAUSE == 4 &&
      t.part.getF .buf BUF.STUCK_STAT.XP == 15 && t.part.getF .buf BUF.STUCK_STAT.SUB == 7) ∧
    after .auditRound a (fun t => t.part.getF .buf BUF.AUD_STAT.XP == 17 && t.part.getF .buf BUF.AUD_STAT.IDENT == 8) := by
  decide +kernel

/-- A completion queued at target 7 of station 15 in class 7, behind a shaper. -/
def queued127 (p : Part) : Part :=
  let m : Tlp := { Tlp.blank with kind := .cpl, len := 64, data := List.replicate 64 1, hdrLen := 12 }
  let f := { Frame.blank with kind := 2, cls := 7, dest := .port 127, body := .local m }
  let q := (((p.setF (.port 127) PORT.PORT_STAT.DL_UP 1).setFr 5 (some f)).setQueue (queueKey 15 7 7) [QItem.mk 5 0]).setF (.sch 15)
    (SCH.SHP_CFG.RATE.ix2 7 7) 100
  { q with shpAct := [(queueKey 15 7 7, (3, 1))], tok := [(queueKey 15 7 7, 250 * 100)] }

theorem witness_EgressSchedules :
    let s := up queued127
    let m : Tlp := { Tlp.blank with kind := .cpl, len := 64, data := List.replicate 64 1, hdrLen := 12 }
    s.part.portSends 127 = true ∧ s.part.ideHeld 127 .cpl = false ∧ 
    250 * (m.bytes + s.part.getF (.sch 15) (SCH.PORT_CFG.OVH.ix 7)) ≤ s.part.shpTok (queueKey 15 7 7) ∧
    after (.schedulerChoose 15 7 4) s (fun t => t.part.out == [.tlp 127 m] && t.part.queue (queueKey 15 7 7) == []) := by
  decide +kernel

theorem witness_TableAccess :
    let s := fun (t i : Nat) => up (fun p => ((p.setF .tbl (TBL.ACC_CTL.TABLE.ix 1) t).setF .tbl (TBL.ACC_CTL.INDEX.ix 1) i).setF .tbl
      (TBL.ACC_DATA.DATA.ix2 1 0) 0x41 |>.setTw 3 4095 6 0x21)
    let res := fun (t : State) => t.part.getF .tbl (TBL.ACC_STAT.RESULT.ix 1)
    MayWrite (s 3 4095) .chitin .tbl 0x180 ∧
    after (.tblRead .chitin) (s 7 0) (fun t => res t == 2) ∧ after (.tblWrite .chitin) (s 3 4096) (fun t => res t == 1) ∧
    after (.tblRead .chitin) (s 3 4095) (fun t => res t == 0 && t.part.getF .tbl (TBL.ACC_DATA.DATA.ix2 1 6) == 0x21) ∧
    after (.tblOpReserved .chitin) (s 3 4095) (fun t => res t == 3) ∧
    (s 3 4095).part.tblRule (s 3 4095).trust 3 4095 ((s 3 4095).part.accData 1 3) = 0 ∧
    after (.tblWrite .chitin) (s 3 4095) (fun t => res t == 0 && t.part.tw 3 4095 0 == 0x41 && t.part.tw 3 4095 6 == 0) ∧
    (s 1 65535).part.tblRule (s 1 65535).trust 1 65535 ((s 1 65535).part.accData 1 1) = 3 ∧
    after (.tblWrite .chitin) (s 1 65535) (fun t => res t == 3) ∧
    after (.tblInvalidate .chitin) (s 3 4095) (fun t => res t == 0 && t.part.tw 3 4095 6 == 0x21 && t.part.tw 3 4095 0 == 0) := by
  decide +kernel

theorem witness_PortTakesRole :
    let w : BitVec 32 := BitVec.ofNat 32 (2 + 256 * 63 + 65536 * 127)
    let s := up (stn15 (16 * 2 ^ 21))
    Submits s .colony (.port 127) ∧ Submits s .chitin (.port 127) ∧ s.part.role 127 ≠ 1 ∧ s.part.guardPort s.trust 127 2 63 = true ∧
    PORT.PORT_CTL.ROLE.of w = 2 ∧ PORT.PORT_CTL.DOMAIN.of w = 63 ∧
    after (.portCtlWrite .colony 127 w) s (fun t => t.part.role 127 == 2 && t.part.getF (.port 127) PORT.PORT_CTL.DOMAIN == 63 &&
      t.trust.ownOf (.port 127) == some (.owned 63)) ∧
    after (.portCtlWrite .chitin 127 w) s (fun t => t.part.role 127 == 2) := by
  decide +kernel

/-- A one-cell MCTP unit from chip 127's Chitin to this chip's. -/
def unitHdr : CocoonHdr := { CocoonHdr.blank with dst := 259, src := 127 * 512 + 259, cls := 7, kind := 2, fseq := 0xFFFFFF, ilen := 4 }

/-- Its flow. -/
def flow7 : Nat := flowKey (127 * 512 + 259) 259 0 7

/-- A cell of that flow. -/
def cellAt (seq : Nat) : RsqCell := RsqCell.mk seq 5 0 (.unit unitHdr (.mctp [1, 2, 3, 4])) false 0 0

/-- A receive entry in a state. -/
def flowIn (st : FlowState) (held : List RsqCell) : RxFlow :=
  { RxFlow.empty with state := st, expected := 0xFFFFFF, held := held, holeAt := if held = [] then none else some 0 }

theorem witness_ResequencerKeepsOrder :
    let a : Arrived := Arrived.mk (ParcelHdr.mk 0 0 true true 36 0 0 0 0 0 0 0 0 false false 0) (.cell (some
      (.unit unitHdr (.mctp [1, 2, 3, 4])))) (some 5)
    let l := up (fun p => p.setLk 31 { LinkBlk.reset with arrived := [a] })
    let r := fun (seq : Nat) => up (fun p => { p.setRxf flow7 (flowIn .synced []) with rsqIn := [(18, [cellAt seq])] })
    let h := up (fun p => p.setRxf flow7 (flowIn .synced [cellAt 3]))
    badUnit unitHdr = false ∧ l.part.chip = 0 ∧
    after (.cocoonUnitReceive 31) l (fun t => (t.part.lk 31).arrived == [] && (Sparse.get t.part.rsqIn [] 18).length == 1) ∧
    after (.rsqCell 18) (r 0xFFFFFF) (fun t => (t.part.rxf flow7).expected == 0 && (t.part.rxf flow7).rel == [cellAt 0xFFFFFF]) ∧
    2 ^ 23 ≤ seqDist 0xFFFFFE 0xFFFFFF ∧ after (.rsqCell 18) (r 0xFFFFFE) (fun t => t.part.rxf flow7 == flowIn .synced []) ∧
    after (.holeTimeout (BitVec.ofNat 16 (127 * 512 + 259)) 259 0 7) h (fun t => (t.part.rxf flow7).state == .stale && (t.part.rxf flow7).held == []) := by
  decide +kernel

set_option maxRecDepth 100000 in
theorem witness_holdCap :
    let s := up (fun p => p.setRxf flow7 (flowIn .synced (List.replicate 4096 (cellAt 3))))
    4096 ≤ s.part.rsqHeld 18 ∧ s.part.rxFlow = [(flow7, flowIn .synced (List.replicate 4096 (cellAt 3)))] := by
  decide +kernel

theorem witness_FlowsOpenAndRetire :
    let e := up (fun p => p.setRxf flow7 (flowIn .synced []))
    let c := up (fun p => p.setLk 0 { LinkBlk.reset with rxCtx := [(1, RxCtx.mk (.unit { unitHdr with ilen := 600 } (.mctp [])) 1 [] false)] })
    let z := up (fun p => p.setRxf flow7 (flowIn .stale []))
    (up id).part.rxUsed < 32768 ∧ after (.probeOpen unitHdr) (up id) (fun t => t.part.rxf flow7 == flowIn .synced []) ∧
    after (.probeVoid unitHdr 0xFFFF) e (fun t => (t.part.rxf flow7).expected == 0xFFFE) ∧
    (up id).part.resumed unitHdr = none ∧ after (.probeResume 31 7 unitHdr 17) (up id) (fun t => (t.part.ctx 31 15).map (fun c => c.skip) == some true) ∧
    (c.part.resumed { unitHdr with fseq := 1 }).isSome = true ∧
    after (.probeResume 31 7 { unitHdr with fseq := 1 } 2) c (fun t => (t.part.ctx 31 15).map (fun c => c.next) == some 2) ∧
    (up id).part.flowBusy flow7 = false ∧
    after (.sendFlowRetire (BitVec.ofNat 16 (127 * 512 + 259)) 259 0 7) (up (fun p => p.setTxf flow7 (TxFlow.mk true 9 0 true)))
      (fun t => !(t.part.txf flow7).used) ∧
    after (.rxFlowStale (BitVec.ofNat 16 (127 * 512 + 259)) 259 0 7) e (fun t => (t.part.rxf flow7).state == .stale) ∧
    after (.rxFlowRetire (BitVec.ofNat 16 (127 * 512 + 259)) 259 0 7) z (fun t => t.part.rxf flow7 == RxFlow.empty) := by
  decide +kernel

/-- Port 127 with its data link up in role 2. -/
def linked127 (p : Part) : Part := ((stn15 (16 * 2 ^ 21) p).setF (.port 127) PORT.PORT_STAT.DL_UP 1).setF (.port 127) PORT.PORT_CTL.ROLE 2

theorem witness_PortContainmentLife :
    let s := up linked127
    let e := up (fun p => (linked127 p).setF (.port 127) PORT.CONT_CTL.EXPECT_DOWN 1)
    let h := up (fun p => (linked127 p).setPt 127 { PortBlk.reset with selfDown := true })
    let c := up (fun p => (((linked127 p).setF (.port 127) PORT.CONT_STAT.ACTIVE 1).setF (.port 127) PORT.CONT_STAT.DONE 1).setF (.port 127)
      PORT.CONT_CTL.AUTO_REL 1)
    let cause := fun (n : Nat) (t : State) => t.part.bit (.port 127) PORT.CONT_STAT.ACTIVE && t.part.getF (.port 127) PORT.CONT_STAT.CAUSE == n &&
      !t.part.bit (.port 127) PORT.PORT_STAT.DL_UP
    after (.pcieLinkDown 127) s (cause 2) ∧ after (.pcieLinkDown 127) e (cause 1) ∧ after (.pcieLinkDown 127) h (cause 8) ∧
    after (.portContainment 127 8) s (cause 8) ∧ MayWrite s .colony (.port 127) 0x110 ∧ after (.containmentForce .colony 127) s (cause 6) ∧
    after (.expectDown .colony 127) s (fun t => t.part.bit (.port 127) PORT.CONT_CTL.EXPECT_DOWN) ∧
    c.part.getF (.port 127) PORT.CONT_STAT.CAUSE = 0 ∧ after (.containmentRelease .colony 127) c (fun t => !t.part.bit (.port 127) PORT.CONT_STAT.ACTIVE) ∧
    after (.containmentAutoRelease 127) c (fun t => !t.part.bit (.port 127) PORT.CONT_STAT.ACTIVE) := by
  decide +kernel

theorem witness_ScrubAndRepair :
    let s := up (fun p => { p.setTw 1 65535 0 0xFFFFFFFF with spare := [(7 * 8 + 5, 3)] })
    eccBit 2 4 = some (.ord, 5) ∧ Idle s ∧
    after (.patrolScrub 2 0xFFFFFF 1 4 0) s (fun t => t.part.getF .glb GLB.ECC_LAST.ADDR == 0xFFFFFF && t.part.rd (Page.ord.base + 0x20) == 0x20) ∧
    after (.patrolScrub 2 0 2 6 65535) s (fun t => t.part.tw 1 65535 0 == 0xFFFFFFFE) ∧
    after (.rowRepair 5 7 0) s (fun t => Sparse.get t.part.spare 0 61 == 4 && t.part.md.mode == .degraded) := by
  decide +kernel

theorem witness_CaptureStartsAndTriggers :
    let s := up (fun p => (p.setF .pwr PWR.UNIT_STAT.ANT 1).setF .ant ANT.CTL.TRIG_MODE 1)
    let r := up (fun p => (((p.setF .pwr PWR.UNIT_STAT.ANT 1).setF .ant ANT.CTL.TRIG_MODE 1).setF .ant ANT.CTL.EN 1).setF .gpio GPIO.OWNER.OWNER_HI
      0x30000000)
    MayWrite s .colony .ant 0x100 ∧
    after (.captureEnable .colony true) s (fun t => t.part.bit .ant ANT.CTL.EN && !t.part.bit .ant ANT.STAT.RUNNING) ∧
    after (.captureEnable .colony true) (up id) (fun t => !t.part.bit .ant ANT.CTL.EN && t.part.bit .ant ANT.STAT.CFG_REJ) ∧
    after (.captureEnable .colony false) r (fun t => !t.part.bit .ant ANT.CTL.EN) ∧
    r.part.pinOwner 15 = 3 ∧ (∀ j : Fin 15, r.part.pinOwner j ≠ 3) ∧
    after (.antTrigger 15) r (fun t => t.part.bit .ant ANT.STAT.TRIGGERED && t.part.bit .ant ANT.STAT.RUNNING) := by
  decide +kernel

theorem witness_GpioAndSlots :
    let s := up (fun p => p.setF .gpio GPIO.OWNER.OWNER_HI 0x20000000)
    let i := up (fun p => ((p.setF .gpio GPIO.OWNER.OWNER_HI 0x20000000).setF .gpio GPIO.IN.IN 0x8001).setF .gpio GPIO.EDGE.EDGE 2 |>.setF .i3c
      I3C.SLOT_EN.EN 0x8000)
    let c := { i with part := { i.part with md := { i.part.md with colonyUp := true } } }
    MayWrite s .colony .gpio 0x108 ∧ MayWrite s .colony .gpio 0x10C ∧ MayWrite s .colony .gpio 0x114 ∧ MayWrite s .colony .i3c 0x11C ∧
    after (.gpioWrite .colony 0 0xFFFF) s (fun t => t.part.getF .gpio GPIO.DIR.DIR == 0x7FFF) ∧
    after (.gpioWrite .colony 1 0xFFFF) s (fun t => t.part.getF .gpio GPIO.OUT.OUT == 0x7FFF) ∧
    after (.gpioWrite .colony 2 0xFFFFFFFF) s (fun t => t.part.getF .gpio GPIO.EDGE.EDGE == 0x3FFFFFFF) ∧
    after (.slotEnWrite .colony 0xFFFF) s (fun t => t.part.getF .i3c I3C.SLOT_EN.EN == 0x8000) ∧
    after (.gpioEdge 0 false) i (fun t => t.part.getF .gpio GPIO.IN.IN == 0x8000 && t.part.rd (Page.gpio.base + 0x10) == 1) ∧
    after (.gpioEdge 15 true) s (fun t => t.part.getF .gpio GPIO.IN.IN == 0x8000) ∧
    after (.slotInt 15) c (fun t => t.part.getF .i3c I3C.SLOT_STAT.LOW == 0x8000 && t.part.rd (Page.i3c.base + 0x10) == 16) := by
  decide +kernel

set_option maxRecDepth 100000 in
theorem witness_I3cAndMctp :
    let s := up (fun p => let q := (p.setF .i3c I3C.CTL.C0_EN 1).setF .i3c I3C.CTL.T1_EN 1; { q with md := { q.md with colonyUp := true } })
    let b := up (fun p => (p.setF .i3c I3C.C0_STAT.BUSY 1).setF .i3c I3C.MTX_CTL.BUSY 1)
    let w : BitVec 32 := BitVec.ofNat 32 (2 ^ 31 + 256 * 256 + 128 + 0x7F)
    let m : BitVec 32 := BitVec.ofNat 32 (1 + 2 ^ 11 + 2 ^ 12 * 0xFF)
    MayWrite s .colony .i3c 0x110 ∧ MayWrite s .colony .i3c 0x120 ∧ MayWrite s .colony .i3c 0x124 ∧
    after (.i3cCommand .colony w) s (fun t => t.part.out == [.i3c 0x7F true 256]) ∧
    after (.i3cCommandDone 3 []) b (fun t => t.part.getF .i3c I3C.C0_STAT.RESULT == 3 && !t.part.bit .i3c I3C.C0_STAT.BUSY) ∧
    after (.ibiReceive 127 0xAE) s (fun t => t.part.ibi == [(127, 0xAE)]) ∧
    after (.mctpReceive 1 0x22 [1, 9, 8] none) s (fun t => t.part.getF .i3c I3C.MRX_STAT.LEN == 3 && t.part.getBuf .i3c 0x800 3 == [1, 9, 8]) ∧
    after (.mrxPop .colony) s (fun t => !t.part.bit .i3c I3C.MRX_STAT.AVAIL) ∧
    after (.mtxGo .colony m) s (fun t => t.part.out == [.mctp 1 0xFF [0]]) ∧
    after .mtxDone b (fun t => !t.part.bit .i3c I3C.MTX_CTL.BUSY) := by
  decide +kernel

set_option maxRecDepth 100000 in
theorem witness_FlashOperations :
    let s := fun (own a : Nat) => up (fun p => (p.setF .spi SPI.OWNER.COLONY own).setF .spi SPI.ADDR.ADDR a)
    let r := fun (op len : Nat) => up (fun p => { p.setF .spi SPI.STAT.BUSY 1 with spi := some (SpiOp.mk .chitin op 0x10000 len), flash := [(0x10001, 0x0F)] })
    (s 0 0xFF).part.srstBusy .spi = false ∧ MayWrite (s 0 0xFF) .chitin .spi 0x108 ∧ MayWrite (s 1 0x1000000) .colony .spi 0x108 ∧
    after (.spiRead .chitin 256) (s 0 0xFF) (fun t => t.part.spi == some (SpiOp.mk .chitin 0 0xFF 256)) ∧
    after (.spiProgram .colony 1) (s 1 0x10000FF) (fun t => t.part.spi == some (SpiOp.mk .colony 1 0x10000FF 1)) ∧
    after (.spiProgram .colony 1) (s 1 0xFFFFFF) (fun t => t.part.spi == none && t.part.getF .spi SPI.STAT.RESULT == 1) ∧
    after (.erase4k .colony) (s 1 0x1000000) (fun t => t.part.spi.isSome) ∧ after (.erase64k .chitin) (s 0 0x10000) (fun t => t.part.spi.isSome) ∧
    after (.spiDone true) (r 1 2) (fun t => t.part.flash == [(0x10000, 0), (0x10001, 0)]) ∧
    after (.spiDone true) (r 0 2) (fun t => t.part.getBuf .spi 0x400 2 == [0xFF, 0x0F]) := by
  decide +kernel

/-! ### Steps, ticks, reset and invariants -/

theorem witness_EmptyQueueTicks :
    let p := inMode .partitioned
    let q := from_ (fun p => { p with md := mdIn .standby, slew := 5 })
    p.pending = [] ∧ p.part.md.mode.core = true ∧ p.part.slew = 0 ∧ q.part.md.mode.core = false ∧
    stepTo p (fun t => t.part.now == 1 && t.part.ftime == 256) ∧
    stepTo { p with part := { p.part with slew := -5 } } (fun t => t.part.ftime == 255 && t.part.slew == -4) ∧
    stepTo { p with part := { p.part with slew := 5, now := 40 } } (fun t => t.part.ftime == 257 && t.part.slew == 4) ∧
    stepTo q (fun t => t.part.now == 1 && t.part.ftime == 0 && t.part.slew == 5) := by
  decide +kernel

set_option maxRecDepth 100000 in
theorem witness_ResetHolds :
    let p := State.reset.part
    p.md.mode = .boot ∧ p.getF .glb HDR.CNT_CTL.EN = 0xFF ∧ p.getF (.drc 63 255) HDR.CNT_CTL.EN = 0xFF ∧ p.rd (Page.glb.base + 0x14) = 0 ∧
    p.getF .spi SPI.CTL.DIV = 0x27 ∧ p.bit .spi SPI.OWNER.COLONY = false ∧ p.bit .glb (GLB.STN_CFG.EN.ix 15) = false ∧
    p.linkState 31 = 0 ∧ p.planeState 3 = 0 ∧ p.getF (.drc 63 255) DRC.CH_STAT.STATE = 0 := by
  decide +kernel

theorem witness_InvariantKept :
    let s := inMode .maintenance
    Sparse.wf (fun _ => (0 : BitVec 32)) s.otp = true ∧ s.trust.sessions.length ≤ 128 ∧ Sparse.wf (fun _ => (0xFF : BitVec 8)) s.part.flash = true ∧
    stepTo { s with pending := [.keyExchange none] } (fun t => t.pending == []) := by
  decide +kernel

theorem witness_RoleRecordKept :
    let s := inMode .partitioned
    s.part.md.mode.isRole = true ∧ s.part.md.role = some s.part.md.mode ∧
    stepTo { s with pending := [.chipRstNAssert] } (fun t => t.part.md.mode == .boot && t.part.md.role == none) := by
  decide +kernel

/-! ### Frames -/

theorem witness_FrameOfEveryCommand :
    let s := inMode .partitioned
    programsOtp .kick = false ∧ changesTrust .kick = false ∧ writesFlash .kick = false ∧
    after .kick s (fun t => t.pending == s.pending && t.part.now == s.part.now && t.otp == s.otp && t.trust == s.trust) := by
  decide +kernel

theorem witness_FrameOfRegisterCommands :
    let s := inMode .partitioned
    registerPieces .timePpsPulse = some [.out] ∧ after .timePpsPulse s (fun t => t.part.regs == s.part.regs) := by
  decide +kernel

theorem witness_FrameOfLinkCommands :
    let s := inMode .partitioned
    linkPieces (.keySwitch 0) = some [.link] ∧ after (.keySwitch 0) s (fun t => t.part.regs == s.part.regs) := by
  decide +kernel

theorem witness_FrameOfTrafficCommands :
    let s := inMode .partitioned
    trafficPieces (.quarantineExpire 0) = some [.backing, .ort, .gates] ∧ after (.quarantineExpire 0) s (fun t => t.part.regs == s.part.regs) := by
  decide +kernel

theorem witness_FrameOfHostCommands :
    let s := inMode .partitioned
    hostPieces (.flrComplete 0) = some [.regs, .out, .cfg, .msix, .cfFlr, .doe, .regUe] ∧ after (.flrComplete 0) s (fun t => t.part.tables == s.part.tables) := by
  decide +kernel

theorem witness_FrameOfModeChanges :
    let s := inMode .fabricMember
    Idle s ∧ idlePieces .hiveWithdrawal = some [.regs, .md, .ffy] ∧
    after .hiveWithdrawal s (fun t => t.part.md.mode == .partitioned && t.part.link == s.part.link) := by
  decide +kernel

theorem witness_FrameOfPages :
    let s := up (fun p => p.setF .i3c I3C.MRX_STAT.AVAIL 1)
    Elsewhere [.i3c] 0x7100 ∧ s.part.posted = [] ∧ after (.mrxPop .colony) s (fun t => t.part.rd 0x7100 == s.part.rd 0x7100 && !t.part.bit .i3c I3C.MRX_STAT.AVAIL) := by
  decide +kernel

/-! ### Rules stated whole -/

theorem witness_HistogramBins :
    let p := Part.fresh.setF .tel TEL.HIST_CTL.EN 1
    histBin 15 = 0 ∧ histBin 16 = 1 ∧ histBin (16 * 2 ^ 30 - 1) = 30 ∧ histBin (16 * 2 ^ 30) = 31 ∧ p.bit .tel TEL.HIST_CTL.EN = true ∧
    Sparse.get (p.samplePort 1 3 7 31).hist 0 (histKey 1 3 7 1) = 1 := by
  decide +kernel

theorem witness_ColonyResponses :
    let s := up (fun p => ((p.setF .mbx MBX.SEL.DOMAIN 63).setF (.cfmb 63) CFMB.MB_STAT.STATE 1).setF (.cfmb 63) CFMB.MB_STAT.SEQ 5)
    let w := fun (seq result : Nat) => MBX.RSP.SEQ.into (MBX.RSP.RESULT.into (MBX.RSP.RSP_LEN.into 0 2048) result) seq
    MayWrite s .colony .mbx 0x110 ∧ s.part.mbPending 63 = true ∧ s.part.getF (.cfmb 63) CFMB.MB_STAT.SEQ = 5 ∧
    after (.colonyResponse (w 5 4)) s (fun t => t.part.getF (.cfmb 63) CFMB.MB_STAT.STATE == 2 && t.part.getF (.cfmb 63) CFMB.MB_STAT.RESULT == 4) ∧
    after (.colonyResponse (w 5 6)) s (fun t => t.part.getF (.cfmb 63) CFMB.MB_STAT.RESULT == 7) ∧
    after (.colonyResponse (w 6 0)) s (fun t => t.part.mbPending 63 && t.part.bit .mbx MBX.RSP.STALE) := by
  decide +kernel

theorem witness_SnapCounts :
    let s := up (fun p => { p with cell := [(7, CellRec.mk .queued .shared 0 1 0)] })
    MayWrite s .colony .buf 0x120 ∧ (s.part.cell.filter (fun e => e.2.state == .queued)).length = 1 ∧
    after (.snap .colony) s (fun t => t.part.rd (Page.buf.base + 0x12C) == 1 && t.part.rd (Page.buf.base + 0x128) == 262143 &&
      t.part.getF .buf BUF.AUD_STAT.SNAP_VALID == 1) := by
  decide +kernel

theorem witness_SealBlown :
    let s := session
    let q := from_ (fun p => ({ p with md := mdIn .maintenance, boot := { p.boot with chitin := true } }).setF .otpv OTPV.ACTIVE.SEALED 1)
    StrapSession s ∧ after (.blowSeal true) s (fun t => otpSealed t.otp && !t.part.strapEff) ∧
    q.part.getF .otpv OTPV.ACTIVE.SEALED = 1 ∧ presenceCode (.revokeGen 1 true) = some 4 ∧ q.part.maintOn = true ∧ q.part.boot.staged = none ∧
    q.part.maintMode 4 = true ∧ after (.revokeGen 1 true) q (fun t => t.part.boot.staged.isSome && t.part.out == [.reply 4 [1]]) := by
  decide +kernel

theorem witness_UnalignedAccesses :
    let s := inMode .partitioned
    s.part.md.mode.core = true ∧ s.part.ffy.chipRst = false ∧
    after (.registerWrite .colony 0x7105 9 none) s (fun t => t.part.getF .glb GLB.ACC_VIOL.CAUSE == 2 && t.part.bit .glb GLB.ACC_VIOL.WRITE &&
      t.part.getF .glb GLB.ACC_VIOL_ADDR.ADDR == 0x7105) ∧
    after (.clearingRead .chitin 0x104 true) s (fun t => t.part.out == [.busError .chitin 0x104] && t.part.getF .glb GLB.ACC_VIOL.CAUSE == 2) ∧
    Requester.locate .colony 0x7010 = some (.spi, 0x10) ∧ Permits s .colony .spi 0x10 ∧ Permits s .colony .spi 0x14 ∧
    after (.registerWrite .colony 0x7010 0 (some 5)) s (fun t => t.part.rd (Page.spi.base + 0x14) == (5 &&& BitVec.ofNat 32 Page.spi.irqMask)) := by
  decide +kernel

end Sys2Proof.Tests
end

section
/-! Proofs for the scope statements: accesses of registers and the actions of the common page header (R8, R9, R16, R19, R455, R478, R479). -/

namespace Sys2Proof.Machine

/-! ### Where pages and their header words lie -/

theorem Page.base_ge_of_ne_glb {pg : Page} (h : pg ≠ .glb) : 0x1000 ≤ pg.base := by
  cases pg
  case glb => exact absurd rfl h
  all_goals simp only [Page.base, viewBase]
  all_goals omega

theorem Page.ne_glb_of_owner {pg : Page} (h : pg.owner ≠ 0) : pg ≠ .glb := by
  rintro rfl
  exact h rfl

theorem Part.clkStopped_of_core (p : Part) {pg : Page} (h : pg.owner = 0) : p.clkStopped pg = false := by
  cases pg <;> simp [Page.owner] at h <;> rfl

/-! ### What counting an access changes -/

/-- The words that counting an event on a page outside views can change: its counters, and IRQ_STAT by a wrap (R454). -/
def countWords (pg : Page) (a : Nat) : Prop := a = pg.base + 0x10 ∨ (pg.base + 0x80 ≤ a ∧ a < pg.base + 0xC0)

theorem Part.cntStep_touches_countWords {pg : Page} (hv : pg.isView = false) : ∀ (fuel : Nat) (p : Part) (n k : Nat),
    Part.Touches (countWords pg) p (Part.cntStep fuel p pg n k)
  | 0, p, _, _ => .refl _ p
  | fuel + 1, p, n, k => by
    unfold Part.cntStep
    refine Part.Touches.ite (fun h => ?_) (fun _ => .refl _ p)
    simp only [Bool.and_eq_true] at h
    have hn := chain_bound p pg n h.1
    have hstore (v : Nat) : Part.Touches (countWords pg) p (p.setCnt pg n v) :=
      Part.Touches.setCnt p pg v hn (fun _ h1 h2 => .inr ⟨h1, h2⟩)
    refine Part.Touches.ite (fun _ => hstore _) (fun _ => ?_)
    have hwrap : pg.base + 0x80 ≤ pg.base + (HDR.CNT.WRAP.ix n).off ∧ pg.base + (HDR.CNT.WRAP.ix n).off < pg.base + 0xC0 := by
      simp only [Fld.ix, HDR.CNT.WRAP]
      omega
    have hcarry := ((hstore ((p.cntVal pg n + k) % 2 ^ 48)).trans (Part.Touches.setF _ pg (HDR.CNT.WRAP.ix n) 1 (.inr hwrap))).trans
      (Part.Touches.irq _ pg 0x40000000 (.inl rfl))
    simp only [hv, Bool.false_and, Bool.false_eq_true, if_false]
    exact Part.Touches.ite (fun _ => hcarry.trans (Part.cntStep_touches_countWords hv fuel _ _ _)) (fun _ => hcarry)

theorem Part.count_touches_countWords (p : Part) {pg : Page} (hv : pg.isView = false) (n k : Nat) (dom : Option Nat) :
    Part.Touches (countWords pg) p (p.count pg n k dom) := by
  unfold Part.count
  refine Part.Touches.ite (fun _ => .refl _ p) fun _ => Part.Touches.ite (fun _ => .refl _ p) fun _ =>
    Part.Touches.ite (fun _ => .refl _ p) fun _ => Part.cntStep_touches_countWords hv 16 p n k

/-- Counting on GLB leaves every page's words alone, but for those of the counters' own offsets. -/
theorem Part.rd_count_glb (p : Part) (n k : Nat) (pg : Page) {o : Nat} (h : o ≠ 0x10 ∧ (o < 0x80 ∨ 0xC0 ≤ o)) :
    (p.count .glb n k).rd (pg.base + o) = p.rd (pg.base + o) := by
  refine (p.count_touches_countWords rfl n k none).2 _ fun hw => ?_
  by_cases hg : pg = .glb
  · subst hg
    simp only [countWords, Page.base] at hw
    omega
  · have hb := Page.base_ge_of_ne_glb hg
    simp only [countWords, show Page.glb.base = 0 from rfl] at hw
    omega

/-- Counting on GLB leaves every word of another page alone. -/
theorem Part.rd_count_glb_page (p : Part) (n k : Nat) {pg : Page} (h : pg ≠ .glb) (o : Nat) :
    (p.count .glb n k).rd (pg.base + o) = p.rd (pg.base + o) := by
  have hb := Page.base_ge_of_ne_glb h
  exact (p.count_touches .glb n k none).plain rfl (.inr (by simp only [show Page.glb.base = 0 from rfl]; omega))

theorem Part.getF_count_glb (p : Part) (n k : Nat) (pg : Page) (f : Fld) (h : f.off ≠ 0x10 ∧ (f.off < 0x80 ∨ 0xC0 ≤ f.off)) :
    (p.count .glb n k).getF pg f = p.getF pg f := by
  unfold Part.getF
  rw [p.rd_count_glb n k pg h]

/-! ### The access check -/

/-- A requester that may write a register does so while the core runs, and nothing denies it. -/
theorem Part.runs_of_permitted {p : Part} {req : Requester} {pg : Page} {o : Nat} (h : (p.permitted req pg o).1 = true) :
    p.md.mode.core = true ∧ p.ffy.chipRst = false ∧ p.denied req pg o true = none := by
  unfold Part.permitted at h
  extract_lets vis at h
  clear_value vis
  split at h
  · cases h
  · rename_i hrun
    simp only [Bool.or_eq_true, Bool.not_eq_true', not_or, Bool.not_eq_false, Bool.not_eq_true] at hrun
    obtain ⟨⟨-, hcore⟩, hrst⟩ := hrun
    split at h
    · cases h
    · exact ⟨hcore, hrst, ‹_›⟩

/-- The part once the access check has let a requester's command act: the access is counted and the shadow dropped (R15, R454). -/
def Part.admitted (p : Part) (req : Requester) : Part := (p.dropShadow req).count .glb 0 1

@[simp] theorem Part.admitted_posted (p : Part) (req : Requester) : (p.admitted req).posted = p.posted := by
  unfold Part.admitted
  rw [Part.count_posted]
  rfl

theorem Part.rd_admitted (p : Part) (req : Requester) (pg : Page) {o : Nat} (h : o ≠ 0x10 ∧ (o < 0x80 ∨ 0xC0 ≤ o)) :
    (p.admitted req).rd (pg.base + o) = p.rd (pg.base + o) := (p.dropShadow req).rd_count_glb 0 1 pg h

theorem Part.rd_admitted_page (p : Part) (req : Requester) {pg : Page} (h : pg ≠ .glb) (o : Nat) :
    (p.admitted req).rd (pg.base + o) = p.rd (pg.base + o) := (p.dropShadow req).rd_count_glb_page 0 1 h o

/-- Which slots are bound rests on the Drone pages alone (R104). -/
theorem Part.unboundSlot_admitted (p : Part) (req : Requester) (pg : Page) : (p.admitted req).unboundSlot pg = p.unboundSlot pg := by
  have hdrone (d : Nat) (f : Fld) : (p.admitted req).getF (.drn d) f = p.getF (.drn d) f := by
    unfold Part.getF
    rw [p.rd_admitted_page req (by simp)]
  cases pg <;> simp only [Part.unboundSlot, Part.chanAt, hdrone]

/-- A permitted command on the header of the page that an address names acts on the admitted part. -/
theorem Part.onPage_header {p : Part} {req : Requester} {addr o k : Nat} {pg : Page} (f : Part → Page → Part)
    (hl : req.locate addr = some (pg, k)) (ho : o < 0x100) (hp : (p.permitted req pg o).1 = true) :
    p.onPage req addr o f = f (p.admitted req) pg := by
  unfold Part.onPage
  rw [hl]
  show p.ifPermitted req pg o (fun q => f q pg) = _
  rw [p.ifPermitted_true req pg o _ hp (fun h => absurd h (by omega)), p.permitted_true req pg o hp]
  rfl

/-! ### Storing a word -/

/-- The word that a write leaves in a register: RW bits take the value, W1C bits clear and W1S bits set where it is 1 (R8). -/
def RegDef.stored (r : RegDef) (old v keep : BitVec 32) : BitVec 32 :=
  ((old &&& ~~~(BitVec.ofNat 32 r.rw &&& ~~~keep)) ||| (v &&& (BitVec.ofNat 32 r.rw &&& ~~~keep))) &&& ~~~(v &&& BitVec.ofNat 32 r.w1c)
    ||| (v &&& BitVec.ofNat 32 r.w1s)

/-- The registers whose write does more than store: ERR_STAT and ERR_MASK of every page, IRQ_STAT of I3C and MODE_STAT of GLB. -/
def storeActs (pg : Page) (o : Nat) : Prop := o = 0x020 ∨ o = 0x024 ∨ (pg = .i3c ∧ o = 0x010) ∨ (pg = .glb ∧ o = 0x100)

theorem Part.storeWord_eq_wr (p : Part) {pg : Page} {o : Nat} {r : RegDef} (v keep : BitVec 32) (hd : pg.defAt o = some r)
    (ha : ¬ storeActs pg o) : p.storeWord pg o v keep = p.wr (pg.base + o) (r.stored (p.rd (pg.base + o)) v keep) := by
  simp only [storeActs, not_or] at ha
  obtain ⟨hstat, hmask, hslot, hmode⟩ := ha
  have hheader : ¬ (pg.hasHdr && (o == 0x020 || o == 0x024)) = true := by
    rw [beq_eq_false_iff_ne.mpr hstat, beq_eq_false_iff_ne.mpr hmask, Bool.or_false, Bool.and_false]
    exact Bool.false_ne_true
  unfold Part.storeWord
  rw [hd]
  simp only
  rw [if_neg hheader, if_neg hslot, if_neg (fun ⟨hg, ho, _⟩ => hmode ⟨hg, ho⟩)]
  rfl

@[simp] theorem Part.headerFix_posted (p : Part) (pg : Page) : (p.headerFix pg).posted = p.posted := by
  unfold Part.headerFix
  simp only [apply_ite Part.posted, Part.irq_posted, Part.setF_posted, ite_self]

@[simp] theorem Part.storeWord_posted (p : Part) (pg : Page) (o : Nat) (v keep : BitVec 32) :
    (p.storeWord pg o v keep).posted = p.posted := by
  unfold Part.storeWord
  split
  · rfl
  · simp only [apply_ite Part.posted, Part.headerFix_posted, Part.irq_posted, Part.wr_posted, ite_self]

@[simp] theorem Part.capShp_posted (p : Part) (n t : Nat) : (p.capShp n t).posted = p.posted :=
  foldl_keeps Part.posted _ (fun q c => by simp only [apply_ite Part.posted, ite_self]) _ p

/-- Where both branches of a choice keep what is posted, the choice keeps it. -/
theorem Part.ite_posted {c : Prop} [Decidable c] {p q r : Part} (hq : q.posted = p.posted) (hr : r.posted = p.posted) :
    (if c then q else r).posted = p.posted := by
  split
  · exact hq
  · exact hr

@[simp] theorem Part.unpair_posted (p : Part) (l m : Nat) : (p.unpair l m).posted = p.posted :=
  calc (p.unpair l m).posted
    _ = ((p.setF (.smw l) SMW.LINK_STAT.TWIN_ACTIVE 0).setF (.smw m) SMW.LINK_STAT.TWIN_ACTIVE 0).posted :=
      (Part.setLk_posted _ m _).trans (Part.setLk_posted _ l _)
    _ = p.posted := (Part.setF_posted _ _ _ _).trans (Part.setF_posted _ _ _ _)

@[simp] theorem Part.linkCtlWrite_posted (p : Part) (l : Nat) (v keep : BitVec 32) : (p.linkCtlWrite l v keep).posted = p.posted := by
  unfold Part.linkCtlWrite
  extract_lets pg self old q
  have hq : q.posted = p.posted := Part.ite_posted (by simp) (by simp)
  clear_value q old
  cases old with
  | none => exact hq
  | some m => exact Part.ite_posted hq ((q.unpair_posted l m).trans hq)

@[simp] theorem Part.applyWord_posted (p : Part) (req : Requester) (pg : Page) (o : Nat) (v : BitVec 32) :
    (p.applyWord req pg o v).posted = p.posted := by
  unfold Part.applyWord
  extract_lets a old guard touched p0 v1 keep
  have h0 : p0.posted = p.posted := Part.ite_posted rfl (by simp)
  clear_value p0 v1 keep
  have hstore (k : BitVec 32) : (p0.storeWord pg o v1 k).posted = p.posted := (Part.storeWord_posted _ _ _ _ _).trans h0
  cases pg with
  | glb => exact Part.ite_posted (by rw [Part.count_posted, Part.setF_posted, hstore]) (hstore _)
  | ffy | cfmb | drc => exact Part.ite_posted ((Part.err_posted _ _ _).trans h0) (hstore _)
  | i3c => exact Part.ite_posted (hstore _) (hstore _)
  | smw l => exact Part.ite_posted ((Part.linkCtlWrite_posted _ _ _ _).trans h0) (hstore _)
  | mbx => exact Part.ite_posted ((Part.wr_posted _ _ _).trans h0) (hstore _)
  | spi => exact Part.ite_posted h0 (hstore _)
  | sch n =>
    have hcap (t : Nat) : (if 0x100 ≤ o ∧ o < 0x128 then (p0.storeWord (.sch n) o v1 keep).capShp n t
        else p0.storeWord (.sch n) o v1 keep).posted = p.posted :=
      Part.ite_posted ((Part.capShp_posted _ n t).trans (hstore keep)) (hstore keep)
    exact Part.ite_posted ((Part.err_posted _ _ _).trans (hcap _)) (hcap _)
  | _ => exact hstore keep

@[simp] theorem Part.xingDrop_posted (p : Part) (pg : Page) : (p.xingDrop pg).posted = p.posted := by
  unfold Part.xingDrop Part.bumpF
  rw [Part.err_posted, Part.setF_posted, Part.setF_posted]

/-- A write dropped at a stopped clock names its page in XING_STAT (R19). -/
theorem Part.xingDrop_lastPage (p : Part) (pg : Page) :
    (p.xingDrop pg).getF .glb GLB.XING_STAT.LAST_PAGE = pg.base / 4096 % 16384 := by
  unfold Part.xingDrop
  have herr (q : Part) : (q.err .glb 1).getF .glb GLB.XING_STAT.LAST_PAGE = q.getF .glb GLB.XING_STAT.LAST_PAGE := by
    unfold Part.getF
    rw [(q.err_touches .glb 1).plain rfl (.inr (by decide))]
  rw [herr, Part.getF_setF _ _ _ _ (by decide)]
  rfl

/-- A dropped write leaves every other page's words alone. -/
theorem Part.rd_xingDrop (p : Part) (pg : Page) {g : Page} (h : g ≠ .glb) (o : Nat) :
    (p.xingDrop pg).rd (g.base + o) = p.rd (g.base + o) := by
  have hb := Page.base_ge_of_ne_glb h
  have hx : g.base + o ≠ Page.glb.base + GLB.XING_STAT.WR_DROP.off := by
    simp only [show Page.glb.base + GLB.XING_STAT.WR_DROP.off = 0x108 from rfl]
    omega
  unfold Part.xingDrop Part.bumpF
  rw [(Part.err_touches _ .glb 1).plain rfl (.inr (by simp only [show Page.glb.base = 0 from rfl]; omega)),
    Part.rd_setF_ne _ _ GLB.XING_STAT.LAST_PAGE _ hx, Part.rd_setF_ne _ _ GLB.XING_STAT.WR_DROP _ hx]

/-! ### A write of one word -/

/-- A write of the header acts at once (R476). -/
theorem Part.writeWord_header {p : Part} {pg : Page} {o : Nat} (req : Requester) (v : BitVec 32) (hu : p.unboundSlot pg = false)
    (hh : pg.hasHdr = true) (ho : o < 0x100) : p.writeWord req pg o v = (p.storeWord pg o v 0, []) := by
  unfold Part.writeWord
  simp [hu, hh, ho]

/-- A write of a CORE page's register acts at once (R16). -/
theorem Part.writeWord_core {p : Part} {pg : Page} {o : Nat} (req : Requester) (v : BitVec 32) (hu : p.unboundSlot pg = false)
    (ho : 0x100 ≤ o) (hw : pg.owner = 0) : p.writeWord req pg o v = (p.coreWord req pg o v, []) := by
  unfold Part.writeWord
  simp [hu, p.clkStopped_of_core hw, hw, show ¬ o < 0x100 by omega]

/-- A write of a register of another clock is posted (R16). -/
theorem Part.writeWord_posts {p : Part} {pg : Page} {o : Nat} (req : Requester) (v : BitVec 32) (hu : p.unboundSlot pg = false)
    (ho : 0x100 ≤ o) (hw : pg.owner ≠ 0) (hc : p.clkStopped pg = false) : p.writeWord req pg o v = (p, [(o, v)]) := by
  unfold Part.writeWord
  simp [hu, hc, hw, show ¬ o < 0x100 by omega]

/-- A write of a register whose clock is stopped is dropped (R19). -/
theorem Part.writeWord_drops {p : Part} {pg : Page} {o : Nat} (req : Requester) (v : BitVec 32) (hu : p.unboundSlot pg = false)
    (ho : 0x100 ≤ o) (hc : p.clkStopped pg = true) : p.writeWord req pg o v = (p.xingDrop pg, []) := by
  unfold Part.writeWord
  simp [hu, hc, show ¬ o < 0x100 by omega]

theorem Part.dropShadow_denied (p : Part) (req : Requester) (pg : Page) (o : Nat) (b : Bool) :
    (p.dropShadow req).denied req pg o b = p.denied req pg o b := rfl

/-- Writes join those on their way (R16). -/
def Part.post (p : Part) (l : List Posted) : Part := { p with posted := p.posted ++ l }

@[simp] theorem Part.post_posted (p : Part) (l : List Posted) : (p.post l).posted = p.posted ++ l := rfl

@[simp] theorem Part.post_rd (p : Part) (l : List Posted) (a : Nat) : (p.post l).rd a = p.rd a := rfl

@[simp] theorem Part.post_getF (p : Part) (l : List Posted) (pg : Page) (f : Fld) : (p.post l).getF pg f = p.getF pg f := rfl

theorem Part.post_nil (p : Part) : p.post [] = p := by
  unfold Part.post
  rw [List.append_nil]

/-- An aligned write of one word that the requester may make: the word is stored or posted, and the access counted (R16, R454). -/
theorem Part.write_eq {p : Part} {req : Requester} {addr o : Nat} {pg : Page} {v : BitVec 32} {q : Part} {l : List (Nat × BitVec 32)}
    (hl : req.locate addr = some (pg, o)) (ha : addr % 4 = 0) (hp : (p.permitted req pg o).1 = true) (hd : pg.defines o = true)
    (hw : (p.dropShadow req).writeWord req pg o v = (q, l)) :
    p.write req addr v none = (q.count .glb 0 1).post (if l = [] then [] else [⟨req, pg.base, l⟩]) := by
  obtain ⟨hcore, hrst, hden⟩ := Part.runs_of_permitted hp
  have hden' := (p.dropShadow_denied req pg o true).trans hden
  unfold Part.write
  simp only [hcore, hrst, hl, hden', hd, hw, Option.isSome_none, Bool.false_eq_true, if_false, ha, Bool.not_true, Bool.or_false,
    ne_eq, not_true_eq_false, if_true]
  split
  · rw [Part.post_nil]
  · rfl

/-! ### The registers the statements name -/

/-- IRQ_EN of a page: the interrupt bits that the page defines are RW (R8, R479). -/
theorem Page.defAt_irqEn {pg : Page} (h : pg.hasHdr = true) :
    pg.defAt 0x14 = some (pg.hdrDef ⟨0x14, 1, 4096, 1, 4096, 0xFFFFFFFF, 0, 0, 0, 0, 0⟩) := by
  unfold Page.defAt
  rw [h]
  rfl

theorem Page.defines_irqEn {pg : Page} (h : pg.hasHdr = true) : pg.defines 0x14 = true := by
  unfold Page.defines
  split
  · rfl
  · rw [show 0x14 / 4 * 4 = 0x14 from rfl, Page.defAt_irqEn h]
    rfl

/-- A mask of all ones, as `simp` writes the complement of 0. -/
theorem and_allOnes32 (x : BitVec 32) : x &&& 0xFFFFFFFF#32 = x := BitVec.and_allOnes

/-- Where a register has RW bits only, a write replaces just those. -/
theorem RegDef.stored_rw {r : RegDef} (h1 : r.w1c = 0) (h2 : r.w1s = 0) (old v : BitVec 32) :
    r.stored old v 0 = (old &&& ~~~(BitVec.ofNat 32 r.rw)) ||| (v &&& BitVec.ofNat 32 r.rw) := by
  unfold RegDef.stored
  simp [h1, h2, and_allOnes32]

theorem Page.irqEn_stored (pg : Page) (old v : BitVec 32) :
    (pg.hdrDef ⟨0x14, 1, 4096, 1, 4096, 0xFFFFFFFF, 0, 0, 0, 0, 0⟩).stored old v 0 =
      (old &&& ~~~(BitVec.ofNat 32 pg.irqMask)) ||| (v &&& BitVec.ofNat 32 pg.irqMask) := by
  have hrw : BitVec.ofNat 32 (Nat.land 0xFFFFFFFF pg.irqMask) = BitVec.ofNat 32 pg.irqMask := by
    show BitVec.ofNat 32 (0xFFFFFFFF &&& pg.irqMask) = _
    rw [BitVec.ofNat_and]
    exact BitVec.allOnes_and
  rw [RegDef.stored_rw (Nat.zero_and _) rfl]
  exact congrArg (fun m : BitVec 32 => (old &&& ~~~m) ||| (v &&& m)) hrw

/-- A word of BUF that no command of its own writes is stored as it comes. -/
theorem Part.coreWord_buf (p : Part) (req : Requester) (o : Nat) (v : BitVec 32) (h : ownBits .buf o = 0) :
    p.coreWord req .buf o v = p.storeWord .buf o v 0 := by
  unfold Part.coreWord Part.applyWord
  simp [h, chitinBits, and_allOnes32]

theorem Part.applyWord_clk (p : Part) (req : Requester) (o : Nat) (v : BitVec 32) :
    p.applyWord req .clk o v = p.storeWord .clk o v 0 := by
  unfold Part.applyWord
  simp [ownBits, chitinBits, and_allOnes32]

/-- A field that lies within a register's RW bits reads what was written there. -/
theorem Fld.of_stored {r : RegDef} {f : Fld} (h1 : r.w1c = 0) (h2 : r.w1s = 0) (hf : f.lo + f.w ≤ 32)
    (hm : ∀ i < f.w, (BitVec.ofNat 32 r.rw).getLsbD (f.lo + i) = true) (old v : BitVec 32) :
    f.of (r.stored old v 0) = v.toNat / 2 ^ f.lo % 2 ^ f.w := by
  rw [RegDef.stored_rw h1 h2]
  apply Nat.eq_of_testBit_eq
  intro i
  rw [Fld.of_testBit _ _ _ (by omega), Nat.testBit_mod_two_pow, Nat.testBit_div_two_pow, BitVec.testBit_toNat]
  by_cases hi : i < f.w
  · have hb := hm i hi
    simp [hi, hb, Nat.add_comm i f.lo]
  · simp [hi]

/-! ### Clearing reads -/

/-- A field all of whose bits are cleared reads 0. -/
theorem Fld.of_cleared {f : Fld} {m : BitVec 32} (v : BitVec 32) (hw : f.w ≤ 32) (hm : ∀ i < f.w, m.getLsbD (f.lo + i) = true) :
    f.of (v &&& ~~~m) = 0 := by
  apply Nat.eq_of_testBit_eq
  intro i
  rw [Fld.of_testBit _ _ _ hw]
  by_cases hi : i < f.w
  · simp [hm i hi]
  · simp [hi]

/-- A field none of whose bits is cleared reads as before. -/
theorem Fld.of_kept {f : Fld} {m : BitVec 32} (v : BitVec 32) (hf : f.lo + f.w ≤ 32) (hm : ∀ i < f.w, m.getLsbD (f.lo + i) = false) :
    f.of (v &&& ~~~m) = f.of v := by
  apply Nat.eq_of_testBit_eq
  intro i
  rw [Fld.of_testBit _ _ _ (by omega), Fld.of_testBit _ _ _ (by omega)]
  by_cases hi : i < f.w
  · rw [BitVec.getLsbD_and, BitVec.getLsbD_not, hm i hi]
    simp [show f.lo + i < 32 by omega]
  · simp [hi]

/-- A clearing read of XING_STAT by a requester of register space: it answers the word and clears WR_DROP (R9). -/
theorem Part.readVal_xingStat {p : Part} {req : Requester} {addr : Nat} (hl : req.locate addr = some (.glb, 0x108))
    (hr : req = .chitin ∨ req = .colony) (hs : p.shadow.find? (fun e => e.1 = req ∧ e.2.1 = addr) = none) :
    p.readVal req addr false = (((p.dropShadow req).wr (Page.glb.base + 0x108) (p.rd (Page.glb.base + 0x108) &&& ~~~0xFFFF)).count .glb 0 1,
      (p.rd (Page.glb.base + 0x108)).setWidth 64) := by
  have hden : (p.dropShadow req).denied req .glb 0x108 false = none := by
    obtain rfl | rfl := hr <;> rfl
  have hword : (p.dropShadow req).readWord req addr =
      (((p.dropShadow req).wr (Page.glb.base + 0x108) (p.rd (Page.glb.base + 0x108) &&& ~~~0xFFFF)).count .glb 0 1,
        p.rd (Page.glb.base + 0x108)) := by
    unfold Part.readWord
    rw [hl]
    simp only [hden]
    rfl
  unfold Part.readVal
  rw [hs]
  simp only [hl, hword, show Page.glb.wide 0x108 = false from rfl, Bool.false_eq_true, if_false]

theorem Part.read_aligned {p : Part} {req : Requester} {addr : Nat} (hm : p.md.mode.core = true) (hr : p.ffy.chipRst = false)
    (ha : addr % 4 = 0) : p.read req addr false =
      (p.readVal req addr false).1.emit (.readData req addr (p.readVal req addr false).2) := by
  unfold Part.read
  simp [hm, hr, ha]

/-! ### The page header's commands -/

theorem Part.rd_foldl_wr_zero (f : Nat → Nat) (a : Nat) : ∀ (l : List Nat) (p : Part),
    (l.foldl (fun (q : Part) i => q.wr (f i) 0) p).rd a = if a ∈ l.map f then 0 else p.rd a
  | [], p => by simp
  | i :: l, p => by
    rw [List.foldl_cons, Part.rd_foldl_wr_zero f a l, Part.rd_wr]
    by_cases h : a = f i <;> simp [h]

/-- The counters of a page read 0 after CLEAR (R455). -/
theorem Part.rd_zeroCounters (p : Part) (pg : Page) {i : Nat} (h : i < 16) : (p.zeroCounters pg).rd (pg.base + 0x80 + 4 * i) = 0 := by
  unfold Part.zeroCounters
  rw [Part.rd_foldl_wr_zero (fun i => pg.base + 0x080 + 4 * i), if_pos]
  exact List.mem_map.mpr ⟨i, List.mem_range.mpr h, rfl⟩

theorem Part.rd_zeroCounters_ne (p : Part) (pg : Page) {a : Nat} (h : a < pg.base + 0x80 ∨ pg.base + 0xC0 ≤ a) :
    (p.zeroCounters pg).rd a = p.rd a := by
  unfold Part.zeroCounters
  rw [Part.rd_foldl_wr_zero (fun i => pg.base + 0x080 + 4 * i), if_neg]
  rintro hm
  obtain ⟨i, hi, rfl⟩ := List.mem_map.mp hm
  have := List.mem_range.mp hi
  omega

@[simp] theorem Part.zeroCounters_posted (p : Part) (pg : Page) : (p.zeroCounters pg).posted = p.posted := by
  unfold Part.zeroCounters
  exact foldl_keeps Part.posted _ (fun q _ => q.wr_posted _ _) _ p

/-- The register words that SOFT_RESET of a page leaves (R478). -/
def Part.resetHeader (p : Part) (pg : Page) : Part :=
  ((Part.zeroCounters (((p.wr (pg.base + 0x010) 0).wr (pg.base + 0x020) 0).wr (pg.base + 0x030) 0) pg).wr (pg.base + 0x040)
    (resetWord (pg.base + 0x040))).wr (pg.base + 0x0C0) 0

theorem Part.resetHeader_posted (p : Part) (pg : Page) : (p.resetHeader pg).posted = p.posted := by
  unfold Part.resetHeader
  rw [Part.wr_posted, Part.wr_posted, Part.zeroCounters_posted, Part.wr_posted, Part.wr_posted, Part.wr_posted]

/-- SOFT_RESET clears the header and crosses to the controllers of GPIO, I3C and SPI as a posted write (R476, R478). -/
theorem Part.softReset_eq (p : Part) (req : Requester) (pg : Page) :
    p.softReset req pg = (p.resetHeader pg).post (if pg = .gpio ∨ pg = .i3c ∨ pg = .spi then [⟨req, pg.base, [(8, 2)]⟩] else []) := by
  have hshape : ∀ q : Part, (match pg with
      | .gpio | .i3c | .spi => q.post [⟨req, pg.base, [(8, 2)]⟩]
      | _ => q) = q.post (if pg = .gpio ∨ pg = .i3c ∨ pg = .spi then [⟨req, pg.base, [(8, 2)]⟩] else []) := by
    intro q
    cases pg <;> simp [Part.post]
  exact hshape (p.resetHeader pg)

/-- The header words below the counters that SOFT_RESET clears: IRQ_STAT, ERR_STAT and ERR_FIRST. -/
theorem Part.rd_resetHeader_status (p : Part) (pg : Page) {o : Nat} (h : o = 0x10 ∨ o = 0x20 ∨ o = 0x30) :
    (p.resetHeader pg).rd (pg.base + o) = 0 := by
  unfold Part.resetHeader
  rw [Part.rd_wr_ne _ _ (by omega), Part.rd_wr_ne _ _ (by omega), Part.rd_zeroCounters_ne _ _ (by omega)]
  simp only [Part.rd_wr, Nat.add_left_cancel_iff]
  obtain rfl | rfl | rfl := h <;> rfl

theorem Part.rd_resetHeader_counter (p : Part) (pg : Page) {i : Nat} (h : i < 16) :
    (p.resetHeader pg).rd (pg.base + 0x80 + 4 * i) = 0 := by
  unfold Part.resetHeader
  rw [Part.rd_wr_ne _ _ (by omega), Part.rd_wr_ne _ _ (by omega), Part.rd_zeroCounters _ _ h]

theorem Part.rd_irq_same (p : Part) (pg : Page) (m : Nat) :
    (p.irq pg m).rd (pg.base + 0x10) = p.rd (pg.base + 0x10) ||| BitVec.ofNat 32 m := Part.rd_wr_same _ _ _

/-- The bits of a mask that a written word sets. -/
theorem ofNat_land_toNat (m : Nat) (w : BitVec 32) : BitVec.ofNat 32 (Nat.land m w.toNat) = w &&& BitVec.ofNat 32 m := by
  show BitVec.ofNat 32 (m &&& w.toNat) = _
  rw [BitVec.ofNat_and, BitVec.ofNat_toNat, BitVec.setWidth_eq, BitVec.and_comm]

/-- Error bits are set in ERR_STAT beside those that stand there (R334). -/
theorem Part.rd_errBits_stat (p : Part) (pg : Page) (m : Nat) (inj : Bool) :
    (p.errBits pg m inj).rd (pg.base + 0x20) = p.rd (pg.base + 0x20) ||| BitVec.ofNat 32 m := by
  unfold Part.errBits
  extract_lets a old new lowest several p1 p2
  split
  · rename_i hsame
    exact (BitVec.eq_of_toNat_eq hsame).symm
  · have h1 : p1.rd (pg.base + 0x20) = p.rd (pg.base + 0x20) ||| BitVec.ofNat 32 m := by
      rw [Part.rd_wr_same, BitVec.ofNat_toNat, BitVec.setWidth_eq]
    have h2 : p2.rd (pg.base + 0x20) = p1.rd (pg.base + 0x20) := by
      show (if old = 0 then _ else _ : Part).rd _ = _
      split
      · exact Part.rd_wr_ne _ _ (by omega)
      · exact Part.rd_setF_ne _ _ _ _ (by simp [HDR.ERR_FIRST.MULTI])
    split
    · rw [Part.rd_irq_ne _ _ _ (by omega), h2, h1]
    · rw [h2, h1]

/-! ### Posted writes -/

@[simp] theorem Part.srstDone_posted (p : Part) (pg : Page) : (p.srstDone pg).posted = p.posted := by
  cases pg <;> rfl

/-- One posted word reaches its page: a controller's reset, a drop at a stopped clock, or the write itself (R16, R19, R478). -/
def Part.settleWord (p : Part) (req : Requester) (pg : Page) (x : Nat × BitVec 32) : Part :=
  if x.1 = 8 then p.srstDone pg else if p.clkStopped pg then p.xingDrop pg else p.applyWord req pg x.1 x.2

theorem Part.settleWord_posted (p : Part) (req : Requester) (pg : Page) (x : Nat × BitVec 32) :
    (p.settleWord req pg x).posted = p.posted :=
  Part.ite_posted (p.srstDone_posted pg) (Part.ite_posted (p.xingDrop_posted pg) (p.applyWord_posted req pg x.1 x.2))

/-- The oldest posted write of a requester to a page leaves the list, and its words reach the page in order. -/
theorem Part.settlePosted_eq {p : Part} {req : Requester} {page : Nat} {x : Posted}
    (h : p.posted.find? (fun y => y.req = req ∧ y.page = page) = some x) :
    p.settlePosted req page = match pageOf page with
      | none => { p with posted := p.posted.erase x }
      | some pg => x.words.foldl (fun q w => q.settleWord req pg w) { p with posted := p.posted.erase x } := by
  unfold Part.settlePosted
  rw [h]
  cases pageOf page <;> rfl

/-- A posted write that takes effect leaves the list, and nothing else in the list changes. -/
theorem Part.settlePosted_posted {p : Part} {req : Requester} {page : Nat} {x : Posted}
    (h : p.posted.find? (fun y => y.req = req ∧ y.page = page) = some x) :
    (p.settlePosted req page).posted = p.posted.erase x := by
  rw [Part.settlePosted_eq h]
  cases pageOf page with
  | none => rfl
  | some pg => exact foldl_keeps Part.posted _ (fun q w => q.settleWord_posted req pg w) _ _

/-- A posted write of one word that is no controller's reset: it takes effect, or is dropped at a stopped clock (R16, R19). -/
theorem Part.settlePosted_word {p : Part} {req : Requester} {pg : Page} {x : Posted} {k : Nat} {v : BitVec 32}
    (h : p.posted.find? (fun y => y.req = req ∧ y.page = pg.base) = some x) (hx : x.words = [(k, v)]) (hk : k ≠ 8)
    (hp : pageOf pg.base = some pg) : p.settlePosted req pg.base =
      if p.clkStopped pg = true then Part.xingDrop { p with posted := p.posted.erase x } pg
      else Part.applyWord { p with posted := p.posted.erase x } req pg k v := by
  rw [Part.settlePosted_eq h, hp, hx]
  exact if_neg hk

end Sys2Proof.Machine

namespace Sys2Proof

open Sys2Proof.Machine

/-! ### Register writes -/

/-- A command whose meaning is lifted from the part completes with what the lifted operation gives. -/
theorem completes_via {c : Instr} {s : State} {f : Part → Part} {Q : State → Prop} (he : exec c s = s.via f)
    (hq : Q { s with part := f s.part }) : Completes c s Q := ⟨_, he, hq⟩

/-- A write of a permitted word, by what it does to the page's word and posts. -/
theorem completes_registerWrite {s : State} {req : Requester} {addr o : Nat} {pg : Page} {w : BitVec 32} {q : Part}
    {l : List (Nat × BitVec 32)} {Q : State → Prop} (hl : req.locate addr = some (pg, o)) (ha : addr % 4 = 0)
    (hp : Permits s req pg o) (hd : pg.defines o = true) (hw : (s.part.dropShadow req).writeWord req pg o w = (q, l))
    (hq : Q { s with part := (q.count .glb 0 1).post (if l = [] then [] else [⟨req, pg.base, l⟩]) }) :
    Completes (.registerWrite req addr w none) s Q := by
  refine completes_via (f := fun p => p.write req addr w none) rfl ?_
  rw [Part.write_eq hl ha hp hd hw]
  exact hq

/-- IRQ_EN takes a write at once, with the bits that the page does not define as they were (R8, R16). -/
theorem registerWrite_irqEn {s : State} {req : Requester} {addr : Nat} {pg : Page} (w : BitVec 32)
    (hl : req.locate addr = some (pg, 0x14)) (hh : pg.hasHdr = true) (hu : s.part.unboundSlot pg = false) (ha : addr % 4 = 0)
    (hp : Permits s req pg 0x14) :
    Completes (.registerWrite req addr w none) s (fun t => t.part.rd (pg.base + 0x14) =
        (s.part.rd (pg.base + 0x14) &&& ~~~(BitVec.ofNat 32 pg.irqMask)) ||| (w &&& BitVec.ofNat 32 pg.irqMask) ∧
      t.part.posted = s.part.posted) := by
  refine completes_registerWrite hl ha hp (Page.defines_irqEn hh) (Part.writeWord_header req w hu hh (by decide)) ⟨?_, ?_⟩
  · rw [Part.post_rd, Part.rd_count_glb _ _ _ _ (by decide), Part.storeWord_eq_wr _ _ _ (Page.defAt_irqEn hh) (by simp [storeActs]),
      Part.rd_wr_same, Page.irqEn_stored]
    rfl
  · simp [Part.dropShadow]

/-- A CORE page's register takes a write at once: AGE_CTL of BUF (R16). -/
theorem registerWrite_ageCtl {s : State} {req : Requester} {addr : Nat} (w : BitVec 32)
    (hl : req.locate addr = some (.buf, 0x114)) (ha : addr % 4 = 0) (hp : Permits s req .buf 0x114) :
    Completes (.registerWrite req addr w none) s (fun t => t.part.getF .buf BUF.AGE_CTL.DROP_US = w.toNat % 65536 ∧
      t.part.posted = s.part.posted) := by
  have hcore : (s.part.dropShadow req).writeWord req .buf 0x114 w = ((s.part.dropShadow req).storeWord .buf 0x114 w 0, []) := by
    rw [Part.writeWord_core req w rfl (by decide) rfl, Part.coreWord_buf _ _ _ _ rfl]
  refine completes_registerWrite hl ha hp rfl hcore ⟨?_, ?_⟩
  · rw [Part.post_getF, Part.getF_count_glb _ _ _ _ _ (by decide),
      Part.storeWord_eq_wr (r := ⟨0x114, 1, 4096, 1, 4096, 0xFFFF, 0, 0, 0, 0, 0x32⟩) _ _ _ rfl (by simp [storeActs])]
    unfold Part.getF
    rw [show BUF.AGE_CTL.DROP_US.off = 0x114 from rfl, Part.rd_wr_same, Fld.of_stored rfl rfl (by decide) (by decide)]
    exact congrArg (· % 65536) (Nat.div_one _)
  · simp [Part.dropShadow]

/-- A register of a page of another clock is posted until its crossing (R16). -/
theorem registerWrite_posts {s : State} {req : Requester} {addr o : Nat} {pg : Page} (w : BitVec 32)
    (hl : req.locate addr = some (pg, o)) (hu : s.part.unboundSlot pg = false) (hw : pg.owner ≠ 0) (ho : 0x100 ≤ o)
    (hd : pg.defines o = true) (ha : addr % 4 = 0) (hp : Permits s req pg o) (hc : s.part.clkStopped pg = false) :
    Completes (.registerWrite req addr w none) s (fun t =>
      t.part.posted = s.part.posted ++ [⟨req, pg.base, [(o, w)]⟩] ∧ t.part.rd (pg.base + o) = s.part.rd (pg.base + o)) := by
  refine completes_registerWrite hl ha hp hd (Part.writeWord_posts req w hu ho hw hc) ⟨?_, ?_⟩
  · simp [Part.dropShadow]
  · rw [Part.post_rd, Part.rd_count_glb_page _ _ _ (Page.ne_glb_of_owner hw)]
    rfl

/-- A write towards a page whose clock is stopped is dropped, and XING_STAT names the page (R19). -/
theorem registerWrite_drops {s : State} {req : Requester} {addr o : Nat} {pg : Page} (w : BitVec 32)
    (hl : req.locate addr = some (pg, o)) (hu : s.part.unboundSlot pg = false) (hw : pg.owner ≠ 0) (ho : 0x100 ≤ o)
    (hd : pg.defines o = true) (ha : addr % 4 = 0) (hp : Permits s req pg o) (hc : s.part.clkStopped pg = true) :
    Completes (.registerWrite req addr w none) s (fun t => t.part.posted = s.part.posted ∧
      t.part.rd (pg.base + o) = s.part.rd (pg.base + o) ∧
      t.part.getF .glb GLB.XING_STAT.LAST_PAGE = pg.base / 4096 % 16384) := by
  have hg := Page.ne_glb_of_owner hw
  refine completes_registerWrite hl ha hp hd (Part.writeWord_drops req w hu ho hc) ⟨?_, ?_, ?_⟩
  · simp [Part.dropShadow]
  · rw [Part.post_rd, Part.rd_count_glb_page _ _ _ hg, Part.rd_xingDrop _ _ hg]
    rfl
  · rw [Part.post_getF, Part.getF_count_glb _ _ _ _ _ (by decide), Part.xingDrop_lastPage]

/-! ### Clearing reads -/

/-- A read of XING_STAT answers the word, clears WR_DROP and keeps LAST_PAGE (R9, R19). -/
theorem clearingRead_xingStat {s : State} {req : Requester} {addr : Nat} (hl : req.locate addr = some (.glb, 0x108))
    (ha : addr % 4 = 0) (hr : req = .chitin ∨ req = .colony) (hcore : s.part.md.mode.core = true) (hrst : s.part.ffy.chipRst = false)
    (hs : s.part.shadow.find? (fun e => e.1 = req ∧ e.2.1 = addr) = none) :
    Completes (.clearingRead req addr false) s (fun t => t.part.getF .glb GLB.XING_STAT.WR_DROP = 0 ∧
      t.part.getF .glb GLB.XING_STAT.LAST_PAGE = s.part.getF .glb GLB.XING_STAT.LAST_PAGE ∧
      t.part.out = s.part.out ++ [.readData req addr ((s.part.rd (Page.glb.base + 0x108)).setWidth 64)]) := by
  have hword : ∀ f : Fld, f.off = 0x108 → (((s.part.dropShadow req).wr (Page.glb.base + 0x108)
      (s.part.rd (Page.glb.base + 0x108) &&& ~~~0xFFFF)).count .glb 0 1).getF .glb f =
        f.of (s.part.rd (Page.glb.base + 0x108) &&& ~~~0xFFFF) := by
    intro f hf
    rw [Part.getF_count_glb _ _ _ _ _ (by omega), Part.getF, hf, Part.rd_wr_same]
  refine completes_via (f := fun p => p.read req addr false) rfl ?_
  rw [Part.read_aligned hcore hrst ha, Part.readVal_xingStat hl hr hs]
  refine ⟨(hword GLB.XING_STAT.WR_DROP rfl).trans ?_, (hword GLB.XING_STAT.LAST_PAGE rfl).trans ?_, ?_⟩
  · exact Fld.of_cleared _ (by decide) (by decide)
  · exact Fld.of_kept _ (by decide) (by decide)
  · show Part.out (Part.count _ _ _ _) ++ _ = _
    rw [Part.count_out]
    rfl

/-! ### The page header's commands -/

/-- A permitted command on the header of a page acts on the admitted part. -/
theorem completes_onPage {c : Instr} {s : State} {req : Requester} {addr o k : Nat} {pg : Page} {f : Part → Page → Part} {Q : State → Prop}
    (he : exec c s = s.via (fun p => p.onPage req addr o f)) (hl : req.locate addr = some (pg, k)) (ho : o < 0x100)
    (hp : Permits s req pg o) (hq : Q { s with part := f (s.part.admitted req) pg }) : Completes c s Q := by
  refine completes_via he ?_
  rw [Part.onPage_header f hl ho hp]
  exact hq

section
variable {s : State} {req : Requester} {addr o : Nat} {pg : Page} (hl : req.locate addr = some (pg, o)) (hh : pg.hasHdr = true)
  (hu : s.part.unboundSlot pg = false)
include hl hh hu

/-- SOFT_RESET clears status, errors and counters of the page, and crosses to a controller that has a reset of its own (R476, R478). -/
theorem softReset_completes (hp : Permits s req pg 8) :
    Completes (.softReset req addr) s (fun t => t.part.rd (pg.base + 0x10) = 0 ∧ t.part.rd (pg.base + 0x20) = 0 ∧
      t.part.getF pg HDR.ERR_FIRST.VALID = 0 ∧ (∀ i < 16, t.part.rd (pg.base + 0x80 + 4 * i) = 0) ∧
      t.part.posted = s.part.posted ++ (if pg = .gpio ∨ pg = .i3c ∨ pg = .spi then [⟨req, pg.base, [(8, 2)]⟩] else [])) := by
  have hbound := (s.part.unboundSlot_admitted req pg).trans hu
  have hreset : (s.part.admitted req).softResetOf req pg = (s.part.admitted req).softReset req pg := by
    simp [Part.softResetOf, hh, hbound]
  refine completes_onPage rfl hl (by decide) hp ?_
  rw [hreset, Part.softReset_eq]
  refine ⟨?_, ?_, ?_, fun i hi => ?_, ?_⟩
  · rw [Part.post_rd, Part.rd_resetHeader_status _ _ (.inl rfl)]
  · rw [Part.post_rd, Part.rd_resetHeader_status _ _ (.inr (.inl rfl))]
  · rw [Part.post_getF, Part.getF, show HDR.ERR_FIRST.VALID.off = 0x30 from rfl, Part.rd_resetHeader_status _ _ (.inr (.inr rfl))]
    rfl
  · rw [Part.post_rd, Part.rd_resetHeader_counter _ _ hi]
  · rw [Part.post_posted, Part.resetHeader_posted, Part.admitted_posted]

/-- Bits written to IRQ_SET stand in IRQ_STAT, those that the page defines (R479). -/
theorem irqSet_completes (w : BitVec 32) (hg : pg ≠ .glb) (hp : Permits s req pg 0x18) :
    Completes (.irqSet req addr w) s (fun t => t.part.rd (pg.base + 0x10) =
      s.part.rd (pg.base + 0x10) ||| (w &&& BitVec.ofNat 32 pg.irqMask)) := by
  have hbound := (s.part.unboundSlot_admitted req pg).trans hu
  have hset : (s.part.admitted req).irqSet pg w.toNat = (s.part.admitted req).irq pg (Nat.land pg.irqMask w.toNat) := by
    simp [Part.irqSet, hh, hbound]
  refine completes_onPage rfl hl (by decide) hp ?_
  rw [hset, Part.rd_irq_same, ofNat_land_toNat, Part.rd_admitted_page _ _ hg]

/-- Bits written to ERR_INJ stand in ERR_STAT, those that the page defines (R334). -/
theorem errInj_completes (w : BitVec 32) (hp : Permits s req pg 0x2C) :
    Completes (.errInj req addr w) s (fun t => t.part.rd (pg.base + 0x20) =
      s.part.rd (pg.base + 0x20) ||| (w &&& BitVec.ofNat 32 pg.errMask)) := by
  have hbound := (s.part.unboundSlot_admitted req pg).trans hu
  have hinj : (s.part.admitted req).errInject pg w.toNat = (s.part.admitted req).errBits pg (Nat.land pg.errMask w.toNat) true := by
    simp [Part.errInject, hh, hbound]
  refine completes_onPage rfl hl (by decide) hp ?_
  rw [hinj, Part.rd_errBits_stat, ofNat_land_toNat, Part.rd_admitted _ _ _ (by decide)]

/-- CLEAR returns the page's counters to 0 (R455). -/
theorem counterClear_completes (hp : Permits s req pg 0x40) :
    Completes (.counterClear req addr) s (fun t => ∀ i < 16, t.part.rd (pg.base + 0x80 + 4 * i) = 0) := by
  have hbound := (s.part.unboundSlot_admitted req pg).trans hu
  have hclear : (s.part.admitted req).clearCounters pg = (s.part.admitted req).zeroCounters pg := by
    simp [Part.clearCounters, hh, hbound]
  refine completes_onPage rfl hl (by decide) hp fun i hi => ?_
  rw [hclear, Part.rd_zeroCounters _ _ hi]

end

/-- Chitin locks a page (R478). -/
theorem lock_completes {s : State} {addr o : Nat} {pg : Page} (hl : Requester.chitin.locate addr = some (pg, o))
    (hh : pg.hasHdr = true) (hg : pg ≠ .cht) (hp : Permits s .chitin pg 8) :
    Completes (.lock .chitin addr) s (fun t => t.part.bit pg HDR.PAGE_CTL.LOCK = true) := by
  refine completes_onPage rfl hl (by decide) hp ?_
  rw [if_pos ⟨rfl, hg, hh⟩, Part.bit, Part.getF_setF _ _ _ _ (by decide)]
  rfl

/-! ### Posted writes -/

/-- The oldest posted write of the requester to the page leaves the list and takes effect, or is dropped (R16, R19). -/
theorem postedWriteEffect_completes {s : State} {req : Requester} {addr o : Nat} {pg : Page} {Q : State → Prop}
    (hl : req.locate addr = some (pg, o)) (hq : Q { s with part := s.part.settlePosted req pg.base }) :
    Completes (.postedWriteEffect req addr) s Q := by
  refine completes_via (f := fun p => match req.locate addr with
    | none => p
    | some (pg, _) => p.settlePosted req pg.base) rfl ?_
  rw [hl]
  exact hq

/-- A posted write of DROOP_CFG takes effect in CLK, whose clock never stops (R16). -/
theorem postedWriteEffect_droopCfg {s : State} {req : Requester} {addr : Nat} {x : Posted} {w : BitVec 32}
    (hl : req.locate addr = some (.clk, 0x108))
    (hx : s.part.posted.find? (fun y => y.req = req ∧ y.page = Page.clk.base) = some x) (hw : x.words = [(0x108, w)]) :
    Completes (.postedWriteEffect req addr) s (fun t => t.part.posted = s.part.posted.erase x ∧
      t.part.getF .clk CLK.DROOP_CFG.HOLD_CYC = w.toNat / 2 ^ 16 % 256) := by
  refine postedWriteEffect_completes hl ⟨Part.settlePosted_posted hx, ?_⟩
  rw [Part.settlePosted_word hx hw (by decide) rfl, if_neg (by simp [Part.clkStopped]), Part.applyWord_clk,
    Part.storeWord_eq_wr (r := ⟨0x108, 1, 4096, 1, 4096, 0x00FF3F3F, 0, 0, 0, 0, 0x00203C1E⟩) _ _ _ rfl (by simp [storeActs])]
  unfold Part.getF
  rw [show CLK.DROOP_CFG.HOLD_CYC.off = 0x108 from rfl, Part.rd_wr_same, Fld.of_stored rfl rfl (by decide) (by decide)]
  rfl

/-- Settles O17: each clause is one of the theorems above, on the page and offset that the address names. -/
theorem registerAccess : Obligations.RegisterAccess := by
  unfold Obligations.RegisterAccess
  refine ⟨fun s req addr o pg w hl hh hu => ⟨?_, ?_, ?_, ?_, ?_, ?_, ?_, ?_, ?_⟩, ?_, ?_⟩
  · rintro rfl ha hp
    exact registerWrite_irqEn w hl hh hu ha hp
  · rintro rfl rfl ha hp
    exact registerWrite_ageCtl w hl ha hp
  · intro hw ho hd ha hp
    exact ⟨registerWrite_posts w hl hu hw ho hd ha hp, registerWrite_drops w hl hu hw ho hd ha hp⟩
  · rintro rfl rfl ha hr hcore hrst hs
    exact clearingRead_xingStat hl ha hr hcore hrst hs
  · exact softReset_completes hl hh hu
  · rintro hp rfl hg
    exact lock_completes hl hh hg hp
  · exact fun hp hg => irqSet_completes hl hh hu w hg hp
  · exact errInj_completes hl hh hu w
  · exact counterClear_completes hl hh hu
  · intro s req addr o pg x hl hx
    exact postedWriteEffect_completes hl ⟨Part.settlePosted_posted hx, fun k v hw hk hp => Part.settlePosted_word hx hw hk hp⟩
  · intro s req addr x w hl hx hw
    exact postedWriteEffect_droopCfg hl hx hw

end Sys2Proof
end
